-- ==== Sys2Proof/Word.lean ====
section
/-! DEFINITION. The native word of the 4872 (spec/02 R29, R30): a 64-bit value and an 8-bit tag, and the tag kinds of
Table 2.1. Bit 0 is the least significant bit (R5). -/

namespace Sys2Proof

/-- A byte of a frame, of the boot flash or of a register access. -/
abbrev Byte := BitVec 8

/-- The value field [63:0] of a native word. -/
abbrev Val := BitVec 64

/-- The tag [71:64] of a native word. -/
abbrev Tag := BitVec 8

/-- A native word of 72 bits (R29). -/
structure Word where
  tag : Tag
  val : Val
  deriving DecidableEq, Repr, Inhabited

/-- The tag kinds of Table 2.1, read from tag bits [71:70]. -/
inductive TagKind where
  | data | handle | code | poison
  deriving DecidableEq, Repr

/-- A DATA word. -/
def Word.data (v : Val) : Word := ⟨0, v⟩

/-- The word that every memory of R50 and of Sequence 2.1 is filled with: value 0, tag DATA. -/
def Word.zero : Word := ⟨0, 0⟩

/-- The kind of a tag (Table 2.1), before R30 is applied. -/
def Tag.kind (t : Tag) : TagKind :=
  match (t.toNat / 64) % 4 with
  | 0 => .data
  | 1 => .handle
  | 2 => .code
  | _ => .poison

/-- The kind of a word's tag. -/
def Word.kind (w : Word) : TagKind := Tag.kind w.tag

/-- Tag bits [69:64]: the owner account of a HANDLE, the cause of a POISON word. -/
def Tag.low6 (t : Tag) : Nat := t.toNat % 64

/-- R30: a DATA or CODE tag with a non-zero [69:64] is a reserved encoding. -/
def Tag.reserved (t : Tag) : Bool :=
  (Tag.kind t == .data || Tag.kind t == .code) && Tag.low6 t != 0

/-- R30: what a load, a fetch or a helper takes from a stored word: a reserved tag becomes 0xFF, the value stays. -/
def Word.readAs (w : Word) : Word := if Tag.reserved w.tag then ⟨0xFF, w.val⟩ else w

/-- The HANDLE tag with owner account `a` (Table 2.1). -/
def Tag.ofAccount (a : Nat) : Tag := BitVec.ofNat 8 (64 + a % 64)

/-- The CODE tag (Table 2.1). -/
def Tag.codeTag : Tag := 0x80

/-- The POISON tag with cause `c` (Table 2.1). -/
def Tag.ofCause (c : Nat) : Tag := BitVec.ofNat 8 (192 + c % 64)

/-- Bits [lo + n − 1 : lo] of a number (R5, R6). -/
def bits (x lo n : Nat) : Nat := (x / 2 ^ lo) % 2 ^ n

/-- R31: the byte at word address + k of a value, k = 0 to 7. -/
def byteOf (v : Val) (k : Nat) : Byte := BitVec.ofNat 8 (v.toNat / 2 ^ (56 - 8 * k))

/-- Bytes in address order as one number, the first the most significant (R31, R33). -/
def beNat (bs : List Byte) : Nat := bs.foldl (fun acc b => acc * 256 + b.toNat) 0

/-- The `n` low bytes of a number, most significant first. -/
def beBytes : Nat → Nat → List Byte
  | 0, _ => []
  | n + 1, x => beBytes n (x / 256) ++ [BitVec.ofNat 8 x]

/-- Bytes as one number, the first the least significant (the order of R353 and R414). -/
def leNat : List Byte → Nat
  | [] => 0
  | b :: r => b.toNat + 256 * leNat r

/-- The `n` low bytes of a number, least significant first. -/
def leBytes : Nat → Nat → List Byte
  | 0, _ => []
  | n + 1, x => BitVec.ofNat 8 x :: leBytes n (x / 256)

/-- A value saturated at `m`. -/
def satTo (m x : Nat) : Nat := if x > m then m else x

end Sys2Proof
end

