-- ==== Sys2Proof/Syntax.lean ====
section
/-! DEFINITION. The commands: one constructor for each row of spec/opcode_table.json, with the row's operands. A row that is
an instruction of a core carries the thread that issues it and the fields of its instruction word; a row that is an event
carries what the environment decides (a frame's bytes, a level, a pass or a failure). Within the table's order, the rows
without operands stand last. -/

namespace Sys2Proof

/-- A thread that issues instructions: 0 to 191 the worker threads, 192 and 193 the Puppeteer cores (spec/04 R159). -/
abbrev Tid := Fin 194

/-- A general register number (spec/04 Table 4.1). -/
abbrev Reg := Fin 32

/-- A ring frame as it arrives: its bytes with the CRC, whether it was ended with an error (spec/10 R341), station time of
its start block (ns in [95:32] and fraction), and its residence in the node in units of 2⁻¹⁶ ns (spec/10 R390). -/
structure RingRx where
  bytes : List (BitVec 8)
  cut : Bool
  time : BitVec 96
  res : BitVec 32
  deriving DecidableEq, Repr

/-- The commands of the 4872. (log entry 10, DESIGN CHOICE). -/
inductive Instr where
  /-- `REGISTER_WRITE`. A software write of `v` to the M-bus register at `addr` (spec/00 R9). -/
  | registerWrite (addr : BitVec 32) (v : BitVec 32)
  /-- `STATION_TIME_ADVANCE`. A cycle of the time base's source (spec/14 R501, R502, R507); `upset`: an error that arises in a stored word meanwhile, at a word address, uncorrectable or not (spec/02 R48, R49). -/
  | stationTimeAdvance (upset : Option (BitVec 40 × Bool))
  /-- `COMPARE_MATCH`. The match of compare A or B of timer `k` (spec/14 R510 to R512). -/
  | compareMatch (k : Fin 32) (b : Bool)
  /-- `CMP_LO_WRITE`. A write of `v` to CMP_A_LO or CMP_B_LO of timer `k` (spec/14 R509). -/
  | cmpLoWrite (k : Fin 32) (b : Bool) (v : BitVec 32)
  /-- `CMP_HI_WRITE`. A write of `v` to CMP_A_HI or CMP_B_HI of timer `k` (spec/14 R509). -/
  | cmpHiWrite (k : Fin 32) (b : Bool) (v : BitVec 32)
  /-- `TIMER_CLEAR`. A write of `v`, with CLEAR 1, to TMR_CTL of timer `k` (spec/14 R508). -/
  | timerClear (k : Fin 32) (v : BitVec 32)
  /-- `XCAL_WINDOW_END`. A 1 s window ends; `ppb`: the crystal's measured error, signed (spec/14 R504). -/
  | xcalWindowEnd (ppb : BitVec 20)
  /-- `CAPTURE_EDGE`. The ball level of SIO_n changed to `level` at station time `time` and has held for the filter time (spec/14 R515). -/
  | captureEdge (n : Fin 64) (level : Bool) (time : BitVec 64)
  /-- `CAP_SEQ_READ`. A thread or Puppeteer core reads CAP_SEQ of channel `n` (spec/14 R519). -/
  | capSeqRead (n : Fin 64)
  /-- `CAP_INVERT_WRITE`. A write of `v` to CAP_CTL of channel `n` (spec/14 R678). -/
  | capInvertWrite (n : Fin 64) (v : BitVec 32)
  /-- `EVENT_ENQUEUE`. The oldest waiting event of channel `n`, or of timer `n`, is enqueued (spec/14 R520). -/
  | eventEnqueue (cap : Bool) (n : Fin 64)
  /-- `SDRAM_PATROL_SCRUB`. The patrol scrubber of channel `c` reads the word at byte offset `off` of the channel (spec/02 R71). -/
  | sdramPatrolScrub (c : Fin 2) (off : BitVec 35) (last : Bool)
  /-- `INIT_START`. A write of `v`, with INIT_START 1, to SDC_CTRL of channel `c` (spec/02 R65, R67). -/
  | initStart (c : Fin 2) (v : BitVec 32)
  /-- `SDRAM_INIT_DONE`. Step 6 of Sequence 2.1 on channel `c`: passed, or failed at a step (spec/02 R65, R69). -/
  | sdramInitDone (c : Fin 2) (failStep : Option (Fin 8))
  /-- `SDRAM_FILL_DONE`. Step 7 of Sequence 2.1 ends (spec/02 R65). -/
  | sdramFillDone (c : Fin 2)
  /-- `SDC_CE_CLEAR`. A write of `v`, with CE_CLEAR 1, to SDC_CTRL (spec/02 R75). -/
  | sdcCeClear (c : Fin 2) (v : BitVec 32)
  /-- `SDC_UE_CLEAR`. A write of `v`, with UE_CLEAR 1, to SDC_CTRL (spec/02 R75). -/
  | sdcUeClear (c : Fin 2) (v : BitVec 32)
  /-- `MEMECC_CE_CLEAR`. A write of `v`, with CE_CLEAR 1, to MEMECC_CTRL (spec/02 R76, Table 2.15). -/
  | memeccCeClear (v : BitVec 32)
  /-- `ADD`. ADD (spec/04 Table 4.3). -/
  | add (t : Tid) (rd rs1 rs2 : Reg)
  /-- `SUB`. SUB (spec/04 Table 4.3). -/
  | sub (t : Tid) (rd rs1 rs2 : Reg)
  /-- `AND`. AND (spec/04 Table 4.3). -/
  | and_ (t : Tid) (rd rs1 rs2 : Reg)
  /-- `OR`. OR (spec/04 Table 4.3). -/
  | or_ (t : Tid) (rd rs1 rs2 : Reg)
  /-- `XOR`. XOR (spec/04 Table 4.3). -/
  | xor (t : Tid) (rd rs1 rs2 : Reg)
  /-- `SLL`. SLL (spec/04 Table 4.3). -/
  | sll (t : Tid) (rd rs1 rs2 : Reg)
  /-- `SRL`. SRL (spec/04 Table 4.3). -/
  | srl (t : Tid) (rd rs1 rs2 : Reg)
  /-- `SRA`. SRA (spec/04 Table 4.3). -/
  | sra (t : Tid) (rd rs1 rs2 : Reg)
  /-- `SLT`. SLT (spec/04 Table 4.3). -/
  | slt (t : Tid) (rd rs1 rs2 : Reg)
  /-- `SLTU`. SLTU (spec/04 Table 4.3). -/
  | sltu (t : Tid) (rd rs1 rs2 : Reg)
  /-- `MUL`. MUL (spec/04 Table 4.3). -/
  | mul (t : Tid) (rd rs1 rs2 : Reg)
  /-- `MULH`. MULH (spec/04 Table 4.3). -/
  | mulh (t : Tid) (rd rs1 rs2 : Reg)
  /-- `MULHU`. MULHU (spec/04 Table 4.3). -/
  | mulhu (t : Tid) (rd rs1 rs2 : Reg)
  /-- `DIV`. DIV (spec/04 Table 4.3). -/
  | div (t : Tid) (rd rs1 rs2 : Reg)
  /-- `DIVU`. DIVU (spec/04 Table 4.3). -/
  | divu (t : Tid) (rd rs1 rs2 : Reg)
  /-- `REM`. REM (spec/04 Table 4.3). -/
  | rem (t : Tid) (rd rs1 rs2 : Reg)
  /-- `REMU`. REMU (spec/04 Table 4.3). -/
  | remu (t : Tid) (rd rs1 rs2 : Reg)
  /-- `CLZ`. CLZ (spec/04 Table 4.3). -/
  | clz (t : Tid) (rd rs1 : Reg)
  /-- `POPC`. POPC (spec/04 Table 4.3). -/
  | popc (t : Tid) (rd rs1 : Reg)
  /-- `MIN`. MIN (spec/04 Table 4.3). -/
  | min (t : Tid) (rd rs1 rs2 : Reg)
  /-- `MAX`. MAX (spec/04 Table 4.3). -/
  | max (t : Tid) (rd rs1 rs2 : Reg)
  /-- `MOV`. MOV (spec/04 Table 4.3). -/
  | mov (t : Tid) (rd rs1 : Reg)
  /-- `TAGGET`. TAGGET (spec/04 Table 4.3). -/
  | tagget (t : Tid) (rd rs1 : Reg)
  /-- `ADDI`. ADDI (spec/04 R130). -/
  | addi (t : Tid) (rd rs1 : Reg) (imm : BitVec 16)
  /-- `ANDI`. ANDI (spec/04 R130). -/
  | andi (t : Tid) (rd rs1 : Reg) (imm : BitVec 16)
  /-- `ORI`. ORI (spec/04 R130). -/
  | ori (t : Tid) (rd rs1 : Reg) (imm : BitVec 16)
  /-- `XORI`. XORI (spec/04 R130). -/
  | xori (t : Tid) (rd rs1 : Reg) (imm : BitVec 16)
  /-- `SLTI`. SLTI (spec/04 R130). -/
  | slti (t : Tid) (rd rs1 : Reg) (imm : BitVec 16)
  /-- `SLTIU`. SLTIU (spec/04 R130). -/
  | sltiu (t : Tid) (rd rs1 : Reg) (imm : BitVec 16)
  /-- `SHI_SLL`. SHI with imm[7:6] SLL (spec/04 Table 4.2). -/
  | shiSll (t : Tid) (rd rs1 : Reg) (sh : BitVec 6)
  /-- `SHI_SRL`. SHI with imm[7:6] SRL (spec/04 Table 4.2). -/
  | shiSrl (t : Tid) (rd rs1 : Reg) (sh : BitVec 6)
  /-- `SHI_SRA`. SHI with imm[7:6] SRA (spec/04 Table 4.2). -/
  | shiSra (t : Tid) (rd rs1 : Reg) (sh : BitVec 6)
  /-- `SHI_ROR`. SHI with imm[7:6] ROR (spec/04 Table 4.2). -/
  | shiRor (t : Tid) (rd rs1 : Reg) (sh : BitVec 6)
  /-- `EXT`. EXT of bits [pos + lenM1 : pos] (spec/04 R130). -/
  | ext (t : Tid) (rd rs1 : Reg) (pos lenM1 : BitVec 6)
  /-- `INS`. INS of bits [pos + lenM1 : pos] (spec/04 R130). -/
  | ins (t : Tid) (rd rs1 : Reg) (pos lenM1 : BitVec 6)
  /-- `MOVZ`. MOVZ (spec/04 R130). -/
  | movz (t : Tid) (rd : Reg) (h : BitVec 2) (imm : BitVec 16)
  /-- `MOVK`. MOVK (spec/04 R130). -/
  | movk (t : Tid) (rd : Reg) (h : BitVec 2) (imm : BitVec 16)
  /-- `LB`. LB issues (spec/04 Table 4.4). -/
  | lb (t : Tid) (rd rs1 : Reg) (imm : BitVec 16)
  /-- `LBU`. LBU issues (spec/04 Table 4.4). -/
  | lbu (t : Tid) (rd rs1 : Reg) (imm : BitVec 16)
  /-- `LH`. LH issues (spec/04 Table 4.4). -/
  | lh (t : Tid) (rd rs1 : Reg) (imm : BitVec 16)
  /-- `LHU`. LHU issues (spec/04 Table 4.4). -/
  | lhu (t : Tid) (rd rs1 : Reg) (imm : BitVec 16)
  /-- `LW`. LW issues (spec/04 Table 4.4). -/
  | lw (t : Tid) (rd rs1 : Reg) (imm : BitVec 16)
  /-- `LWU`. LWU issues (spec/04 Table 4.4). -/
  | lwu (t : Tid) (rd rs1 : Reg) (imm : BitVec 16)
  /-- `LD`. LD issues (spec/04 Table 4.4). -/
  | ld (t : Tid) (rd rs1 : Reg) (imm : BitVec 16)
  /-- `LOAD_DATA_RETURN`. The target answers the outstanding load of thread `t` (spec/02 Table 2.11, spec/04 Table 4.11). -/
  | loadDataReturn (t : Tid)
  /-- `SB`. SB issues (spec/04 Table 4.4). -/
  | sb (t : Tid) (rs2 rs1 : Reg) (imm : BitVec 16)
  /-- `SH`. SH issues (spec/04 Table 4.4). -/
  | sh (t : Tid) (rs2 rs1 : Reg) (imm : BitVec 16)
  /-- `SW`. SW issues (spec/04 Table 4.4). -/
  | sw (t : Tid) (rs2 rs1 : Reg) (imm : BitVec 16)
  /-- `SD`. SD issues (spec/04 Table 4.4). -/
  | sd (t : Tid) (rs2 rs1 : Reg) (imm : BitVec 16)
  /-- `POSTED_WRITE_STATUS`. The `k`-th outstanding posted write of thread `t` returns its status; beyond them, a write that timed out is performed (spec/05 R194, R673). -/
  | postedWriteStatus (t : Tid) (k : Nat)
  /-- `POSTED_DRAIN_TIMEOUT`. The posted drain of thread `t` reaches its timeout (spec/05 R195, R196). -/
  | postedDrainTimeout (t : Tid)
  /-- `BEQ`. BEQ (spec/04 Table 4.5). -/
  | beq (t : Tid) (rs1 rs2 : Reg) (off : BitVec 16)
  /-- `BNE`. BNE (spec/04 Table 4.5). -/
  | bne (t : Tid) (rs1 rs2 : Reg) (off : BitVec 16)
  /-- `BLT`. BLT (spec/04 Table 4.5). -/
  | blt (t : Tid) (rs1 rs2 : Reg) (off : BitVec 16)
  /-- `BGE`. BGE (spec/04 Table 4.5). -/
  | bge (t : Tid) (rs1 rs2 : Reg) (off : BitVec 16)
  /-- `BLTU`. BLTU (spec/04 Table 4.5). -/
  | bltu (t : Tid) (rs1 rs2 : Reg) (off : BitVec 16)
  /-- `BGEU`. BGEU (spec/04 Table 4.5). -/
  | bgeu (t : Tid) (rs1 rs2 : Reg) (off : BitVec 16)
  /-- `BTAG`. BTAG (spec/04 Table 4.5). -/
  | btag (t : Tid) (rs1 : Reg) (kind : BitVec 2) (neg : Bool) (off : BitVec 16)
  /-- `J`. J (spec/04 Table 4.5). -/
  | j (t : Tid) (off : BitVec 21)
  /-- `JAL`. JAL (spec/04 Table 4.5). -/
  | jal (t : Tid) (rd : Reg) (off : BitVec 21)
  /-- `JALR`. JALR (spec/04 R136). -/
  | jalr (t : Tid) (rd rs1 : Reg) (imm : BitVec 16)
  /-- `ALLOC`. ALLOC (spec/04 Table 4.6). -/
  | alloc (t : Tid) (rd rs1 : Reg)
  /-- `FREE`. FREE (spec/04 Table 4.6). -/
  | free (t : Tid) (rs1 : Reg)
  /-- `HADD`. HADD (spec/04 Table 4.6). -/
  | hadd (t : Tid) (rd rs1 rs2 : Reg)
  /-- `GETWORK`. GETWORK (spec/04 Table 4.7). -/
  | getwork (t : Tid)
  /-- `DONE`. DONE (spec/04 Table 4.7). -/
  | done (t : Tid)
  /-- `ABORT`. ABORT (spec/04 Table 4.7). -/
  | abort (t : Tid)
  /-- `SEND`. SEND (spec/04 Table 4.7, spec/09 R308). -/
  | send (t : Tid) (rs1 : Reg)
  /-- `XMIT`. XMIT (spec/04 R140, R141). -/
  | xmit (t : Tid) (rs1 rs2 : Reg)
  /-- `CANCEL`. CANCEL (spec/09 R328). -/
  | cancel (t : Tid) (rd rs1 rs2 : Reg)
  /-- `CHKCANCEL`. CHKCANCEL (spec/09 R332). -/
  | chkcancel (t : Tid) (rd : Reg)
  /-- `HJOB`. HJOB (spec/03 R669). -/
  | hjob (t : Tid) (rd rs1 : Reg)
  /-- `HELPER_JOB_START`. A helper takes the job at the head of its queue and reads its inputs (spec/03 R105, R106). -/
  | helperJobStart (tile : Fin 6) (h : Fin 3)
  /-- `HELPER_JOB_COMPLETE`. A helper ends the job it serves (spec/03 R109, R118). -/
  | helperJobComplete (tile : Fin 6) (h : Fin 3)
  /-- `HWAIT`. HWAIT (spec/03 R109 to R111). -/
  | hwait (t : Tid) (rd rs1 : Reg)
  /-- `FENCE`. FENCE (spec/04 R147). -/
  | fence (t : Tid)
  /-- `RDTIME`. RDTIME (spec/04 R146). -/
  | rdtime (t : Tid) (rd : Reg)
  /-- `RECORD`. RECORD (spec/04 Table 4.9). -/
  | record (t : Tid) (rs1 rs2 : Reg)
  /-- `TRAP`. TRAP (spec/04 Table 4.9). -/
  | trap (t : Tid) (code : BitVec 5)
  /-- `CLEAN`. CLEAN (spec/04 R148). -/
  | clean (t : Tid) (rs1 : Reg)
  /-- `CINV`. CINV (spec/04 R148). -/
  | cinv (t : Tid) (rs1 : Reg)
  /-- `MFSR`. MFSR (spec/04 R159). -/
  | mfsr (t : Tid) (rd : Reg) (n : BitVec 5)
  /-- `MTSR`. MTSR (spec/04 R159). -/
  | mtsr (t : Tid) (rs1 : Reg) (n : BitVec 5)
  /-- `TAGSET`. TAGSET (spec/04 R149). -/
  | tagset (t : Tid) (rd rs1 : Reg) (tag : BitVec 8)
  /-- `SWAPSET`. SWAPSET (spec/05 R172). -/
  | swapset (t : Tid)
  /-- `FRESOLVE_RESUME`. FRESOLVE whose rs2[1:0] is 0 (spec/05 R185). -/
  | fresolveResume (t : Tid) (rd rs1 rs2 : Reg)
  /-- `FRESOLVE_RESTART`. FRESOLVE whose rs2[1:0] is 1 (spec/05 R185). -/
  | fresolveRestart (t : Tid) (rd rs1 rs2 : Reg)
  /-- `FRESOLVE_ABORT`. FRESOLVE whose rs2[1:0] is 2 (spec/05 R185). -/
  | fresolveAbort (t : Tid) (rd rs1 rs2 : Reg)
  /-- `WAITEV`. WAITEV (spec/04 Table 4.10). -/
  | waitev (t : Tid) (rd : Reg)
  /-- `FAULT_RECORD_ENQUEUE`. Step 3 of Sequence 5.1 for thread `t` (spec/05 R183, R671). -/
  | faultRecordEnqueue (t : Fin 192)
  /-- `ESC_RECORD_LOAD`. The next escalated record of a tile is loaded into SUPV_ESC_REC (spec/05 R192). -/
  | escRecordLoad (tile : Fin 6)
  /-- `BUDGET_EXPIRY`. The budget counter of thread `t` has reached its LIMIT (spec/03 R102). -/
  | budgetExpiry (t : Fin 192)
  /-- `THREAD_START`. A write of 1 to THREAD_CTL.START (spec/03 R82). -/
  | threadStart (t : Fin 192)
  /-- `THREAD_GROUP_WRITE`. A write of `v` to THREAD_CFG (spec/03 R85, R86). -/
  | threadGroupWrite (t : Fin 192) (v : BitVec 32)
  /-- `PR_REGION_WRITE`. A write of `v` to register `k` of a region of the account protection table (spec/05 R168, R203). -/
  | prRegionWrite (tile : Fin 6) (acct : Fin 64) (region : Fin 16) (k : Fin 4) (v : BitVec 32)
  /-- `TASK_DISPATCH`. The scheduler delivers the next ready task of a group; for group 15, of the tile's fault records (spec/09 R318 to R323). -/
  | taskDispatch (group : Fin 16) (tile : Fin 6)
  /-- `POOL_ENABLE_WRITE`. A write of `v` to POOL_CFG_p (spec/06 R205, R209). -/
  | poolEnableWrite (p : Fin 16) (v : BitVec 32)
  /-- `POOL_BUILD_DONE`. The build of pool `p` ends (spec/06 R206). -/
  | poolBuildDone (p : Fin 16)
  /-- `AUDIT_START`. A write of `v`, with START 1, to AUDIT_CTL (spec/06 R236). -/
  | auditStart (v : BitVec 32)
  /-- `UPLINK_FRAME_RECEIVE`. Uplink `u` receives a frame, FCS included; `code`: a code error lay within it; `time`: station time of its timestamp point, ns in [95:32] and fraction (spec/11 R401). -/
  | uplinkFrameReceive (u : Fin 2) (bytes : List (BitVec 8)) (code : Bool) (time : BitVec 96)
  /-- `PAUSE_TIMER_EXPIRY`. The pause timer of uplink `u` reaches zero (spec/11 R404). -/
  | pauseTimerExpiry (u : Fin 2)
  /-- `PAUSE_RESEND`. Half of the sent quanta have passed (spec/11 R406). -/
  | pauseResend (u : Fin 2)
  /-- `UPLINK_STATE_CHANGE`. The pins and the PCS of uplink `u` take these levels; `rx`: the bytes of a frame in reception, `tx`: a frame is in transmission (spec/11 R400). -/
  | uplinkStateChange (u : Fin 2) (modAbs los txFault lock hiBer : Bool) (rx : Option (List (BitVec 8))) (tx : Bool)
  /-- `TS_POP`. A write of 1 to TS_STAT.POP of the receive or transmit FIFO (spec/11 R411). -/
  | tsPop (u : Fin 2) (tx : Bool)
  /-- `CELL_LINK_FRAME_RECEIVE`. Cell link `n` receives the characters after /S/ up to the K character `k` that ends them: 0xFD /T/, 0xFE /E/, 0xFB a new /S/, 0xBC an idle; any other value is a code error (spec/11 R413, R415). -/
  | cellLinkFrameReceive (n : Fin 48) (bytes : List (BitVec 8)) (k : BitVec 8)
  /-- `CELL_LINK_LOCK`. The receiver of cell link `n` has aligned and locked (spec/11 Sequence 11.1). -/
  | cellLinkLock (n : Fin 48)
  /-- `CELL_LINK_UP`. Cell link `n` sees IDLE_1 from its peer (spec/11 Sequence 11.1). -/
  | cellLinkUp (n : Fin 48)
  /-- `CELL_LINK_DOWN`. Code errors or missing K28.5 take cell link `n` DOWN; `rx`, `tx` as for an uplink (spec/11 R417). -/
  | cellLinkDown (n : Fin 48) (rx : Option (List (BitVec 8))) (tx : Bool)
  /-- `FRAME_TRANSMIT`. Port `port` (spec/04 Table 4.8) transmits the next frame of its queue; `time`: station time of its timestamp point (spec/11 R422). -/
  | frameTransmit (port : BitVec 8) (time : BitVec 96)
  /-- `PRS_CMD_COMMIT`. A write to PRS_CMD with OP 0 (spec/07 R264). -/
  | prsCmdCommit (node : BitVec 8) (bank : Bool)
  /-- `PRS_CMD_READ`. A write to PRS_CMD with OP 1 (spec/07 R264). -/
  | prsCmdRead (node : BitVec 8) (bank : Bool)
  /-- `PRS_BANK_SWITCH`. A write of `v` to PRS_BANK while the oldest `inParse` frames are in parse (spec/07 R265). -/
  | prsBankSwitch (v : BitVec 32) (inParse : BitVec 8)
  /-- `RULE_WORD_WRITE`. A write to RULE_W_w (spec/08 R287). -/
  | ruleWordWrite (w : Fin 16) (v : BitVec 32)
  /-- `FRAG_ENTRY_EXPIRY`. The life of follow entry `i`, counted from the oldest, ends (spec/08 R300). -/
  | fragEntryExpiry (entry : Fin 1024)
  /-- `FRAG_FLUSH`. A write of `v` with FLUSH 1 to CLS_FRAG_CTL (spec/08 R300). -/
  | fragFlush (v : BitVec 32)
  /-- `RING_FRAME_RECEIVE`. A ring frame arrives on port `p`, 0 East, 1 West (spec/10 R358). -/
  | ringFrameReceive (p : Fin 2) (rx : RingRx)
  /-- `LINK_TRAINING`. Port `p` ends its training, in step 4 of Sequence 10.1 or not; the loss estimate in 0.1 dB, the peer's address and SEQ, and its FULL_OK (spec/10 R350). -/
  | linkTraining (p : Fin 2) (ok : Bool) (loss : BitVec 10) (addr seq : BitVec 8) (peerFull : Bool)
  /-- `TRAINING_RETRY`. 100 ms after it failed, port `p` starts training again (spec/10 R351). -/
  | trainingRetry (p : Fin 2)
  /-- `LINK_ACK_SEND`. UP port `p` sends LINK_ACK (spec/10 Table 10.1). -/
  | linkAckSend (p : Fin 2)
  /-- `LINK_ACK_RECEIVE`. Port `p` receives LINK_ACK (spec/10 Table 10.1). -/
  | linkAckReceive (p : Fin 2) (addr seq : BitVec 8)
  /-- `BREAK_SEND`. DOWN port `p` sends BREAK (spec/10 Table 10.1). -/
  | breakSend (p : Fin 2)
  /-- `BREAK_RECEIVE`. Port `p` receives BREAK (spec/10 R392). -/
  | breakReceive (p : Fin 2) (reason : BitVec 8)
  /-- `LOCK_LOSS`. The receiver of port `p` has been without block lock for `ns` ns (spec/10 R380, R392). -/
  | lockLoss (p : Fin 2)
  /-- `CYCLE_START`. A ring cycle starts; `time`: station time at the start block of the TIME frame (spec/10 R374). -/
  | cycleStart (time : BitVec 96)
  /-- `SWEEP_PROCESS`. A SWEEP reaches a follower's West port (spec/10 R367). -/
  | sweepProcess (rx : RingRx)
  /-- `SWEEP_RETURN`. The SWEEP reaches the master's West port (spec/10 R370). -/
  | sweepReturn (rx : RingRx)
  /-- `PDM_TX_COMMIT`. A write of 1 to COMMIT of transmit map `m` (spec/10 R372). -/
  | pdmTxCommit (m : Fin 64)
  /-- `JOIN`. A write of `v` with JOIN 1 to RING_CTL (spec/10 R375). -/
  | join (v : BitVec 32)
  /-- `LEAVE`. A write of `v` with LEAVE 1 to RING_CTL (spec/10 R382). -/
  | leave (v : BitVec 32)
  /-- `SPLICE_POINT`. The splice point of an open window; `passing`: a frame passes the node (spec/10 R376). -/
  | splicePoint (passing : Bool)
  /-- `LINK_FRAME_SEND`. Port `p` sends a LINK frame; `time`: station time at its start block (spec/10 R389). -/
  | linkFrameSend (p : Fin 2) (time : BitVec 96)
  /-- `LINK_FRAME_RECEIVE`. Port `p` receives a LINK frame (spec/10 R389). -/
  | linkFrameReceive (p : Fin 2) (rx : RingRx)
  /-- `TIME_FRAME_RECEIVE`. Port `p` receives a TIME frame (spec/10 R390). -/
  | timeFrameReceive (p : Fin 2) (rx : RingRx)
  /-- `SESSION_OPEN_TIMEOUT`. Session `n` was not opened within 5 s (spec/12 R459). -/
  | sessionOpenTimeout (n : BitVec 16)
  /-- `SESSION_IDLE_TIMEOUT`. Session `n` has been idle for IDLE_S (spec/12 R459). -/
  | sessionIdleTimeout (n : BitVec 16)
  /-- `FWD_TIMEOUT`. The forward item in `slot` was not answered in time (spec/12 R463). -/
  | fwdTimeout (slot : Fin 16)
  /-- `FWD_RESP`. A write of `v` to DICT_FWD_RESP (spec/12 R462). -/
  | fwdResp (v : BitVec 32)
  /-- `SEND_TRANSACTION`. The SPI host sends LEN and a message (spec/12 Table 12.10). -/
  | sendTransaction (mosi : List (BitVec 8))
  /-- `FETCH`. The SPI host fetches the head message; `all`: all its bytes were clocked (spec/12 Table 12.10). -/
  | fetch (all : Bool)
  /-- `SPI_FIRMWARE_COMMAND`. The SPI host sends command byte 0x10 + `cmd` (spec/12 R475). -/
  | spiFirmwareCommand (cmd : BitVec 4) (data : List (BitVec 8))
  /-- `PD_RX_APPLY`. The engine writes the bound values of receive map `m` (spec/12 R470). -/
  | pdRxApply (m : Fin 64)
  /-- `PD_TX_SAMPLE`. The engine samples transmit map `m` for the next cycle (spec/12 R471). -/
  | pdTxSample (m : Fin 64)
  /-- `LOOP_DECISION`. A decision of the supply loop; `floorMv`: the highest floor that a tile's canary reports, in mV (spec/15 R537, R541). -/
  | loopDecision (floorMv : BitVec 10)
  /-- `PMBUS_READBACK`. The PWR block has read the VCORE output back: `mv` (spec/15 R543, spec/18 R660). -/
  | pmbusReadback (mv : BitVec 16)
  /-- `THERMAL_SAMPLE`. The fourteen sensors are read, each signed in units of 0.1 °C (spec/15 R548). -/
  | thermalSample (temps : List (BitVec 16))
  /-- `PORST_N_ASSERT`. A low pulse of `ns` on PORST_n (spec/16 R560, R561). -/
  | porstNAssert (ns : BitVec 32)
  /-- `SYSRST_N_ASSERT`. A low pulse of `ns` on SYSRST_n (spec/16 R560, R561). -/
  | sysrstNAssert (ns : BitVec 32)
  /-- `SYS_AON_RST`. A write of `v` to SYS_AON_RST (spec/16 Table 16.1). -/
  | sysAonRst (v : BitVec 32)
  /-- `PCORE_RESET`. A write of `v` to SYS_PCORE_RST (spec/16 R563). -/
  | pcoreReset (v : BitVec 32)
  /-- `PCORE_RUN_1`. A write of `v`, with RUN_1 1, to SYS_PCORE_CTL (spec/16 Table 16.8). -/
  | pcoreRun1 (v : BitVec 32)
  /-- `WATCHDOG_KICK`. A write of `v` to SYS_WDT_KICK (spec/16 R564). -/
  | watchdogKick (v : BitVec 32)
  /-- `BOOT_ENTRY`. Steps 7 to 11 of Sequence 16.2, with the bytes of the two slots and of the SFDP area as the flash holds them (spec/16 R565 to R571). -/
  | bootEntry (slotA slotB : List (BitVec 8))
  /-- `LC_ROLL_FORWARD`. The boot ROM rolls a pending transition forward; `rcd`: the flash at offset 0; `stuck`: a fuse word whose bits under the mask do not program (spec/16 R580). -/
  | lcRollForward (rcd : List (BitVec 8)) (stuck : Option (BitVec 8 × BitVec 32))
  /-- `CONFIRM`. A write of `v`, with CONFIRM 1, to SYS_BOOT_TRY (spec/16 R571). -/
  | confirm (v : BitVec 32)
  /-- `CLEAR_A`. A write of `v`, with CLEAR_A 1, to SYS_BOOT_TRY (spec/16 R572). -/
  | clearA (v : BitVec 32)
  /-- `CLEAR_B`. A write of `v`, with CLEAR_B 1, to SYS_BOOT_TRY (spec/16 R572). -/
  | clearB (v : BitVec 32)
  /-- `RECOVER_WRITE`. SPI command 0x11 with the bytes that follow it (spec/16 R573). -/
  | recoverWrite (data : List (BitVec 8))
  /-- `PROVISION`. SPI command 0x10; `rcd` and `stuck` as for LC_ROLL_FORWARD (spec/16 R573, R583). -/
  | provision (rcd : List (BitVec 8)) (stuck : Option (BitVec 8 × BitVec 32))
  /-- `LC_CMD`. A write of `v` to SYS_LC_CMD (spec/16 R578). -/
  | lcCmd (v : BitVec 32) (stuck : Option (BitVec 8 × BitVec 32))
  /-- `REVOKE`. A write of `v`, with OP REVOKE, to SYS_OTP_OP (spec/16 R585). -/
  | revoke (v : BitVec 32)
  /-- `ROLLBACK_INC`. A write of `v`, with OP ROLLBACK_INC, to SYS_OTP_OP (spec/16 R585). -/
  | rollbackInc (v : BitVec 32)
  /-- `REC_RD_SEL_WRITE`. A write of `v` to REC_RD_SEL (spec/17 R600). -/
  | recRdSelWrite (v : BitVec 32)
  /-- `PFAIL_ASSERT`. PFAIL_n has been low for 10 µs; `header`: the 4 bytes of flash at REC_FLUSH_ADDR (spec/17 R601). -/
  | pfailAssert (header : BitVec 32)
  /-- `CHALLENGE`. Debug command 0x02 (spec/16 R590). -/
  | challenge (arg : BitVec 40)
  /-- `RESPONSE`. Debug command 0x03, with the last two DBG_DATA updates (spec/16 R590). -/
  | response (hi lo : BitVec 64)
  /-- `DEBUG_READ`. Debug command 0x10 (spec/16 Table 16.7). -/
  | debugRead (addr : BitVec 40)
  /-- `DEBUG_WRITE`. Debug command 0x11 with the value of DBG_DATA (spec/16 R591). -/
  | debugWrite (addr : BitVec 40) (data : BitVec 64)
  /-- `HALT`. Debug command 0x12 (spec/17 R606). -/
  | halt (target : BitVec 40)
  /-- `RELEASE`. Debug command 0x13 (spec/17 R609). -/
  | release (target : BitVec 40)
  /-- `RESET_WARM`. Debug command 0x14 (spec/16 R591). -/
  | resetWarm (arg : BitVec 40)
  /-- `DEBUG_PROVISION`. Debug command 0x20; `rcd` and `stuck` as for LC_ROLL_FORWARD (spec/16 R589). -/
  | debugProvision (rcd : List (BitVec 8)) (stuck : Option (BitVec 8 × BitVec 32))
  /-- `SCRAP`. Debug command 0x21 (spec/16 R589). -/
  | scrap (stuck : Option (BitVec 8 × BitVec 32))
  /-- `BYPASS`. The TAP takes the instruction of a 6-bit code, BYPASS for 0x3F and every other that Table 16.6 gives to no instruction (spec/16 R587). -/
  | bypass
  /-- `CORE_TEST_START`. A write of `core` to ST_CTL.CORE (spec/17 R610). -/
  | coreTestStart (core : BitVec 6)
  /-- `ST_TEST_DONE`. The logic test ends: passed, or failed in a test chain (spec/17 R610, R612). -/
  | stTestDone (fail : Option (BitVec 16))
  /-- `MEMTEST_BUFFER_DONE`. The test of the lent buffer ends (spec/17 R614). -/
  | memtestBufferDone (faulty : Bool)
  /-- `RING_CAL_DONE`. The recalibration ends (spec/17 R617). -/
  | ringCalDone (fail : Bool)
  /-- `PCORE_EXCHANGE_GO`. A write of `v`, with GO 1, to EXCH_PC_CTL (spec/17 R625). -/
  | pcoreExchangeGo (v : BitVec 32)
  /-- `UART_DATA_WRITE`. A write of `v` to UART_DATA (spec/18 R658). -/
  | uartDataWrite (v : BitVec 32)
  /-- `UART_RX_BYTE`. The UART receives `b`; `wrong`: its stop bit or parity is wrong (spec/18 R658). -/
  | uartRxByte (b : BitVec 8) (wrong : Bool)
  /-- `I2C_GO`. A write of `v`, with GO 1, to I2C_CMD (spec/18 R659). -/
  | i2cGo (v : BitVec 32)
  /-- `I2C_TRANSFER_DONE`. The transfer ends, with a NACK or with the bytes read (spec/18 R659). -/
  | i2cTransferDone (nack : Bool) (data : List (BitVec 8))
  /-- `RESERVED_OPCODE`. An instruction word that decodes to no instruction issues (spec/04 R122). -/
  | reservedOpcode (t : Tid) (w : BitVec 32)
  /-- `RING_BLOCK_LOCK`. The receiver of port `p` takes block lock, at half rate or full (spec/10 R375). -/
  | ringBlockLock (p : Fin 2) (half : Bool)
  /-- `SUPPLY_RANGE_CHANGE`. Whether VSD, VIO18 and VIO33 are in their operating ranges, whether VIO18 ≥ 1.75 V and VSD ≥ 0.88 V, and the level of PFAIL_n (spec/10 R344, spec/18 R632, spec/16 R576). -/
  | supplyRangeChange (vsd vio18 vio33 fuse pfailHigh : Bool)
  /-- `OTP_OPERATION_DONE`. The operation of SYS_OTP_OP ends; the bits of its word under `stuck` have not programmed (spec/16 R576). -/
  | otpOperationDone (stuck : BitVec 32)
  /-- `REF25_QUALIFIED`. The 25 MHz reference has run for 2 ms (spec/14 R503). -/
  | ref25Qualified
  /-- `REF25_LOSS`. The 25 MHz reference stops (spec/14 R503, spec/15 R531). -/
  | ref25Loss
  /-- `XTAL_QUALIFIED`. The crystal has run for 1,024 cycles (spec/14 R503). -/
  | xtalQualified
  /-- `XTAL_LOSS`. The crystal stops (spec/14 R503, R506). -/
  | xtalLoss
  /-- `INGOT_SCRUB_READ`. The ingot scrubber reads its next word (spec/02 R51). -/
  | ingotScrubRead
  /-- `COMPLETION_RECORD_STORE`. The oldest completion record is stored in the log (spec/09 R326). -/
  | completionRecordStore
  /-- `AGE_SWEEP`. The pool manager sweeps the pools of mode AUDIT or BOTH (spec/06 R235). -/
  | ageSweep
  /-- `AUDIT_PERIOD_EXPIRY`. AUDIT_CTL.PERIOD_S expires (spec/06 R236). -/
  | auditPeriodExpiry
  /-- `AUDIT_SCAN_DONE`. The running scan ends (spec/06 R236 to R239). -/
  | auditScanDone
  /-- `PARSE`. The parser walks the graph for the oldest frame that awaits it (spec/07 R250). -/
  | parse
  /-- `CLASSIFY`. The classifier takes the oldest parsed frame (spec/08 R283). -/
  | classify
  /-- `CLS_COMMIT`. A write of 1 to CLS_COMMIT.GO (spec/08 R292). -/
  | clsCommit
  /-- `SWEEP_PASS`. The sweep pass that is due runs (spec/08 R289). -/
  | sweepPass
  /-- `GAP_START`. The quiet gap begins (spec/10 R370). -/
  | gapStart
  /-- `LISTEN_TIMEOUT`. 2 ms after entering LISTEN no pair has block lock (spec/10 R377). -/
  | listenTimeout
  /-- `SPLICE_DEADLINE`. 1 µs before the end of the cycle of a splice (spec/10 R381). -/
  | spliceDeadline
  /-- `SWEEP_ABSENCE_TIMEOUT`. No good SWEEP for three cycle periods (spec/10 R384). -/
  | sweepAbsenceTimeout
  /-- `SYNC_TIMEOUT`. No master TIME for three cycle periods (spec/10 R391). -/
  | syncTimeout
  /-- `READ`. The engine serves the oldest queued request, a READ (spec/12 R451). -/
  | read
  /-- `WRITE`. The engine serves the oldest queued request, a WRITE (spec/12 R451). -/
  | write
  /-- `WRITE_POSTED`. The engine serves the oldest queued request, a WRITE_POSTED (spec/12 R465). -/
  | writePosted
  /-- `DESCRIBE`. The engine serves the oldest queued request, a DESCRIBE (spec/12 R453). -/
  | describe
  /-- `OPEN`. The engine serves the oldest queued request, an OPEN (spec/12 R455). -/
  | openSession
  /-- `CLOSE`. The engine serves the oldest queued request, a CLOSE (spec/12 R459). -/
  | closeSession
  /-- `NODE_RESET`. The engine serves the oldest queued request, a NODE_RESET (spec/12 R454). -/
  | nodeReset
  /-- `NODE_RESET_BEGIN`. The reset of an accepted NODE_RESET begins (spec/12 R454). -/
  | nodeResetBegin
  /-- `STATE_CMD_CONFIG`. P-core 0 writes command 0x01 to DICT_STATE_CMD (spec/12 R441). -/
  | stateCmdConfig
  /-- `STATE_CMD_RUN`. P-core 0 writes command 0x02 to DICT_STATE_CMD (spec/12 R441). -/
  | stateCmdRun
  /-- `STATE_CMD_HOLD`. P-core 0 writes command 0x03 to DICT_STATE_CMD (spec/12 R441). -/
  | stateCmdHold
  /-- `STATE_CMD_SAFE`. P-core 0 writes command 0x04 to DICT_STATE_CMD (spec/12 R441). -/
  | stateCmdSafe
  /-- `STATE_CMD_STANDBY`. P-core 0 writes command 0x05 to DICT_STATE_CMD (spec/12 R441). -/
  | stateCmdStandby
  /-- `FWD_POP`. A write of 1 to DICT_FWD_POP (spec/12 R464). -/
  | fwdPop
  /-- `SUB_GO`. A write of 1 to DICT_SUB_GO (spec/12 R473). -/
  | subGo
  /-- `POLL`. The SPI host polls (spec/12 Table 12.10). -/
  | poll
  /-- `STANDBY_ENTRY`. The STANDBY response has left; standby entry begins (spec/15 R551). -/
  | standbyEntry
  /-- `STANDBY_DRAIN_END`. Steps 3 to 6 of Sequence 15.1 (spec/15 R551). -/
  | standbyDrainEnd
  /-- `WAKE_N_ASSERT`. WAKE_n has been low for 100 µs (spec/15 R553). -/
  | wakeNAssert
  /-- `STBY_MIN_EXPIRY`. STBY_OUT has been high for 2 ms (spec/15 R552). -/
  | stbyMinExpiry
  /-- `PORST_N_RELEASE`. The reset of the main domains is released (spec/16 R565, steps 1 to 5 of Sequence 16.2). -/
  | porstNRelease
  /-- `ALWAYS_ON_POWER_RESET`. VBAT and VIO18 are both out of range (spec/16 Table 16.1). -/
  | alwaysOnPowerReset
  /-- `WATCHDOG_EXPIRY`. The watchdog's count reaches TIMEOUT_MS (spec/16 R564). -/
  | watchdogExpiry
  /-- `RECOVER_RUN`. SPI command 0x12 (spec/16 R573). -/
  | recoverRun
  /-- `LC_RESET_BEGIN`. The warm reset of an accepted life-cycle command begins (spec/16 R578). -/
  | lcResetBegin
  /-- `RECORD_ACCEPT`. The recorder accepts the next offered record (spec/17 R594, R595). -/
  | recordAccept
  /-- `FREEZE`. A write of 1 to REC_CMD.FREEZE (spec/17 R599). -/
  | freeze
  /-- `UNFREEZE`. A write of 1 to REC_CMD.UNFREEZE (spec/17 R599). -/
  | unfreeze
  /-- `FLUSH_DONE`. Step 5 of Sequence 17.1 (spec/17 R601). -/
  | flushDone
  /-- `STATUS`. Debug command 0x01 (spec/16 Table 16.7). -/
  | dbgStatus
  /-- `LOCK`. Debug command 0x04 (spec/16 Table 16.7). -/
  | lock
  /-- `EXTEST`. The TAP selects EXTEST (spec/16 R587, R588). -/
  | extest
  /-- `SAMPLE_PRELOAD`. The TAP selects SAMPLE/PRELOAD (spec/16 R587). -/
  | samplePreload
  /-- `IDCODE`. The TAP selects IDCODE (spec/16 R587). -/
  | idcode
  /-- `HIGHZ`. The TAP selects HIGHZ (spec/16 R588). -/
  | highz
  /-- `CLAMP`. The TAP selects CLAMP (spec/16 R588). -/
  | clamp
  /-- `ST_ADMIT_END`. Step 1 of Sequence 17.2 ends; step 2 follows (spec/17 R610). -/
  | stAdmitEnd
  /-- `ST_DRAIN_DONE`. Every thread of the core is IDLE or OFFLINE (spec/17 R610). -/
  | stDrainDone
  /-- `ST_DRAIN_TIMEOUT`. ST_DRAIN_TMO expires (spec/17 R611). -/
  | stDrainTimeout
  /-- `MEMTEST_LOAN`. The test engine asks for its next buffer (spec/17 R614). -/
  | memtestLoan
  /-- `RING_CAL_GO`. A write of 1 to ST_RING_CAL.GO (spec/17 R617). -/
  | ringCalGo
  /-- `EXCH_COMMIT`. A write of 1 to EXCH_CTL.COMMIT (spec/17 R619). -/
  | exchCommit
  /-- `PCORE_EXCHANGE_DONE`. Steps 3 to 5 of the exchange end (spec/17 R625). -/
  | pcoreExchangeDone
  /-- `UART_DATA_READ`. A read of UART_DATA (spec/18 R658). -/
  | uartDataRead
  /-- `UART_TX_BYTE_SENT`. The UART has sent the oldest byte (spec/18 R658). -/
  | uartTxByteSent
  /-- `FRAG_FLUSH_DONE`. The flush has freed every entry (spec/08 R300). -/
  | fragFlushDone
  deriving DecidableEq, Repr

end Sys2Proof
end

