-- ==== Sys2Proof/Decode.lean ====
section
/-! DEFINITION. Reading a command from bits: spec/opcode_table.json gives no row any bits, so no word spells a command. The
encodings of the instruction set (spec/04 Tables 4.1 to 4.10) stand in Machine/Isa.lean. -/

namespace Sys2Proof

/-- The command that a word spells by the table's bits: none, since no row gives any. -/
def decodeTableWord (_nbits _w : Nat) : Option Instr := none

end Sys2Proof
end

