-- ==== Sys2Proof/Machine/Crypto.lean ====
section
/-! DEFINITION. SHA-256 (FIPS 180-4), HMAC-SHA-256 (RFC 2104) and ECDSA over P-256 (FIPS 186-4), which spec/12 R455 and R456,
spec/16 and spec/17 name. -/

namespace Sys2Proof.Machine

/-! ### SHA-256 -/

/-- The primes below `n`, where `n` is at most 400. -/
def primesBelow (n : Nat) : List Nat :=
  (List.range n).filter (fun p => decide (2 ≤ p) && (List.range 20).all (fun d => decide (d < 2 ∨ p < d * d) || p % d != 0))

/-- The greatest of the numbers from `r` to `r` + 2^n − 1 whose `e`-th power is at most `x`, bit by bit. -/
def rootFrom (e x r : Nat) : Nat → Nat
  | 0 => r
  | n + 1 => rootFrom e x (if (r + 2 ^ n) ^ e ≤ x then r + 2 ^ n else r) n

/-- The first 32 bits of the fraction of the `e`-th root of `p`. -/
def rootBits (e p : Nat) : BitVec 32 := BitVec.ofNat 32 (rootFrom e (p * 2 ^ (32 * e)) 0 37)

/-- The constants K of SHA-256: the fractions of the cube roots of the first 64 primes. -/
def shaK : List (BitVec 32) := (primesBelow 312).map (rootBits 3)

/-- The initial hash value: the fractions of the square roots of the first eight primes. -/
def shaInit : List (BitVec 32) := (primesBelow 20).map (rootBits 2)

/-- The word at a place of a list. -/
def wordAt (l : List (BitVec 32)) (i : Nat) : BitVec 32 := (l[i]?).getD 0

/-- Rotate right. -/
def rotr (x : BitVec 32) (n : Nat) : BitVec 32 := (x >>> n) ||| (x <<< (32 - n))

/-- The sixteen words of a block. -/
def blockWords (b : List Byte) : List (BitVec 32) :=
  (List.range 16).map (fun i => BitVec.ofNat 32 (beNat ((b.drop (4 * i)).take 4)))

/-- The message schedule, newest word first: `n` more words. -/
def shaExtend (l : List (BitVec 32)) : Nat → List (BitVec 32)
  | 0 => l
  | n + 1 =>
    let a := wordAt l 14
    let b := wordAt l 1
    let s0 := rotr a 7 ^^^ rotr a 18 ^^^ (a >>> 3)
    let s1 := rotr b 17 ^^^ rotr b 19 ^^^ (b >>> 10)
    shaExtend ((wordAt l 15 + s0 + wordAt l 6 + s1) :: l) n

/-- One round: the eight working variables, with K + W of the round. -/
def shaRound (v : List (BitVec 32)) (kw : BitVec 32) : List (BitVec 32) :=
  let a := wordAt v 0
  let e := wordAt v 4
  let t1 := wordAt v 7 + (rotr e 6 ^^^ rotr e 11 ^^^ rotr e 25)
    + ((e &&& wordAt v 5) ^^^ (~~~ e &&& wordAt v 6)) + kw
  let t2 := (rotr a 2 ^^^ rotr a 13 ^^^ rotr a 22)
    + ((a &&& wordAt v 1) ^^^ (a &&& wordAt v 2) ^^^ (wordAt v 1 &&& wordAt v 2))
  [t1 + t2, a, wordAt v 1, wordAt v 2, wordAt v 3 + t1, e, wordAt v 5, wordAt v 6]

/-- Compress a block into a hash value. -/
def shaBlock (h : List (BitVec 32)) (b : List Byte) : List (BitVec 32) :=
  let w := (shaExtend (blockWords b).reverse 48).reverse
  let v := ((shaK.zip w).map (fun p => p.1 + p.2)).foldl shaRound h
  (h.zip v).map (fun p => p.1 + p.2)

/-- Compress `n` blocks. -/
def shaBlocks (h : List (BitVec 32)) (m : List Byte) : Nat → List (BitVec 32)
  | 0 => h
  | n + 1 => shaBlocks (shaBlock h (m.take 64)) (m.drop 64) n

/-- SHA-256 of a message. -/
def sha256 (m : List Byte) : List Byte :=
  let z := (119 - m.length % 64) % 64
  let p := m ++ [0x80] ++ List.replicate z 0 ++ beBytes 8 (8 * m.length)
  (shaBlocks shaInit p (p.length / 64)).flatMap (fun w => beBytes 4 w.toNat)

/-- HMAC-SHA-256. -/
def hmac (key m : List Byte) : List Byte :=
  let k := if key.length > 64 then sha256 key else key
  let k := k ++ List.replicate (64 - k.length) 0
  let x := fun (c : Byte) => k.map (fun b => b ^^^ c)
  sha256 (x 0x5c ++ sha256 (x 0x36 ++ m))

/-! ### ECDSA over P-256 -/

/-- The field prime of P-256. -/
def p256P : Nat := 0xffffffff00000001000000000000000000000000ffffffffffffffffffffffff
/-- The order of its base point. -/
def p256N : Nat := 0xffffffff00000000ffffffffffffffffbce6faada7179e84f3b9cac2fc632551
/-- The coefficient b of its curve. -/
def p256B : Nat := 0x5ac635d8aa3a93e7b3ebbd55769886bc651d06b0cc53b0f63bce3c3e27d2604b
/-- The base point. -/
def p256G : Nat × Nat := (0x6b17d1f2e12c4247f8bce6e563a440f277037d812deb33a0f4a13945d898c296,
  0x4fe342e2fe1a7f9b8ee7eb4a7c0f9e162bce33576b315ececbb6406837bf51f5)

/-- b ^ e modulo m, over `n` bits of e from bit 0. -/
def powMod (m b e : Nat) : Nat → Nat
  | 0 => 1 % m
  | n + 1 => let r := powMod m (b * b % m) (e / 2) n; if e % 2 = 1 then r * b % m else r

/-- The inverse modulo a prime of 256 bits. -/
def invMod (m a : Nat) : Nat := powMod m (a % m) (m - 2) 256

/-- a − b modulo p. -/
def subP (a b : Nat) : Nat := (a + p256P - b % p256P) % p256P

/-- A point in Jacobian coordinates; Z = 0 is the point at infinity. -/
structure JPoint where
  x : Nat
  y : Nat
  z : Nat
  deriving DecidableEq, Repr

/-- Double a point (a = −3). -/
def JPoint.dbl (q : JPoint) : JPoint :=
  let d := q.z * q.z % p256P
  let g := q.y * q.y % p256P
  let b := q.x * g % p256P
  let a := 3 * (subP q.x d) * ((q.x + d) % p256P) % p256P
  let x3 := subP (a * a % p256P) (8 * b % p256P)
  let z3 := subP (subP ((q.y + q.z) * (q.y + q.z) % p256P) g) d
  ⟨x3, subP (a * subP (4 * b % p256P) x3 % p256P) (8 * g * g % p256P), z3⟩

/-- Add two points. -/
def JPoint.add (q r : JPoint) : JPoint :=
  if q.z = 0 then r
  else if r.z = 0 then q
  else
    let z1 := q.z * q.z % p256P
    let z2 := r.z * r.z % p256P
    let u1 := q.x * z2 % p256P
    let u2 := r.x * z1 % p256P
    let s1 := q.y * r.z % p256P * z2 % p256P
    let s2 := r.y * q.z % p256P * z1 % p256P
    if u1 = u2 then (if s1 = s2 then q.dbl else ⟨1, 1, 0⟩)
    else
      let h := subP u2 u1
      let k := subP s2 s1
      let h2 := h * h % p256P
      let h3 := h * h2 % p256P
      let v := u1 * h2 % p256P
      let x3 := subP (subP (k * k % p256P) h3) (2 * v % p256P)
      ⟨x3, subP (k * subP v x3 % p256P) (s1 * h3 % p256P), h * q.z % p256P * r.z % p256P⟩

/-- e times a point, over `n` bits of e from bit 0. -/
def JPoint.mul (e : Nat) (q : JPoint) : Nat → JPoint
  | 0 => ⟨1, 1, 0⟩
  | n + 1 => let r := JPoint.mul (e / 2) q.dbl n; if e % 2 = 1 then r.add q else r

/-- Whether a point lies on the curve. -/
def onCurve (x y : Nat) : Bool :=
  decide (x < p256P) && decide (y < p256P)
    && y * y % p256P == (x * x % p256P * x + (p256P - 3) * x + p256B) % p256P

/-- ECDSA verification of a 256-bit digest under the public key (x, y). -/
def ecdsaOk (x y digest r s : Nat) : Bool :=
  onCurve x y && decide (0 < r) && decide (r < p256N) && decide (0 < s) && decide (s < p256N) &&
    (let w := invMod p256N s
     let q := (JPoint.mul (digest * w % p256N) ⟨p256G.1, p256G.2, 1⟩ 256).add (JPoint.mul (r * w % p256N) ⟨x, y, 1⟩ 256)
     q.z != 0 && q.x * invMod p256P (q.z * q.z % p256P) % p256P % p256N == r)

end Sys2Proof.Machine
end

