-- ==== Sys2Proof/Config.lean ====
section
/-! DEFINITION. What one part fixes and the manual does not (grade, serial number, ROM image), and the free values: values
that the manual leaves open, opaque so that nothing can be proved from a particular one. -/

namespace Sys2Proof

/-- Grade of the part (R26): true for SVX4872-S-B0. Free: both grades behave alike (R27). (log entry 9, DESIGN CHOICE). -/
opaque Config.gradeS : Bool

/-- The 64-bit serial number of SYS_SERIAL. -/
opaque Config.serial : Nat

/-- The words of the boot ROM image, by word number. -/
opaque Config.romWord : Nat → Word

/-- Whether the instruction cache of a core still holds a word that it has fetched (spec/03 Table 3.1 gives its size, nothing its
lines or its replacement). Applied to the core, the word's address and station time. -/
opaque Config.icacheKeeps : Nat → Nat → Nat → Bool

/-- Which of the free descriptor numbers a new task takes: spec/09 R307 does not say. Applied to the counter of free
values; the answer is reduced modulo the number of free descriptors. -/
opaque Config.descPick : Nat → Nat

/-- The helper field of a NO_JOB status word (spec/03 R109, R110 give none), reduced modulo 16. Applied to the counter of
free values. -/
opaque Config.noJobHelper : Nat → Nat

/-- Which of the threads that wait for an entry of a helper queue takes the next one (spec/03 R108 gives no order). Applied
to the counter of free values. -/
opaque Config.waiterPick : Nat → Nat

/-- Where an FFT output lies within its bound around the exact value (spec/03 Table 3.7), from the samples, the bin and the
part; the result depends on nothing else (R114). -/
opaque Config.fftPick : List Int → Nat → Nat → Nat

/-- The RULE field of a task whose frame no rule matched (spec/08 R282 gives none), reduced modulo 4,096. Applied to the
counter of free values. -/
opaque Config.missRule : Nat → Nat

/-- The USER field of a task that took the slow path unmatched (spec/08 R296, R298 give none), reduced modulo 2³². Applied
to the counter of free values. -/
opaque Config.slowUser : Nat → Nat

/-- SEQ_ID, MSG_TYPE and DOMAIN of a receive timestamp of a frame without a PTP header (spec/11 R407 gives none), reduced
modulo 2²⁸. Applied to the counter of free values. -/
opaque Config.tsId : Nat → Nat

/-- Bytes of the process-data area of a SWEEP that no transmit map of its master covers (spec/10 R370 gives none). Applied to
the counter of free values and the byte's number. -/
opaque Config.sweepByte : Nat → Nat → BitVec 8

/-- The rate correction that the ring asks for, in ppb (spec/10 after R388 gives no formula). Applied to the counter of free
values; spec/14 R505 limits it. -/
opaque Config.ringTrim : Nat → Int

/-- Which of the free slots of the forward queue an item takes (spec/12 does not say). Applied to the counter of free
values; reduced modulo the number of free slots. -/
opaque Config.slotPick : Nat → Nat

/-- The session number that OPEN assigns (spec/12 R455 does not say which). Applied to the counter of free values; reduced
modulo the number of free numbers. -/
opaque Config.sessPick : Nat → Nat

/-- Random numbers: the device nonce ND of OPEN (spec/12 R455) and the nonce of the debug CHALLENGE (spec/17). Applied to the
counter of free values. -/
opaque Config.nonce : Nat → Nat

/-- Words of the data plane read while VCORE is off (spec/15 R549 says that the contents are lost). Applied to the word's
address. -/
opaque Config.lostWord : Nat → Word

/-- Whether the first frame of a port's queue is in transmission when its port is taken DOWN by a register write, the loss of
the reference or a boundary scan (spec/11 R423). Applied to the counter of free values. -/
opaque Config.midFrame : Nat → Bool

/-- Whether a pulse of 100 ns to 1 µs on a reset pin asserts the reset (spec/16 R561). Applied to the counter of free
values. -/
opaque Config.glitch : Nat → Bool

/-- The fuse words that the factory programs, 0x00 to 0x1F (spec/16 Table 16.3). -/
opaque Config.otpFactory : Nat → BitVec 32

/-- What the boot flash holds at its SFDP addresses (spec/16 R566): the flash is a part on the board. -/
opaque Config.sfdp : List (BitVec 8)

/-- How many pages of its records an interrupted flush has programmed, modulo one more than there are (spec/17 R603, R605; log
entry 171, DESIGN CHOICE). -/
opaque Config.flushed : Nat → Nat

/-- The status byte of a refused PROVISION or RECOVER_WRITE (spec/16 R573, R589 give none), reduced modulo 255 and raised
by 1. Applied to the counter of free values. -/
opaque Config.refuseByte : Nat → Nat

/-- The level of a GPIO input pin (spec/14 Table 14.3). Applied to the pin and to the counter of free values. -/
opaque Config.gpioIn : Nat → Nat → Bool

/-- BK_LSB and BK_WIDTH in the descriptor of a firmware-served entry (spec/13 R485 gives none). Applied to the entry's index
and subindex. -/
opaque Config.fwBacking : Nat → BitVec 16

/-- How many of its bytes an I2C target has taken where a NACK ends the transfer (spec/18 R659 does not say). Applied to the counter
of free values; reduced modulo one more than there are. -/
opaque Config.i2cTaken : Nat → Nat

/-- The state of a ring port's scrambler at the first bit of an output, its last 58 line bits (spec/10 R339): how many idle blocks
went before is a matter of time. Applied to the output's number. -/
opaque Config.scrambler : Nat → BitVec 58

end Sys2Proof
end

