-- ==== Sys2Proof/Machine/HelperMath.lean ====
section
/-! DEFINITION. What the helpers compute (spec/03 R115 to R117): checksums, CRCs, statistics, windows, transforms. -/

namespace Sys2Proof.Machine

/-! ### Checksum and CRC (spec/03 Tables 3.5 and 3.6) -/

/-- Fold a sum to 16 bits in ones' complement (RFC 1071); two folds suffice below 2³². -/
def foldSum (x : Nat) : Nat :=
  let y := x % 65536 + x / 65536
  let z := y % 65536 + y / 65536
  z % 65536 + z / 65536

/-- The sum of big-endian 16-bit words; an odd last byte is padded with a zero byte. -/
def sum16 : List Byte → Nat
  | [] => 0
  | [a] => a.toNat * 256
  | a :: b :: r => a.toNat * 256 + b.toNat + sum16 r

/-- CSUM16: the folded sum, not complemented. -/
def csum16 (init : Nat) (bs : List Byte) : Nat := foldSum (init + sum16 bs)

/-- One step of a reflected CRC-32 register. -/
def crcShift (poly r : BitVec 32) : BitVec 32 := if r.getLsbD 0 then (r >>> 1) ^^^ poly else r >>> 1

/-- One byte through a reflected CRC-32 register. -/
def crcByte (poly r : BitVec 32) (b : Byte) : BitVec 32 :=
  (List.range 8).foldl (fun r _ => crcShift poly r) (r ^^^ b.setWidth 32)

/-- Bytes through a reflected CRC-32 register. -/
def crcBytes (poly : BitVec 32) (r : BitVec 32) (bs : List Byte) : BitVec 32 := bs.foldl (crcByte poly) r

/-- The IEEE 802.3 polynomial, reflected. -/
def poly8023 : BitVec 32 := 0xEDB88320

/-- The CRC-32C polynomial, reflected. -/
def poly32c : BitVec 32 := 0x82F63B78

/-- HASH32: the register is the seed itself, without final XOR (spec/03 Table 3.6). -/
def hash32 (seed : Nat) (bs : List Byte) : Nat := (crcBytes poly32c (BitVec.ofNat 32 seed) bs).toNat

/-- CRC-32 with an initial register and an optional final XOR (spec/03 Table 3.5). -/
def crc32 (init : Nat) (final : Bool) (bs : List Byte) : Nat :=
  let r := crcBytes poly8023 (BitVec.ofNat 32 init) bs
  (if final then ~~~ r else r).toNat

/-- The initial register of CRC32 (spec/03 Table 3.5): PARAM[32] RAW. -/
def crcInit (param : Nat) : Nat :=
  if param % 2 ^ 32 = 0 ∧ !param.testBit 32 then 0xFFFFFFFF else param % 2 ^ 32

/-- One byte through the non-reflected CRC-64 register. -/
def crc64Byte (r : BitVec 64) (b : Byte) : BitVec 64 :=
  (List.range 8).foldl (fun r _ => if r.getLsbD 63 then (r <<< 1) ^^^ 0x42F0E1EBA9EA3693#64 else r <<< 1)
    (r ^^^ (b.setWidth 64 <<< 56))

/-- HASH64 (spec/03 Table 3.6). -/
def hash64 (seed : Val) (bs : List Byte) : Val := bs.foldl crc64Byte seed

/-! ### Fixed-point arithmetic (spec/03 R117) -/

/-- A number saturated to the Q1.31 range. -/
def satQ31 (x : Int) : Int := if x > 0x7FFFFFFF then 0x7FFFFFFF else if x < -0x80000000 then -0x80000000 else x

/-- a / b, b > 0, rounded to nearest, halfway to even. -/
def roundDiv (a b : Int) : Int :=
  let q := a / b
  let r := a - q * b
  if 2 * r > b ∨ (2 * r = b ∧ q % 2 = 1) then q + 1 else q

/-- The 32 low bits of an integer. -/
def low32 (x : Int) : Nat := (x % 4294967296).toNat

/-- A two's-complement number of `n` bits. -/
def signedOf (n x : Nat) : Int := if x % 2 ^ n ≥ 2 ^ (n - 1) then (x % 2 ^ n : Int) - 2 ^ n else (x % 2 ^ n : Int)

/-- Samples of 4 bytes. -/
def samples4 : List Byte → List Int
  | a :: b :: c :: d :: r => signedOf 32 (beNat [a, b, c, d]) :: samples4 r
  | _ => []

/-- Samples of 2 bytes, each widened by 16 zero bits. -/
def samples2 : List Byte → List Int
  | a :: b :: r => signedOf 16 (beNat [a, b]) * 65536 :: samples2 r
  | _ => []

/-- The integer square root, from bit `n` down. -/
def isqrtFrom (x : Nat) : Nat → Nat → Nat
  | 0, m => m
  | n + 1, m => let k := m + 2 ^ n; isqrtFrom x n (if k * k ≤ x then k else m)

/-- The integer square root of a number below 2⁵¹². -/
def isqrt (x : Nat) : Nat := isqrtFrom x 256 0

/-- RMS: √(Σx² / N), rounded to nearest, halfway to even (spec/03 Table 3.7). -/
def rms (s2 n : Nat) : Nat :=
  let m := isqrt (s2 / n)
  if 4 * s2 > n * ((2 * m + 1) * (2 * m + 1)) ∨ (4 * s2 = n * ((2 * m + 1) * (2 * m + 1)) ∧ m % 2 = 1) then m + 1 else m

/-- The four words of STATS (spec/03 Table 3.7). -/
def statsWords (xs : List Int) : List Val :=
  let n := xs.length
  let s2 := (xs.map (fun x => x.natAbs * x.natAbs)).sum
  let peak := xs.foldl (fun m x => max m (min x.natAbs 0x7FFFFFFF)) 0
  let mx := xs.foldl max (xs.headD 0)
  let mn := xs.foldl min (xs.headD 0)
  [BitVec.ofNat 64 (min (rms s2 n) 0x7FFFFFFF * 2 ^ 32 + peak), BitVec.ofNat 64 (low32 mx * 2 ^ 32 + low32 mn),
    BitVec.ofInt 64 xs.sum, BitVec.ofNat 64 n]

/-- π · 2¹²⁸. -/
def piFix : Int := 1069028584064966747859680373161870783300

/-- The sum of the cosine's series at x (scaled by 2¹²⁸), from term `k` on. -/
def cosSeries (x2 : Int) : Nat → Int → Nat → Int
  | 0, _, _ => 0
  | fuel + 1, term, k => term + cosSeries x2 fuel (-(term * x2 / 2 ^ 128) / ((2 * k + 1) * (2 * k + 2) : Nat)) (k + 1)

/-- cos(π p / q) for 0 ≤ p ≤ q / 2, scaled by 2⁹⁶ and rounded. -/
def cosQuarter (p q : Nat) : Int :=
  let x := piFix * p / q
  roundDiv (cosSeries (x * x / 2 ^ 128) 40 (2 ^ 128) 0) (2 ^ 32)

/-- cos(2π p / q), scaled by 2⁹⁶ (spec/03 R117: at least 40 bits internally). -/
def cosFix (p q : Nat) : Int :=
  let j := p % q
  let j := if 2 * j > q then q - j else j
  if 4 * j ≤ q then cosQuarter (2 * j) q else - cosQuarter (q - 2 * j) q

/-- sin(2π p / q), scaled by 2⁹⁶. -/
def sinFix (p q : Nat) : Int := cosFix (4 * p + 3 * q) (4 * q)

/-- The windows of Table 3.7 over N samples, before any rounding (spec/03 R117): 0 Hann, 1 Hamming, 2 user coefficients; the
products, all over one denominator. -/
def weighted (code : Nat) (coef : List Int) (xs : List Int) : List Int × Int :=
  let n := xs.length
  let at_ := fun (f : Nat → Int) => (xs.zip (List.range n)).map (fun (x, i) => x * f i)
  match code with
  | 0 => (at_ (fun i => 2 ^ 96 - cosFix i n), 2 ^ 97)
  | 2 => (at_ (fun i => (coef[i]?).getD 0), 2 ^ 31)
  | _ => (at_ (fun i => 54 * 2 ^ 96 - 46 * cosFix i n), 100 * 2 ^ 96)

/-- The windowed samples of Table 3.7. -/
def windowed (code : Nat) (coef : List Int) (xs : List Int) : List Int :=
  let (ys, d) := weighted code coef xs
  ys.map (fun y => satQ31 (roundDiv y d))

/-- The exact bin k of Table 3.7, real and imaginary part, scaled by N · 2⁹⁶. -/
def dftBin (xs : List Int) (k : Nat) : Int × Int :=
  let n := xs.length
  (xs.zip (List.range n)).foldl (fun (acc : Int × Int) (x, i) =>
    (acc.1 + x * cosFix (k * i % n) n, acc.2 - x * sinFix (k * i % n) n)) (0, 0)

/-- An output within ±b LSB of the exact value a / d, saturated; which one is free (spec/03 Table 3.7). (log entry 44, DESIGN
CHOICE). -/
def within (a d : Int) (b pick : Nat) : Int :=
  let lo := -((-(a - b * d)) / d)
  let hi := (a + b * d) / d
  satQ31 (lo + (pick % ((hi - lo).toNat + 1) : Nat))

/-- log₂ of a power of two up to 4,096. -/
def log2Of (n : Nat) : Nat := (List.range 13).foldl (fun m i => if 2 ^ i ≤ n then i else m) 0

/-- The words of FFT (spec/03 Table 3.7) over samples with a common denominator. -/
def fftWords (mag : Bool) (xs : List Int) (den : Int) : List Val :=
  let n := xs.length
  let d : Int := n * 2 ^ 96 * den
  let b := log2Of n + 2
  (List.range (n / 2 + 1)).map (fun k =>
    let (re, im) := dftBin xs k
    if mag then
      let m : Int := isqrt (re.natAbs * re.natAbs + im.natAbs * im.natAbs)
      BitVec.ofNat 64 (low32 (max 0 (within m d b (Config.fftPick xs k 2))) * 2 ^ 32)
    else
      BitVec.ofNat 64 (low32 (within re d b (Config.fftPick xs k 0)) * 2 ^ 32
        + low32 (within im d b (Config.fftPick xs k 1))))

/-- Samples as 4 bytes each, big-endian. -/
def sampleBytes (xs : List Int) : List Byte := xs.flatMap (fun x => beBytes 4 (low32 x))

end Sys2Proof.Machine
end

