-- ==== Sys2Proof/Machine/Flags.lean ====
section
/-! DEFINITION. The values the A-pipe computes (spec/04 Table 4.3, R129, R130): the core has no condition flags; its
comparisons are values and branch conditions. -/

namespace Sys2Proof.Machine

/-- 1 for true, 0 for false. -/
def boolVal (b : Bool) : Val := if b then 1 else 0

/-- A shift amount: rs2[5:0]. -/
def shAmt (b : Val) : Nat := b.toNat % 64

/-- ADD. -/
def aluAdd (a b : Val) : Val := a + b
/-- SUB. -/
def aluSub (a b : Val) : Val := a - b
/-- AND. -/
def aluAnd (a b : Val) : Val := a &&& b
/-- OR. -/
def aluOr (a b : Val) : Val := a ||| b
/-- XOR. -/
def aluXor (a b : Val) : Val := a ^^^ b
/-- SLL. -/
def aluSll (a b : Val) : Val := a <<< shAmt b
/-- SRL. -/
def aluSrl (a b : Val) : Val := a >>> shAmt b
/-- SRA. -/
def aluSra (a b : Val) : Val := a.sshiftRight (shAmt b)
/-- ROR. -/
def aluRor (a b : Val) : Val := a.rotateRight (shAmt b)
/-- Signed less-than. -/
def sLess (a b : Val) : Bool := decide (a.toInt < b.toInt)
/-- Unsigned less-than. -/
def uLess (a b : Val) : Bool := decide (a.toNat < b.toNat)
/-- SLT. -/
def aluSlt (a b : Val) : Val := boolVal (sLess a b)
/-- SLTU. -/
def aluSltu (a b : Val) : Val := boolVal (uLess a b)
/-- MUL. -/
def aluMul (a b : Val) : Val := a * b
/-- MULH. -/
def aluMulh (a b : Val) : Val := BitVec.ofInt 64 (a.toInt * b.toInt / 2 ^ 64)
/-- MULHU. -/
def aluMulhu (a b : Val) : Val := BitVec.ofNat 64 (a.toNat * b.toNat / 2 ^ 64)
/-- DIV, rounded towards zero; the most negative value by −1 wraps to itself (R129). -/
def aluDiv (a b : Val) : Val := BitVec.ofInt 64 (a.toInt.tdiv b.toInt)
/-- DIVU. -/
def aluDivu (a b : Val) : Val := BitVec.ofNat 64 (a.toNat / b.toNat)
/-- REM, with the sign of the dividend (R129). -/
def aluRem (a b : Val) : Val := BitVec.ofInt 64 (a.toInt.tmod b.toInt)
/-- REMU: the remainder of the unsigned quotient. -/
def aluRemu (a b : Val) : Val := BitVec.ofNat 64 (a.toNat % b.toNat)
/-- MIN. -/
def aluMin (a b : Val) : Val := if sLess b a then b else a
/-- MAX. -/
def aluMax (a b : Val) : Val := if sLess a b then b else a
/-- CLZ: leading zeros, 64 for zero. -/
def aluClz (a : Val) : Val := BitVec.ofNat 64 (if a = 0 then 64 else 63 - Nat.log2 a.toNat)
/-- POPC: set bits. -/
def aluPopc (a : Val) : Val :=
  BitVec.ofNat 64 ((List.range 64).foldl (fun n i => n + (if a.toNat.testBit i then 1 else 0)) 0)
/-- EXT: bits [pos + lenM1 : pos], zero-extended. -/
def aluExt (a : Val) (pos lenM1 : Nat) : Val := BitVec.ofNat 64 (bits a.toNat pos (lenM1 + 1))
/-- INS: bits [pos + lenM1 : pos] of `d` replaced by the low bits of `a`. -/
def aluIns (d a : Val) (pos lenM1 : Nat) : Val :=
  BitVec.ofNat 64 (d.toNat - bits d.toNat pos (lenM1 + 1) * 2 ^ pos + a.toNat % 2 ^ (lenM1 + 1) * 2 ^ pos)
/-- imm16 sign-extended (spec/04, under Table 4.1). -/
def sext16 (i : BitVec 16) : Val := i.signExtend 64
/-- imm16 zero-extended. -/
def zext16 (i : BitVec 16) : Val := i.setWidth 64

end Sys2Proof.Machine
end

