-- ==== Sys2Proof/Machine/Isa.lean ====
section
/-! DEFINITION. Instruction words (spec/04 Tables 4.1 and 4.2, and the fn codes of Tables 4.3 to 4.10): the word of each
instruction and the instruction of each word. A field that the tables leave unused must be zero (R122). -/

namespace Sys2Proof.Machine

/-- Opcode field [31:26]. -/
def opF (w : BitVec 32) : BitVec 6 := w.extractLsb' 26 6
/-- Field [25:21]. -/
def rdF (w : BitVec 32) : BitVec 5 := w.extractLsb' 21 5
/-- Field [20:16]. -/
def rs1F (w : BitVec 32) : BitVec 5 := w.extractLsb' 16 5
/-- Field [15:11]. -/
def rs2F (w : BitVec 32) : BitVec 5 := w.extractLsb' 11 5
/-- Field [10:0]. -/
def fnF (w : BitVec 32) : BitVec 11 := w.extractLsb' 0 11
/-- Field [15:0]. -/
def immF (w : BitVec 32) : BitVec 16 := w.extractLsb' 0 16
/-- Register named by [25:21]. -/
def rdR (w : BitVec 32) : Reg := (rdF w).toFin
/-- Register named by [20:16]. -/
def rs1R (w : BitVec 32) : Reg := (rs1F w).toFin
/-- Register named by [15:11]. -/
def rs2R (w : BitVec 32) : Reg := (rs2F w).toFin
/-- A register number as a field. -/
def r5 (r : Reg) : BitVec 5 := BitVec.ofFin r
/-- Format R of Table 4.1. -/
def encR (op : BitVec 6) (rd rs1 rs2 : BitVec 5) (fn : BitVec 11) : BitVec 32 := (((op ++ rd) ++ rs1) ++ rs2) ++ fn
/-- Formats I, S, B and K of Table 4.1. -/
def encI (op : BitVec 6) (rd rs1 : BitVec 5) (imm : BitVec 16) : BitVec 32 := ((op ++ rd) ++ rs1) ++ imm
/-- Format J of Table 4.1. -/
def encJ (op : BitVec 6) (rd : BitVec 5) (off : BitVec 21) : BitVec 32 := (op ++ rd) ++ off

/-- The instruction word of a command that is an instruction (spec/04 R121). -/
def encodeIsa (i : Instr) : Option (BitVec 32) :=
  match i with
  | .add _ rd rs1 rs2 => some (encR 0x00 (r5 rd) (r5 rs1) (r5 rs2) 0x000)
  | .sub _ rd rs1 rs2 => some (encR 0x00 (r5 rd) (r5 rs1) (r5 rs2) 0x001)
  | .and_ _ rd rs1 rs2 => some (encR 0x00 (r5 rd) (r5 rs1) (r5 rs2) 0x002)
  | .or_ _ rd rs1 rs2 => some (encR 0x00 (r5 rd) (r5 rs1) (r5 rs2) 0x003)
  | .xor _ rd rs1 rs2 => some (encR 0x00 (r5 rd) (r5 rs1) (r5 rs2) 0x004)
  | .sll _ rd rs1 rs2 => some (encR 0x00 (r5 rd) (r5 rs1) (r5 rs2) 0x005)
  | .srl _ rd rs1 rs2 => some (encR 0x00 (r5 rd) (r5 rs1) (r5 rs2) 0x006)
  | .sra _ rd rs1 rs2 => some (encR 0x00 (r5 rd) (r5 rs1) (r5 rs2) 0x007)
  | .slt _ rd rs1 rs2 => some (encR 0x00 (r5 rd) (r5 rs1) (r5 rs2) 0x008)
  | .sltu _ rd rs1 rs2 => some (encR 0x00 (r5 rd) (r5 rs1) (r5 rs2) 0x009)
  | .mul _ rd rs1 rs2 => some (encR 0x00 (r5 rd) (r5 rs1) (r5 rs2) 0x00A)
  | .mulh _ rd rs1 rs2 => some (encR 0x00 (r5 rd) (r5 rs1) (r5 rs2) 0x00B)
  | .mulhu _ rd rs1 rs2 => some (encR 0x00 (r5 rd) (r5 rs1) (r5 rs2) 0x00C)
  | .div _ rd rs1 rs2 => some (encR 0x00 (r5 rd) (r5 rs1) (r5 rs2) 0x00D)
  | .divu _ rd rs1 rs2 => some (encR 0x00 (r5 rd) (r5 rs1) (r5 rs2) 0x00E)
  | .rem _ rd rs1 rs2 => some (encR 0x00 (r5 rd) (r5 rs1) (r5 rs2) 0x00F)
  | .remu _ rd rs1 rs2 => some (encR 0x00 (r5 rd) (r5 rs1) (r5 rs2) 0x010)
  | .clz _ rd rs1 => some (encR 0x00 (r5 rd) (r5 rs1) 0 0x011)
  | .popc _ rd rs1 => some (encR 0x00 (r5 rd) (r5 rs1) 0 0x012)
  | .min _ rd rs1 rs2 => some (encR 0x00 (r5 rd) (r5 rs1) (r5 rs2) 0x013)
  | .max _ rd rs1 rs2 => some (encR 0x00 (r5 rd) (r5 rs1) (r5 rs2) 0x014)
  | .mov _ rd rs1 => some (encR 0x00 (r5 rd) (r5 rs1) 0 0x020)
  | .tagget _ rd rs1 => some (encR 0x00 (r5 rd) (r5 rs1) 0 0x021)
  | .addi _ rd rs1 imm => some (encI 0x01 (r5 rd) (r5 rs1) imm)
  | .andi _ rd rs1 imm => some (encI 0x02 (r5 rd) (r5 rs1) imm)
  | .ori _ rd rs1 imm => some (encI 0x03 (r5 rd) (r5 rs1) imm)
  | .xori _ rd rs1 imm => some (encI 0x04 (r5 rd) (r5 rs1) imm)
  | .slti _ rd rs1 imm => some (encI 0x05 (r5 rd) (r5 rs1) imm)
  | .sltiu _ rd rs1 imm => some (encI 0x06 (r5 rd) (r5 rs1) imm)
  | .shiSll _ rd rs1 sh => some (encI 0x07 (r5 rd) (r5 rs1) (((0 : BitVec 8) ++ (0 : BitVec 2)) ++ sh))
  | .shiSrl _ rd rs1 sh => some (encI 0x07 (r5 rd) (r5 rs1) (((0 : BitVec 8) ++ (1 : BitVec 2)) ++ sh))
  | .shiSra _ rd rs1 sh => some (encI 0x07 (r5 rd) (r5 rs1) (((0 : BitVec 8) ++ (2 : BitVec 2)) ++ sh))
  | .shiRor _ rd rs1 sh => some (encI 0x07 (r5 rd) (r5 rs1) (((0 : BitVec 8) ++ (3 : BitVec 2)) ++ sh))
  | .ext _ rd rs1 pos l => some (encI 0x08 (r5 rd) (r5 rs1) (((0 : BitVec 4) ++ l) ++ pos))
  | .ins _ rd rs1 pos l => some (encI 0x09 (r5 rd) (r5 rs1) (((0 : BitVec 4) ++ l) ++ pos))
  | .movz _ rd h imm => some (encI 0x0A (r5 rd) (((0 : BitVec 2) ++ (0 : BitVec 1)) ++ h) imm)
  | .movk _ rd h imm => some (encI 0x0A (r5 rd) (((0 : BitVec 2) ++ (1 : BitVec 1)) ++ h) imm)
  | .lb _ rd rs1 imm => some (encI 0x10 (r5 rd) (r5 rs1) imm)
  | .lbu _ rd rs1 imm => some (encI 0x11 (r5 rd) (r5 rs1) imm)
  | .lh _ rd rs1 imm => some (encI 0x12 (r5 rd) (r5 rs1) imm)
  | .lhu _ rd rs1 imm => some (encI 0x13 (r5 rd) (r5 rs1) imm)
  | .lw _ rd rs1 imm => some (encI 0x14 (r5 rd) (r5 rs1) imm)
  | .lwu _ rd rs1 imm => some (encI 0x15 (r5 rd) (r5 rs1) imm)
  | .ld _ rd rs1 imm => some (encI 0x16 (r5 rd) (r5 rs1) imm)
  | .sb _ rs2 rs1 imm => some (encI 0x18 (r5 rs2) (r5 rs1) imm)
  | .sh _ rs2 rs1 imm => some (encI 0x19 (r5 rs2) (r5 rs1) imm)
  | .sw _ rs2 rs1 imm => some (encI 0x1A (r5 rs2) (r5 rs1) imm)
  | .sd _ rs2 rs1 imm => some (encI 0x1B (r5 rs2) (r5 rs1) imm)
  | .beq _ rs1 rs2 off => some (encI 0x20 (r5 rs1) (r5 rs2) off)
  | .bne _ rs1 rs2 off => some (encI 0x21 (r5 rs1) (r5 rs2) off)
  | .blt _ rs1 rs2 off => some (encI 0x22 (r5 rs1) (r5 rs2) off)
  | .bge _ rs1 rs2 off => some (encI 0x23 (r5 rs1) (r5 rs2) off)
  | .bltu _ rs1 rs2 off => some (encI 0x24 (r5 rs1) (r5 rs2) off)
  | .bgeu _ rs1 rs2 off => some (encI 0x25 (r5 rs1) (r5 rs2) off)
  | .btag _ rs1 kind neg off => some (encI 0x26 (r5 rs1) (((if neg then 1 else 0 : BitVec 1) ++ (0 : BitVec 2)) ++ kind) off)
  | .j _ off => some (encJ 0x28 0 off)
  | .jal _ rd off => some (encJ 0x29 (r5 rd) off)
  | .jalr _ rd rs1 imm => some (encI 0x2A (r5 rd) (r5 rs1) imm)
  | .alloc _ rd rs1 => some (encR 0x30 (r5 rd) (r5 rs1) 0 0x001)
  | .free _ rs1 => some (encR 0x30 0 (r5 rs1) 0 0x002)
  | .hadd _ rd rs1 rs2 => some (encR 0x30 (r5 rd) (r5 rs1) (r5 rs2) 0x003)
  | .getwork _ => some (encR 0x31 0 0 0 0x001)
  | .done _ => some (encR 0x31 0 0 0 0x002)
  | .abort _ => some (encR 0x31 0 0 0 0x003)
  | .send _ rs1 => some (encR 0x31 0 (r5 rs1) 0 0x004)
  | .xmit _ rs1 rs2 => some (encR 0x31 0 (r5 rs1) (r5 rs2) 0x005)
  | .cancel _ rd rs1 rs2 => some (encR 0x31 (r5 rd) (r5 rs1) (r5 rs2) 0x006)
  | .chkcancel _ rd => some (encR 0x31 (r5 rd) 0 0 0x007)
  | .hjob _ rd rs1 => some (encR 0x32 (r5 rd) (r5 rs1) 0 0x001)
  | .hwait _ rd rs1 => some (encR 0x32 (r5 rd) (r5 rs1) 0 0x002)
  | .fence _ => some (encR 0x33 0 0 0 0x001)
  | .rdtime _ rd => some (encR 0x33 (r5 rd) 0 0 0x002)
  | .record _ rs1 rs2 => some (encR 0x33 0 (r5 rs1) (r5 rs2) 0x003)
  | .trap _ n => some (encR 0x33 0 0 n 0x004)
  | .clean _ rs1 => some (encR 0x33 0 (r5 rs1) 0 0x005)
  | .cinv _ rs1 => some (encR 0x33 0 (r5 rs1) 0 0x006)
  | .mfsr _ rd n => some (encR 0x33 (r5 rd) 0 n 0x007)
  | .swapset _ => some (encR 0x38 0 0 0 0x001)
  | .fresolveResume _ rd rs1 rs2 => some (encR 0x38 (r5 rd) (r5 rs1) (r5 rs2) 0x002)
  | .fresolveRestart _ rd rs1 rs2 => some (encR 0x38 (r5 rd) (r5 rs1) (r5 rs2) 0x002)
  | .fresolveAbort _ rd rs1 rs2 => some (encR 0x38 (r5 rd) (r5 rs1) (r5 rs2) 0x002)
  | .mtsr _ rs1 n => some (encR 0x38 0 (r5 rs1) n 0x003)
  | .waitev _ rd => some (encR 0x38 (r5 rd) 0 0 0x004)
  | .tagset _ rd rs1 tag => some (encI 0x39 (r5 rd) (r5 rs1) ((0 : BitVec 8) ++ tag))
  | .reservedOpcode _ w => some w
  | _ => none

/-- The thread that issues a command which is an instruction of a core. -/
def issuerOf (i : Instr) : Option Tid :=
  match i with
  | .add t _ _ _ => some t
  | .sub t _ _ _ => some t
  | .and_ t _ _ _ => some t
  | .or_ t _ _ _ => some t
  | .xor t _ _ _ => some t
  | .sll t _ _ _ => some t
  | .srl t _ _ _ => some t
  | .sra t _ _ _ => some t
  | .slt t _ _ _ => some t
  | .sltu t _ _ _ => some t
  | .mul t _ _ _ => some t
  | .mulh t _ _ _ => some t
  | .mulhu t _ _ _ => some t
  | .div t _ _ _ => some t
  | .divu t _ _ _ => some t
  | .rem t _ _ _ => some t
  | .remu t _ _ _ => some t
  | .clz t _ _ => some t
  | .popc t _ _ => some t
  | .min t _ _ _ => some t
  | .max t _ _ _ => some t
  | .mov t _ _ => some t
  | .tagget t _ _ => some t
  | .addi t _ _ _ => some t
  | .andi t _ _ _ => some t
  | .ori t _ _ _ => some t
  | .xori t _ _ _ => some t
  | .slti t _ _ _ => some t
  | .sltiu t _ _ _ => some t
  | .shiSll t _ _ _ => some t
  | .shiSrl t _ _ _ => some t
  | .shiSra t _ _ _ => some t
  | .shiRor t _ _ _ => some t
  | .ext t _ _ _ _ => some t
  | .ins t _ _ _ _ => some t
  | .movz t _ _ _ => some t
  | .movk t _ _ _ => some t
  | .lb t _ _ _ => some t
  | .lbu t _ _ _ => some t
  | .lh t _ _ _ => some t
  | .lhu t _ _ _ => some t
  | .lw t _ _ _ => some t
  | .lwu t _ _ _ => some t
  | .ld t _ _ _ => some t
  | .sb t _ _ _ => some t
  | .sh t _ _ _ => some t
  | .sw t _ _ _ => some t
  | .sd t _ _ _ => some t
  | .beq t _ _ _ => some t
  | .bne t _ _ _ => some t
  | .blt t _ _ _ => some t
  | .bge t _ _ _ => some t
  | .bltu t _ _ _ => some t
  | .bgeu t _ _ _ => some t
  | .btag t _ _ _ _ => some t
  | .j t _ => some t
  | .jal t _ _ => some t
  | .jalr t _ _ _ => some t
  | .alloc t _ _ => some t
  | .free t _ => some t
  | .hadd t _ _ _ => some t
  | .getwork t => some t
  | .done t => some t
  | .abort t => some t
  | .send t _ => some t
  | .xmit t _ _ => some t
  | .cancel t _ _ _ => some t
  | .chkcancel t _ => some t
  | .hjob t _ _ => some t
  | .hwait t _ _ => some t
  | .fence t => some t
  | .rdtime t _ => some t
  | .record t _ _ => some t
  | .trap t _ => some t
  | .clean t _ => some t
  | .cinv t _ => some t
  | .mfsr t _ _ => some t
  | .swapset t => some t
  | .fresolveResume t _ _ _ => some t
  | .fresolveRestart t _ _ _ => some t
  | .fresolveAbort t _ _ _ => some t
  | .mtsr t _ _ => some t
  | .waitev t _ => some t
  | .tagset t _ _ _ => some t
  | .reservedOpcode t _ => some t
  | _ => none

/-- The instruction that a word decodes to, as issued by thread `t` (spec/04 R121, R122); none: the word is reserved. The
three FRESOLVE rows share one word: the decision stands in a register. -/
def decodeIsa (t : Tid) (w : BitVec 32) : Option Instr :=
  match (opF w).toNat with
  | 0x00 => match (fnF w).toNat with
    | 0x000 => some (.add t (rdR w) (rs1R w) (rs2R w))
    | 0x001 => some (.sub t (rdR w) (rs1R w) (rs2R w))
    | 0x002 => some (.and_ t (rdR w) (rs1R w) (rs2R w))
    | 0x003 => some (.or_ t (rdR w) (rs1R w) (rs2R w))
    | 0x004 => some (.xor t (rdR w) (rs1R w) (rs2R w))
    | 0x005 => some (.sll t (rdR w) (rs1R w) (rs2R w))
    | 0x006 => some (.srl t (rdR w) (rs1R w) (rs2R w))
    | 0x007 => some (.sra t (rdR w) (rs1R w) (rs2R w))
    | 0x008 => some (.slt t (rdR w) (rs1R w) (rs2R w))
    | 0x009 => some (.sltu t (rdR w) (rs1R w) (rs2R w))
    | 0x00A => some (.mul t (rdR w) (rs1R w) (rs2R w))
    | 0x00B => some (.mulh t (rdR w) (rs1R w) (rs2R w))
    | 0x00C => some (.mulhu t (rdR w) (rs1R w) (rs2R w))
    | 0x00D => some (.div t (rdR w) (rs1R w) (rs2R w))
    | 0x00E => some (.divu t (rdR w) (rs1R w) (rs2R w))
    | 0x00F => some (.rem t (rdR w) (rs1R w) (rs2R w))
    | 0x010 => some (.remu t (rdR w) (rs1R w) (rs2R w))
    | 0x011 => if rs2F w = 0 then some (.clz t (rdR w) (rs1R w)) else none
    | 0x012 => if rs2F w = 0 then some (.popc t (rdR w) (rs1R w)) else none
    | 0x020 => if rs2F w = 0 then some (.mov t (rdR w) (rs1R w)) else none
    | 0x021 => if rs2F w = 0 then some (.tagget t (rdR w) (rs1R w)) else none
    | 0x013 => some (.min t (rdR w) (rs1R w) (rs2R w))
    | 0x014 => some (.max t (rdR w) (rs1R w) (rs2R w))
    | _ => none
  | 0x01 => some (.addi t (rdR w) (rs1R w) (immF w))
  | 0x02 => some (.andi t (rdR w) (rs1R w) (immF w))
  | 0x03 => some (.ori t (rdR w) (rs1R w) (immF w))
  | 0x04 => some (.xori t (rdR w) (rs1R w) (immF w))
  | 0x05 => some (.slti t (rdR w) (rs1R w) (immF w))
  | 0x06 => some (.sltiu t (rdR w) (rs1R w) (immF w))
  | 0x07 => if (immF w).extractLsb' 8 8 = 0 then match ((immF w).extractLsb' 6 2).toNat with
      | 0 => some (.shiSll t (rdR w) (rs1R w) ((immF w).extractLsb' 0 6))
      | 1 => some (.shiSrl t (rdR w) (rs1R w) ((immF w).extractLsb' 0 6))
      | 2 => some (.shiSra t (rdR w) (rs1R w) ((immF w).extractLsb' 0 6))
      | _ => some (.shiRor t (rdR w) (rs1R w) ((immF w).extractLsb' 0 6))
    else none
  | 0x08 => if (immF w).extractLsb' 12 4 = 0
    then some (.ext t (rdR w) (rs1R w) ((immF w).extractLsb' 0 6) ((immF w).extractLsb' 6 6)) else none
  | 0x09 => if (immF w).extractLsb' 12 4 = 0
    then some (.ins t (rdR w) (rs1R w) ((immF w).extractLsb' 0 6) ((immF w).extractLsb' 6 6)) else none
  | 0x0A => if (rs1F w).extractLsb' 3 2 = 0 then
      (if (rs1F w).extractLsb' 2 1 = 0 then some (.movz t (rdR w) ((rs1F w).extractLsb' 0 2) (immF w))
       else some (.movk t (rdR w) ((rs1F w).extractLsb' 0 2) (immF w)))
    else none
  | 0x10 => some (.lb t (rdR w) (rs1R w) (immF w))
  | 0x11 => some (.lbu t (rdR w) (rs1R w) (immF w))
  | 0x12 => some (.lh t (rdR w) (rs1R w) (immF w))
  | 0x13 => some (.lhu t (rdR w) (rs1R w) (immF w))
  | 0x14 => some (.lw t (rdR w) (rs1R w) (immF w))
  | 0x15 => some (.lwu t (rdR w) (rs1R w) (immF w))
  | 0x16 => some (.ld t (rdR w) (rs1R w) (immF w))
  | 0x18 => some (.sb t (rdR w) (rs1R w) (immF w))
  | 0x19 => some (.sh t (rdR w) (rs1R w) (immF w))
  | 0x1A => some (.sw t (rdR w) (rs1R w) (immF w))
  | 0x1B => some (.sd t (rdR w) (rs1R w) (immF w))
  | 0x20 => some (.beq t (rdR w) (rs1R w) (immF w))
  | 0x21 => some (.bne t (rdR w) (rs1R w) (immF w))
  | 0x22 => some (.blt t (rdR w) (rs1R w) (immF w))
  | 0x23 => some (.bge t (rdR w) (rs1R w) (immF w))
  | 0x24 => some (.bltu t (rdR w) (rs1R w) (immF w))
  | 0x25 => some (.bgeu t (rdR w) (rs1R w) (immF w))
  | 0x26 => if (rs1F w).extractLsb' 2 2 = 0
    then some (.btag t (rdR w) ((rs1F w).extractLsb' 0 2) ((rs1F w).extractLsb' 4 1 == 1) (immF w)) else none
  | 0x28 => if rdF w = 0 then some (.j t (w.extractLsb' 0 21)) else none
  | 0x29 => some (.jal t (rdR w) (w.extractLsb' 0 21))
  | 0x2A => some (.jalr t (rdR w) (rs1R w) (immF w))
  | 0x30 => match (fnF w).toNat with
    | 0x001 => if rs2F w = 0 then some (.alloc t (rdR w) (rs1R w)) else none
    | 0x002 => if rdF w = 0 ∧ rs2F w = 0 then some (.free t (rs1R w)) else none
    | 0x003 => some (.hadd t (rdR w) (rs1R w) (rs2R w))
    | _ => none
  | 0x31 => match (fnF w).toNat with
    | 0x001 => if rdF w = 0 ∧ rs1F w = 0 ∧ rs2F w = 0 then some (.getwork t) else none
    | 0x002 => if rdF w = 0 ∧ rs1F w = 0 ∧ rs2F w = 0 then some (.done t) else none
    | 0x003 => if rdF w = 0 ∧ rs1F w = 0 ∧ rs2F w = 0 then some (.abort t) else none
    | 0x004 => if rdF w = 0 ∧ rs2F w = 0 then some (.send t (rs1R w)) else none
    | 0x005 => if rdF w = 0 then some (.xmit t (rs1R w) (rs2R w)) else none
    | 0x006 => some (.cancel t (rdR w) (rs1R w) (rs2R w))
    | 0x007 => if rs1F w = 0 ∧ rs2F w = 0 then some (.chkcancel t (rdR w)) else none
    | _ => none
  | 0x32 => match (fnF w).toNat with
    | 0x001 => if rs2F w = 0 then some (.hjob t (rdR w) (rs1R w)) else none
    | 0x002 => if rs2F w = 0 then some (.hwait t (rdR w) (rs1R w)) else none
    | _ => none
  | 0x33 => match (fnF w).toNat with
    | 0x001 => if rdF w = 0 ∧ rs1F w = 0 ∧ rs2F w = 0 then some (.fence t) else none
    | 0x002 => if rs1F w = 0 ∧ rs2F w = 0 then some (.rdtime t (rdR w)) else none
    | 0x003 => if rdF w = 0 then some (.record t (rs1R w) (rs2R w)) else none
    | 0x004 => if rdF w = 0 ∧ rs1F w = 0 then some (.trap t (rs2F w)) else none
    | 0x005 => if rdF w = 0 ∧ rs2F w = 0 then some (.clean t (rs1R w)) else none
    | 0x006 => if rdF w = 0 ∧ rs2F w = 0 then some (.cinv t (rs1R w)) else none
    | 0x007 => if rs1F w = 0 then some (.mfsr t (rdR w) (rs2F w)) else none
    | _ => none
  | 0x38 => match (fnF w).toNat with
    | 0x001 => if rdF w = 0 ∧ rs1F w = 0 ∧ rs2F w = 0 then some (.swapset t) else none
    | 0x002 => some (.fresolveResume t (rdR w) (rs1R w) (rs2R w))
    | 0x003 => if rdF w = 0 then some (.mtsr t (rs1R w) (rs2F w)) else none
    | 0x004 => if rs1F w = 0 ∧ rs2F w = 0 then some (.waitev t (rdR w)) else none
    | _ => none
  | 0x39 => if (immF w).extractLsb' 8 8 = 0 then some (.tagset t (rdR w) (rs1R w) ((immF w).extractLsb' 0 8)) else none
  | _ => none

/-- The word of an instruction, for a fault's INFO and the fetch (spec/05 Table 5.2). -/
def wordOf (i : Instr) : BitVec 32 := (encodeIsa i).getD 0

end Sys2Proof.Machine
end

