-- ==== Sys2Proof/Machine/Table.lean ====
section
/-! DEFINITION. Sparse data by key in one canonical form: a list of (key, value) pairs with keys strictly rising and no
entry equal to what an unlisted key reads as. Memory, the register file and the per-unit states are such tables. -/

namespace Sys2Proof.Machine

/-- A sparse table; what an unlisted key reads as is given to `tget` and `tset` as `d`. -/
abbrev Table (α : Type) := List (Nat × α)

/-- The entry at key `k`, or `d k` where the table lists none. -/
def tget {α : Type} (d : Nat → α) : Table α → Nat → α
  | [], k => d k
  | (k', v) :: r, k => if k' = k then v else tget d r k

/-- Put `v` at key `k`, keys kept rising. -/
def tput {α : Type} (k : Nat) (v : α) : Table α → Table α
  | [] => [(k, v)]
  | (k', v') :: r =>
    if k < k' then (k, v) :: (k', v') :: r
    else if k = k' then (k, v) :: r
    else (k', v') :: tput k v r

/-- Remove key `k`. -/
def tdel {α : Type} (k : Nat) (t : Table α) : Table α := t.filter (fun e => e.1 != k)

/-- Write `v` at key `k`: the value an unlisted key reads as removes the entry. -/
def tset {α : Type} [DecidableEq α] (d : Nat → α) (t : Table α) (k : Nat) (v : α) : Table α :=
  if v = d k then tdel k t else tput k v t

/-- The canonical form: keys strictly rising, no entry equal to its default. -/
def twf {α : Type} [DecidableEq α] (d : Nat → α) : Table α → Bool
  | [] => true
  | [(k, v)] => decide (v ≠ d k)
  | (k, v) :: (k', v') :: r => decide (v ≠ d k) && decide (k < k') && twf d ((k', v') :: r)

/-- A table of things that may be absent: an unlisted key is absent. -/
abbrev OTable (α : Type) := List (Nat × α)

/-- The thing at key `k`, if any. -/
def oget {α : Type} : OTable α → Nat → Option α
  | [], _ => none
  | (k', v) :: r, k => if k' = k then some v else oget r k

/-- Put a thing at key `k`. -/
def oput {α : Type} (k : Nat) (v : α) (t : OTable α) : OTable α := tput k v t

/-- Take the thing at key `k` away. -/
def odel {α : Type} (k : Nat) (t : OTable α) : OTable α := tdel k t

end Sys2Proof.Machine
end

