-- ==== Sys2Proof/Machine/RegMap.lean ====
section
/-! DEFINITION. The M-bus register map of the register tables of spec/02 to spec/18: for every register its address, its
instances, its fields with access code and reset value (R9, R15, R16). An offset that no row gives reads as zero and
ignores writes (R12, R46). -/

namespace Sys2Proof.Machine

/-- The access codes of Table 0.2. -/
inductive Acc where
  | ro | rw | w1c | wo | rwc
  deriving DecidableEq, Repr

/-- A field of a register: lowest bit, width, access code, reset value. -/
structure FieldRow where
  lo : Nat
  width : Nat
  acc : Acc
  reset : Nat
  deriving DecidableEq, Repr

/-- A register: address of its first instance, (count, stride) of each dimension, whether it lies in the always-on
domain (R16), its fields. -/
structure RegRow where
  base : Nat
  dims : List (Nat × Nat)
  aon : Bool
  fields : List FieldRow
  deriving DecidableEq, Repr

/-- Registers of the SYS block. -/
def sysRows : List RegRow := [
  ⟨0x40000000, [], false, [⟨0, 32, .ro, 42929⟩]⟩, -- SYS_VENDOR (16 R592)
  ⟨0x40000004, [], false, [⟨0, 16, .ro, 18546⟩, ⟨16, 8, .ro, 176⟩, ⟨24, 1, .ro, 0⟩]⟩, -- SYS_ID (16 R592)
  ⟨0x40000008, [], false, [⟨0, 32, .ro, 0⟩]⟩, -- SYS_SERIAL_LO (16 R592)
  ⟨0x4000000C, [], false, [⟨0, 32, .ro, 0⟩]⟩, -- SYS_SERIAL_HI (16 R592)
  ⟨0x40000010, [], false, [⟨0, 32, .ro, 65536⟩]⟩, -- SYS_ROM_VER (16 R592)
  ⟨0x40000020, [], false, [⟨0, 3, .ro, 0⟩, ⟨4, 3, .ro, 0⟩, ⟨8, 1, .ro, 0⟩, ⟨9, 1, .w1c, 0⟩, ⟨12, 2, .ro, 0⟩]⟩, -- SYS_LC (16 R592)
  ⟨0x40000024, [], false, [⟨0, 3, .wo, 0⟩]⟩, -- SYS_LC_CMD (16 R592)
  ⟨0x40000030, [], false, [⟨0, 1, .ro, 0⟩, ⟨2, 1, .ro, 0⟩, ⟨4, 3, .ro, 0⟩, ⟨8, 4, .ro, 0⟩, ⟨12, 4, .ro, 0⟩]⟩, -- SYS_BOOT (16 R592)
  ⟨0x40000034, [], false, [⟨0, 32, .ro, 0⟩]⟩, -- SYS_BOOT_VER (16 R592)
  ⟨0x40000038, [], true, [⟨0, 2, .ro, 0⟩, ⟨2, 1, .ro, 0⟩, ⟨4, 2, .ro, 0⟩, ⟨6, 1, .ro, 0⟩, ⟨8, 1, .wo, 0⟩, ⟨9, 1, .wo, 0⟩, ⟨10, 1, .wo, 0⟩]⟩, -- SYS_BOOT_TRY (16 R592)
  ⟨0x40000040, [], true, [⟨0, 8, .w1c, 1⟩]⟩, -- SYS_RST_CAUSE (16 R592)
  ⟨0x40000044, [], true, [⟨0, 16, .wo, 0⟩]⟩, -- SYS_AON_RST (16 R592)
  ⟨0x40000050, [], false, [⟨0, 1, .wo, 0⟩, ⟨1, 1, .wo, 0⟩]⟩, -- SYS_PCORE_RST (16 R592)
  ⟨0x40000054, [], false, [⟨1, 1, .rw, 0⟩]⟩, -- SYS_PCORE_CTL (16 R592)
  ⟨0x40000058, [(2, 0x8)], false, [⟨0, 32, .rw, 0x10000000⟩]⟩, -- SYS_PCORE_ENTRY_LO (16 R592)
  ⟨0x4000005C, [(2, 0x8)], false, [⟨0, 8, .rw, 0⟩]⟩, -- SYS_PCORE_ENTRY_HI (16 R592)
  ⟨0x40000070, [], false, [⟨0, 1, .rw, 0⟩, ⟨16, 16, .rw, 2000⟩]⟩, -- SYS_WDT_CTL (16 R592)
  ⟨0x40000074, [], false, [⟨0, 8, .wo, 0⟩]⟩, -- SYS_WDT_KICK (16 R592)
  ⟨0x40000080, [], false, [⟨0, 8, .rw, 0⟩]⟩, -- SYS_OTP_ADDR (16 R592)
  ⟨0x40000084, [], false, [⟨0, 32, .ro, 0⟩]⟩, -- SYS_OTP_DATA (16 R592)
  ⟨0x40000088, [], false, [⟨0, 2, .wo, 0⟩, ⟨8, 2, .wo, 0⟩]⟩, -- SYS_OTP_OP (16 R592)
  ⟨0x4000008C, [], false, [⟨0, 1, .ro, 0⟩, ⟨1, 1, .w1c, 0⟩, ⟨2, 2, .ro, 0⟩]⟩, -- SYS_OTP_STAT (16 R592)
  ⟨0x40000090, [], false, [⟨0, 2, .ro, 0⟩, ⟨2, 1, .ro, 0⟩]⟩] -- SYS_DBG_STAT (16 R592)

/-- Registers of the PWR block, part 1. -/
def pwrRows1 : List RegRow := [
  ⟨0x40010000, [], false, [⟨0, 1, .rw, 0⟩]⟩, -- PWR_LOOP_CTL (15 R556)
  ⟨0x40010004, [], false, [⟨0, 10, .rw, 800⟩]⟩, -- PWR_FIXED (15 R556)
  ⟨0x40010008, [], false, [⟨0, 10, .rw, 600⟩]⟩, -- PWR_ENV_MIN (15 R556)
  ⟨0x4001000C, [], false, [⟨0, 10, .rw, 900⟩]⟩, -- PWR_ENV_MAX (15 R556)
  ⟨0x40010010, [], false, [⟨0, 10, .ro, 800⟩]⟩, -- PWR_VCORE (15 R556)
  ⟨0x40010014, [], false, [⟨0, 10, .ro, 0⟩]⟩, -- PWR_VSAFE (15 R556)
  ⟨0x40010018, [], false, [⟨0, 1, .w1c, 0⟩, ⟨1, 1, .w1c, 0⟩, ⟨2, 1, .w1c, 0⟩, ⟨8, 1, .ro, 0⟩, ⟨9, 1, .ro, 0⟩, ⟨10, 1, .ro, 0⟩]⟩, -- PWR_LOOP_STAT (15 R556)
  ⟨0x40010020, [], false, [⟨0, 17, .rw, 256⟩]⟩, -- PWR_UP_BACKLOG (15 R556)
  ⟨0x40010024, [], false, [⟨0, 17, .rw, 32⟩]⟩, -- PWR_DOWN_BACKLOG (15 R556)
  ⟨0x40010028, [], false, [⟨0, 16, .rw, 64⟩]⟩, -- PWR_UP_FE (15 R556)
  ⟨0x4001002C, [], false, [⟨0, 16, .rw, 8⟩]⟩, -- PWR_DOWN_FE (15 R556)
  ⟨0x40010030, [], false, [⟨0, 17, .ro, 0⟩]⟩, -- PWR_BACKLOG (15 R556)
  ⟨0x40010034, [], false, [⟨0, 17, .ro, 0⟩]⟩, -- PWR_FE (15 R556)
  ⟨0x40010040, [], false, [⟨0, 16, .ro, 0⟩]⟩, -- PWR_TJ_MAX (15 R556)
  ⟨0x40010044, [], false, [⟨0, 16, .rw, 950⟩]⟩, -- PWR_THERM_SOFT (15 R556)
  ⟨0x40010048, [], false, [⟨0, 16, .ro, 1100⟩]⟩, -- PWR_THERM_EMERG (15 R556)
  ⟨0x4001004C, [], false, [⟨0, 16, .ro, 1250⟩]⟩, -- PWR_THERM_TRIP (15 R556)
  ⟨0x40010050, [], false, [⟨0, 2, .ro, 0⟩, ⟨2, 2, .ro, 0⟩, ⟨4, 2, .ro, 0⟩, ⟨6, 2, .ro, 0⟩, ⟨8, 2, .ro, 0⟩, ⟨10, 2, .ro, 0⟩]⟩, -- PWR_TILE_THERM (15 R556)
  ⟨0x40010054, [], false, [⟨0, 1, .ro, 0⟩, ⟨1, 2, .ro, 0⟩]⟩, -- PWR_THERM_STAT (15 R556)
  ⟨0x40010080, [(14, 0x4)], false, [⟨0, 16, .ro, 0⟩]⟩, -- PWR_TEMP (15 R556)
  ⟨0x40010100, [], true, [⟨0, 16, .rw, 10⟩]⟩, -- PWR_SBY_CTL (15 R556)
  ⟨0x40010104, [], true, [⟨0, 1, .rw, 1⟩, ⟨1, 1, .rw, 0⟩, ⟨2, 1, .rw, 0⟩]⟩, -- PWR_WAKE_EN (15 R556)
  ⟨0x40010108, [], true, [⟨0, 32, .rw, 0⟩]⟩, -- PWR_WAKE_TMR (15 R556)
  ⟨0x4001010C, [], true, [⟨0, 32, .rw, 0⟩]⟩] -- PWR_WAKE_CAP_LO (15 R556)

/-- Registers of the PWR block, part 2. -/
def pwrRows2 : List RegRow := [
  ⟨0x40010110, [], true, [⟨0, 32, .rw, 0⟩]⟩, -- PWR_WAKE_CAP_HI (15 R556)
  ⟨0x40010114, [], true, [⟨0, 2, .ro, 0⟩, ⟨8, 6, .ro, 0⟩]⟩] -- PWR_WAKE_CAUSE (15 R556)

/-- Registers of the PWR block. -/
def pwrRows : List RegRow := pwrRows1 ++ pwrRows2

/-- Registers of the REC block. -/
def recRows : List RegRow := [
  ⟨0x40020000, [], true, [⟨0, 8, .rw, 64⟩, ⟨8, 1, .rw, 1⟩, ⟨9, 1, .rw, 1⟩, ⟨10, 1, .rw, 1⟩, ⟨12, 4, .rw, 0⟩]⟩, -- REC_CTL (17 R627)
  ⟨0x40020004, [], true, [⟨0, 1, .wo, 0⟩, ⟨1, 1, .wo, 0⟩]⟩, -- REC_CMD (17 R627)
  ⟨0x40020008, [], true, [⟨0, 13, .ro, 0⟩, ⟨16, 1, .ro, 0⟩, ⟨17, 1, .ro, 0⟩, ⟨24, 8, .ro, 0⟩]⟩, -- REC_STATUS (17 R627)
  ⟨0x4002000C, [], true, [⟨0, 32, .ro, 0⟩]⟩, -- REC_LOST (17 R627)
  ⟨0x40020010, [(4, 0x4)], true, [⟨0, 8, .rw, 0⟩, ⟨8, 8, .rw, 0⟩, ⟨16, 8, .rw, 0⟩, ⟨24, 8, .rw, 0⟩]⟩, -- REC_TRIG (17 R627)
  ⟨0x40020020, [], true, [⟨0, 12, .rw, 0⟩]⟩, -- REC_RD_SEL (17 R627)
  ⟨0x40020024, [(4, 0x4)], true, [⟨0, 32, .ro, 0⟩]⟩, -- REC_DATA (17 R627)
  ⟨0x40020040, [], true, [⟨0, 1, .rwc, 0⟩]⟩, -- REC_FLUSH (17 R627)
  ⟨0x40020044, [], true, [⟨0, 32, .rwc, 0⟩]⟩, -- REC_FLUSH_ADDR (17 R627)
  ⟨0x40020048, [], true, [⟨0, 1, .w1c, 0⟩, ⟨1, 1, .w1c, 0⟩, ⟨2, 1, .w1c, 0⟩, ⟨16, 10, .ro, 0⟩]⟩] -- REC_FLUSH_STAT (17 R627)

/-- Registers of the TMR block, part 1. -/
def tmrRows1 : List RegRow := [
  ⟨0x40030000, [], true, [⟨0, 32, .ro, 0⟩]⟩, -- TMR_NOW_LO (14 R527)
  ⟨0x40030004, [], true, [⟨0, 32, .ro, 0⟩]⟩, -- TMR_NOW_HI (14 R527)
  ⟨0x40030008, [], true, [⟨0, 32, .ro, 0⟩]⟩, -- TMR_NOW_FRAC (14 R527)
  ⟨0x4003000C, [], true, [⟨0, 1, .ro, 0⟩, ⟨1, 1, .ro, 0⟩, ⟨2, 1, .ro, 1⟩, ⟨3, 1, .ro, 1⟩]⟩, -- TMR_REF (14 R527)
  ⟨0x40030010, [], true, [⟨0, 20, .rw, 0⟩, ⟨31, 1, .rw, 0⟩]⟩, -- TMR_TRIM (14 R527)
  ⟨0x40030018, [], true, [⟨0, 20, .ro, 0⟩, ⟨31, 1, .ro, 0⟩]⟩, -- TMR_XCAL (14 R527)
  ⟨0x4003001C, [], true, [⟨0, 8, .ro, 0⟩]⟩, -- TMR_EPOCH (14 R527)
  ⟨0x40030020, [], true, [⟨0, 32, .w1c, 0⟩]⟩, -- TMR_PEND_TMR (14 R527)
  ⟨0x40030024, [], true, [⟨0, 32, .w1c, 0⟩]⟩, -- TMR_PEND_CAP_LO (14 R527)
  ⟨0x40030028, [], true, [⟨0, 32, .w1c, 0⟩]⟩, -- TMR_PEND_CAP_HI (14 R527)
  ⟨0x40030100, [(32, 0x40)], true, [⟨0, 1, .rw, 0⟩, ⟨1, 1, .wo, 0⟩, ⟨2, 1, .rw, 0⟩, ⟨3, 1, .rw, 0⟩, ⟨4, 1, .ro, 0⟩, ⟨5, 1, .ro, 0⟩, ⟨8, 1, .w1c, 0⟩, ⟨9, 1, .w1c, 0⟩]⟩, -- TMR_CTL (14 R527)
  ⟨0x40030104, [(32, 0x40)], true, [⟨0, 25, .rw, 1⟩]⟩, -- TMR_DIV (14 R527)
  ⟨0x40030108, [(32, 0x40)], true, [⟨0, 32, .ro, 0⟩]⟩, -- TMR_COUNT_LO (14 R527)
  ⟨0x4003010C, [(32, 0x40)], true, [⟨0, 32, .ro, 0⟩]⟩, -- TMR_COUNT_HI (14 R527)
  ⟨0x40030110, [(32, 0x40)], true, [⟨0, 32, .rw, 0xFFFFFFFF⟩]⟩, -- TMR_CMP_A_LO (14 R527)
  ⟨0x40030114, [(32, 0x40)], true, [⟨0, 32, .rw, 0xFFFFFFFF⟩]⟩, -- TMR_CMP_A_HI (14 R527)
  ⟨0x40030118, [(32, 0x40)], true, [⟨0, 32, .rw, 0xFFFFFFFF⟩]⟩, -- TMR_CMP_B_LO (14 R527)
  ⟨0x4003011C, [(32, 0x40)], true, [⟨0, 32, .rw, 0xFFFFFFFF⟩]⟩, -- TMR_CMP_B_HI (14 R527)
  ⟨0x40030120, [(32, 0x40)], true, [⟨0, 32, .rw, 0⟩]⟩, -- TMR_STEP (14 R527)
  ⟨0x40030124, [(32, 0x40)], true, [⟨0, 2, .rw, 0⟩, ⟨2, 3, .rw, 0⟩, ⟨5, 4, .rw, 0⟩, ⟨9, 6, .rw, 0⟩, ⟨16, 12, .rw, 0⟩]⟩, -- TMR_ROUTE (14 R527)
  ⟨0x40031000, [(64, 0x40)], true, [⟨0, 1, .rw, 0⟩, ⟨1, 1, .rw, 0⟩, ⟨16, 16, .rw, 0⟩]⟩, -- CAP_CTL (14 R527)
  ⟨0x40031004, [(64, 0x40)], true, [⟨0, 1, .ro, 0⟩, ⟨1, 1, .w1c, 0⟩, ⟨2, 1, .ro, 0⟩, ⟨3, 1, .ro, 0⟩, ⟨4, 1, .ro, 0⟩, ⟨8, 8, .ro, 0⟩, ⟨16, 8, .ro, 0⟩]⟩, -- CAP_STAT (14 R527)
  ⟨0x40031008, [(64, 0x40)], true, [⟨0, 32, .ro, 0⟩]⟩, -- CAP_SEQ (14 R527)
  ⟨0x4003100C, [(64, 0x40)], true, [⟨0, 32, .ro, 0⟩]⟩] -- CAP_RISE_LO (14 R527)

/-- Registers of the TMR block, part 2. -/
def tmrRows2 : List RegRow := [
  ⟨0x40031010, [(64, 0x40)], true, [⟨0, 32, .ro, 0⟩]⟩, -- CAP_RISE_HI (14 R527)
  ⟨0x40031014, [(64, 0x40)], true, [⟨0, 32, .ro, 0⟩]⟩, -- CAP_FALL_LO (14 R527)
  ⟨0x40031018, [(64, 0x40)], true, [⟨0, 32, .ro, 0⟩]⟩, -- CAP_FALL_HI (14 R527)
  ⟨0x4003101C, [(64, 0x40)], true, [⟨0, 32, .ro, 0⟩]⟩, -- CAP_WIDTH (14 R527)
  ⟨0x40031020, [(64, 0x40)], true, [⟨0, 32, .ro, 0⟩]⟩, -- CAP_PERIOD (14 R527)
  ⟨0x40031024, [(64, 0x40)], true, [⟨0, 2, .rw, 0⟩, ⟨2, 3, .rw, 0⟩, ⟨5, 4, .rw, 0⟩, ⟨9, 6, .rw, 0⟩, ⟨16, 12, .rw, 0⟩]⟩] -- CAP_ROUTE (14 R527)

/-- Registers of the TMR block. -/
def tmrRows : List RegRow := tmrRows1 ++ tmrRows2

/-- Registers of the SIO block. -/
def sioRows : List RegRow := [
  ⟨0x40040000, [(64, 0x4)], true, [⟨0, 2, .rw, 0⟩, ⟨2, 1, .ro, 0⟩, ⟨3, 1, .rw, 0⟩, ⟨4, 5, .rw, 0⟩, ⟨10, 2, .rw, 0⟩, ⟨12, 2, .rw, 0⟩]⟩, -- SIO_CFG (14 R527)
  ⟨0x40040100, [(32, 0x4)], false, [⟨0, 1, .rw, 0⟩, ⟨1, 1, .ro, 0⟩, ⟨2, 1, .rw, 0⟩]⟩] -- GPIO_CFG (14 R527)

/-- Registers of the POOL block, part 1. -/
def poolRows1 : List RegRow := [
  ⟨0x40080000, [(16, 0x20)], false, [⟨0, 1, .rw, 0⟩, ⟨4, 4, .rwc, 3⟩, ⟨8, 2, .rwc, 3⟩, ⟨12, 1, .rwc, 0⟩, ⟨14, 2, .rwc, 1⟩]⟩, -- POOL_CFG (06 R245)
  ⟨0x40080004, [(16, 0x20)], false, [⟨0, 32, .rwc, 0⟩]⟩, -- POOL_BASE_LO (06 R245)
  ⟨0x40080008, [(16, 0x20)], false, [⟨0, 8, .rwc, 0⟩]⟩, -- POOL_BASE_HI (06 R245)
  ⟨0x4008000C, [(16, 0x20)], false, [⟨0, 21, .rwc, 0⟩]⟩, -- POOL_COUNT (06 R245)
  ⟨0x40080010, [(16, 0x20)], false, [⟨0, 32, .rwc, 0⟩]⟩, -- POOL_META_LO (06 R245)
  ⟨0x40080014, [(16, 0x20)], false, [⟨0, 8, .rwc, 0⟩]⟩, -- POOL_META_HI (06 R245)
  ⟨0x40080018, [(16, 0x20)], false, [⟨0, 1, .ro, 0⟩, ⟨1, 1, .ro, 0⟩, ⟨2, 1, .ro, 0⟩, ⟨4, 3, .ro, 0⟩]⟩, -- POOL_STATUS (06 R245)
  ⟨0x4008001C, [(16, 0x20)], false, [⟨0, 21, .ro, 0⟩]⟩, -- POOL_FREE (06 R245)
  ⟨0x40080200, [(16, 0x20)], false, [⟨0, 21, .ro, 0⟩]⟩, -- POOL_INUSE (06 R245)
  ⟨0x40080204, [(16, 0x20)], false, [⟨0, 21, .ro, 0⟩]⟩, -- POOL_LENT (06 R245)
  ⟨0x40080208, [(16, 0x20)], false, [⟨0, 21, .ro, 0⟩]⟩, -- POOL_RETIRED (06 R245)
  ⟨0x4008020C, [(16, 0x20)], false, [⟨0, 32, .ro, 0⟩]⟩, -- POOL_DROP_EMPTY (06 R245)
  ⟨0x40080210, [(16, 0x20)], false, [⟨0, 32, .ro, 0⟩]⟩, -- POOL_DROP_LIMIT (06 R245)
  ⟨0x40080214, [(16, 0x20)], false, [⟨0, 32, .ro, 0⟩]⟩, -- POOL_DROP_DISABLED (06 R245)
  ⟨0x40080218, [(16, 0x20)], false, [⟨0, 32, .ro, 0⟩]⟩, -- POOL_TOO_LONG (06 R245)
  ⟨0x4008021C, [(16, 0x20)], false, [⟨0, 32, .ro, 0⟩]⟩, -- POOL_ALLOC_FAIL (06 R245)
  ⟨0x40081000, [(16, 0x400), (64, 0x10)], false, [⟨0, 21, .rwc, 0⟩, ⟨31, 1, .ro, 0⟩]⟩, -- ACCT_RES (06 R245)
  ⟨0x40081004, [(16, 0x400), (64, 0x10)], false, [⟨0, 21, .rw, 0x100000⟩]⟩, -- ACCT_LIMIT (06 R245)
  ⟨0x40081008, [(16, 0x400), (64, 0x10)], false, [⟨0, 21, .ro, 0⟩]⟩, -- ACCT_INUSE (06 R245)
  ⟨0x40085000, [], false, [⟨0, 1, .wo, 0⟩, ⟨8, 1, .ro, 0⟩, ⟨16, 1, .w1c, 0⟩, ⟨24, 8, .rw, 0⟩]⟩, -- AUDIT_CTL (06 R245)
  ⟨0x40085004, [], false, [⟨0, 16, .rw, 65535⟩]⟩, -- AUDIT_POOLS (06 R245)
  ⟨0x40085008, [], false, [⟨0, 32, .rw, 0⟩]⟩, -- AUDIT_DST (06 R245)
  ⟨0x4008500C, [], false, [⟨0, 16, .rw, 0⟩]⟩, -- AUDIT_MAX (06 R245)
  ⟨0x40085010, [], false, [⟨0, 16, .ro, 0⟩, ⟨31, 1, .ro, 0⟩]⟩] -- AUDIT_WRITTEN (06 R245)

/-- Registers of the POOL block, part 2. -/
def poolRows2 : List RegRow := [
  ⟨0x40085100, [(16, 0x8)], false, [⟨0, 21, .rw, 64⟩]⟩, -- LEND_MAX (06 R245)
  ⟨0x40085104, [(16, 0x8)], false, [⟨0, 21, .rw, 256⟩]⟩, -- LEND_FLOOR (06 R245)
  ⟨0x40086000, [(64, 0x10)], false, [⟨0, 16, .rw, 10000⟩]⟩, -- AUD_THR (06 R245)
  ⟨0x40086004, [(64, 0x10)], false, [⟨0, 21, .ro, 0⟩]⟩, -- AUD_OLD (06 R245)
  ⟨0x40086008, [(64, 0x10)], false, [⟨0, 16, .ro, 0⟩]⟩, -- AUD_MAXAGE (06 R245)
  ⟨0x4008600C, [(64, 0x10)], false, [⟨0, 32, .ro, 0⟩]⟩] -- AUD_OLDEST (06 R245)

/-- Registers of the POOL block. -/
def poolRows : List RegRow := poolRows1 ++ poolRows2

/-- Registers of the PRS block. -/
def prsRows : List RegRow := [
  ⟨0x40090000, [], false, [⟨0, 1, .rw, 0⟩, ⟨8, 1, .ro, 1⟩]⟩, -- PRS_BANK (07 R270)
  ⟨0x40090004, [], false, [⟨0, 8, .wo, 0⟩, ⟨8, 1, .wo, 0⟩, ⟨9, 1, .wo, 0⟩]⟩, -- PRS_CMD (07 R270)
  ⟨0x40090008, [], false, [⟨0, 1, .w1c, 0⟩]⟩, -- PRS_CMD_STATUS (07 R270)
  ⟨0x40090100, [], false, [⟨0, 8, .rw, 0⟩, ⟨8, 1, .rw, 0⟩, ⟨9, 1, .rw, 0⟩, ⟨16, 16, .rw, 0⟩]⟩, -- PRS_N_SEL (07 R270)
  ⟨0x40090104, [], false, [⟨0, 8, .rw, 0⟩, ⟨8, 1, .rw, 0⟩, ⟨9, 1, .rw, 0⟩, ⟨10, 4, .rw, 0⟩, ⟨14, 2, .rw, 0⟩, ⟨16, 16, .rw, 0⟩]⟩, -- PRS_N_LEN (07 R270)
  ⟨0x40090108, [], false, [⟨0, 16, .rw, 0⟩, ⟨16, 16, .rw, 0⟩]⟩, -- PRS_N_ADD (07 R270)
  ⟨0x4009010C, [], false, [⟨0, 3, .rw, 0⟩, ⟨3, 1, .rw, 0⟩, ⟨16, 16, .rw, 0⟩]⟩, -- PRS_N_MISC (07 R270)
  ⟨0x40090110, [], false, [⟨0, 10, .rw, 0⟩]⟩, -- PRS_N_DEF (07 R270)
  ⟨0x40090120, [(8, 0x4)], false, [⟨0, 16, .rw, 0⟩, ⟨16, 10, .rw, 0⟩, ⟨31, 1, .rw, 0⟩]⟩, -- PRS_N_BR (07 R270)
  ⟨0x40090140, [(4, 0x4)], false, [⟨0, 8, .rw, 0⟩, ⟨8, 1, .rw, 0⟩, ⟨9, 1, .rw, 0⟩, ⟨12, 4, .rw, 0⟩, ⟨16, 16, .rw, 0⟩]⟩, -- PRS_N_EXT (07 R270)
  ⟨0x40090400, [(81, 0x4)], false, [⟨0, 8, .rw, 0⟩, ⟨8, 8, .rw, 0⟩, ⟨16, 1, .rw, 0⟩]⟩, -- PRS_ROOT (07 R270)
  ⟨0x40090600, [(8, 0x4)], false, [⟨0, 32, .ro, 0⟩]⟩, -- PRS_CNT (07 R270)
  ⟨0x40090620, [], false, [⟨0, 32, .ro, 0⟩]⟩] -- PRS_EXT_CUT_CNT (07 R270)

/-- Registers of the CLS block, part 1. -/
def clsRows1 : List RegRow := [
  ⟨0x400A0000, [], false, [⟨0, 8, .ro, 0⟩, ⟨8, 8, .ro, 0⟩, ⟨16, 7, .ro, 1⟩]⟩, -- CLS_VER (08 R304)
  ⟨0x400A0004, [], false, [⟨0, 1, .wo, 0⟩]⟩, -- CLS_COMMIT (08 R304)
  ⟨0x400A0008, [], false, [⟨0, 1, .w1c, 0⟩, ⟨1, 1, .ro, 0⟩]⟩, -- CLS_COMMIT_STATUS (08 R304)
  ⟨0x400A000C, [], false, [⟨0, 1, .w1c, 0⟩, ⟨1, 3, .ro, 0⟩, ⟨16, 12, .ro, 0⟩]⟩, -- CLS_ERR (08 R304)
  ⟨0x400A0010, [], false, [⟨0, 12, .rw, 0⟩]⟩, -- CLS_RULE_SEL (08 R304)
  ⟨0x400A0014, [], false, [⟨0, 32, .ro, 0⟩]⟩, -- CLS_RETIRED (08 R304)
  ⟨0x400A0018, [], false, [⟨0, 32, .rw, 0⟩]⟩, -- CLS_MISS_ACTION_LO (08 R304)
  ⟨0x400A001C, [], false, [⟨0, 32, .rw, 0x80000000⟩]⟩, -- CLS_MISS_ACTION_HI (08 R304)
  ⟨0x400A0020, [], false, [⟨0, 4, .rw, 14⟩, ⟨4, 3, .rw, 0⟩, ⟨16, 12, .rw, 4095⟩]⟩, -- CLS_SLOW (08 R304)
  ⟨0x400A0024, [], false, [⟨0, 32, .rw, 0⟩]⟩, -- CLS_FRAG_MODE_0 (08 R304)
  ⟨0x400A0028, [], false, [⟨0, 16, .rw, 0⟩, ⟨16, 1, .rw, 0⟩, ⟨17, 1, .rw, 0⟩, ⟨18, 1, .rw, 0⟩]⟩, -- CLS_FRAG_MODE_1 (08 R304)
  ⟨0x400A0030, [], false, [⟨0, 4, .rw, 0⟩, ⟨8, 1, .wo, 0⟩, ⟨16, 1, .ro, 0⟩]⟩, -- CLS_FRAG_CTL (08 R304)
  ⟨0x400A0034, [], false, [⟨0, 16, .rw, 500⟩]⟩, -- CLS_FRAG_TMO (08 R304)
  ⟨0x400A0038, [], false, [⟨0, 11, .ro, 0⟩]⟩, -- CLS_FRAG_USED (08 R304)
  ⟨0x400A0040, [], false, [⟨0, 32, .ro, 0⟩]⟩, -- CLS_MATCH_CNT (08 R304)
  ⟨0x400A0044, [], false, [⟨0, 32, .ro, 0⟩]⟩, -- CLS_MISS_CNT (08 R304)
  ⟨0x400A0048, [], false, [⟨0, 32, .ro, 0⟩]⟩, -- CLS_DROP_CNT (08 R304)
  ⟨0x400A004C, [], false, [⟨0, 32, .ro, 0⟩]⟩, -- CLS_SLOW_CNT (08 R304)
  ⟨0x400A0050, [], false, [⟨0, 32, .ro, 0⟩]⟩, -- CLS_FRAG_HIT_CNT (08 R304)
  ⟨0x400A0054, [], false, [⟨0, 32, .ro, 0⟩]⟩, -- CLS_FRAG_MISS_CNT (08 R304)
  ⟨0x400A0058, [], false, [⟨0, 32, .ro, 0⟩]⟩, -- CLS_FRAG_FULL_CNT (08 R304)
  ⟨0x400A005C, [], false, [⟨0, 32, .ro, 0⟩]⟩, -- CLS_FRAG_EXPIRED_CNT (08 R304)
  ⟨0x400A0104, [(63, 0x4)], false, [⟨0, 32, .ro, 0⟩]⟩, -- CLS_HIT (08 R304)
  ⟨0x400A0200, [(16, 0x10)], false, [⟨0, 6, .rw, 33⟩, ⟨8, 6, .rw, 33⟩, ⟨16, 6, .rw, 33⟩, ⟨24, 6, .rw, 33⟩]⟩] -- CLS_PROF_K03 (08 R304)

/-- Registers of the CLS block, part 2. -/
def clsRows2 : List RegRow := [
  ⟨0x400A0204, [(16, 0x10)], false, [⟨0, 6, .rw, 33⟩, ⟨8, 6, .rw, 33⟩, ⟨16, 6, .rw, 33⟩, ⟨24, 6, .rw, 33⟩]⟩, -- CLS_PROF_K47 (08 R304)
  ⟨0x400A0208, [(16, 0x10)], false, [⟨0, 6, .rw, 33⟩, ⟨8, 6, .rw, 33⟩]⟩, -- CLS_PROF_RNG (08 R304)
  ⟨0x400A0400, [(16, 0x4)], false, [⟨0, 32, .rw, 0⟩]⟩] -- RULE_W (08 R304)

/-- Registers of the CLS block. -/
def clsRows : List RegRow := clsRows1 ++ clsRows2

/-- Registers of the SCH block. -/
def schRows : List RegRow := [
  ⟨0x400C1000, [(16, 0x10)], false, [⟨0, 17, .rwc, 4096⟩, ⟨24, 1, .rwc, 0⟩, ⟨31, 1, .ro, 0⟩]⟩, -- GRP_MIN (03 R120)
  ⟨0x400C1004, [(16, 0x10)], false, [⟨0, 17, .rwc, 4096⟩]⟩, -- GRP_MAX (03 R120)
  ⟨0x400C1008, [(16, 0x10)], false, [⟨0, 20, .rw, 1000⟩]⟩, -- GRP_BUDGET (03 R120)
  ⟨0x400C100C, [(16, 0x10)], false, [⟨0, 3, .rw, 0⟩, ⟨8, 1, .rw, 0⟩]⟩, -- GRP_PLACE (09 R337)
  ⟨0x400C1400, [(16, 0x4)], false, [⟨0, 17, .ro, 0⟩]⟩, -- GRP_INUSE (09 R337)
  ⟨0x400C0000, [], false, [⟨0, 17, .ro, 0⟩]⟩, -- SCH_STATUS (09 R337)
  ⟨0x400C0010, [], false, [⟨0, 32, .rw, 0⟩]⟩, -- SCH_CPL_BASE (09 R337)
  ⟨0x400C0014, [], false, [⟨0, 16, .rw, 0⟩]⟩, -- SCH_CPL_SIZE (09 R337)
  ⟨0x400C0018, [], false, [⟨0, 16, .ro, 0⟩]⟩, -- SCH_CPL_WR (09 R337)
  ⟨0x400C001C, [], false, [⟨0, 16, .rw, 0⟩]⟩, -- SCH_CPL_RD (09 R337)
  ⟨0x400C0020, [], false, [⟨1, 1, .rw, 0⟩, ⟨2, 1, .rw, 1⟩, ⟨3, 1, .rw, 1⟩]⟩, -- SCH_CPL_FILTER (09 R337)
  ⟨0x400C0040, [], false, [⟨0, 32, .ro, 0⟩]⟩, -- SCH_REFUSE_PORT_CNT (09 R337)
  ⟨0x400C0044, [], false, [⟨0, 32, .ro, 0⟩]⟩, -- SCH_REFUSE_SEND_CNT (09 R337)
  ⟨0x400C0048, [], false, [⟨0, 32, .ro, 0⟩]⟩, -- SCH_EVENT_LOST_CNT (09 R337)
  ⟨0x400C004C, [], false, [⟨0, 32, .ro, 0⟩]⟩, -- SCH_REDIRECT_LOST_CNT (09 R337)
  ⟨0x400C0050, [], false, [⟨0, 32, .ro, 0⟩]⟩, -- SCH_VOID_CNT (09 R337)
  ⟨0x400C0054, [], false, [⟨0, 32, .ro, 0⟩]⟩, -- SCH_FLAG_CNT (09 R337)
  ⟨0x400C0058, [], false, [⟨0, 32, .ro, 0⟩]⟩, -- SCH_CPL_LOST_CNT (09 R337)
  ⟨0x400C005C, [], false, [⟨0, 32, .ro, 0⟩]⟩, -- SCH_HOT_DISPATCH_CNT (09 R337)
  ⟨0x400C0060, [], false, [⟨0, 32, .ro, 0⟩]⟩, -- SCH_PIN_LIFT_CNT (09 R337)
  ⟨0x400C2000, [(256, 0x4)], false, [⟨0, 32, .rwc, 0⟩]⟩] -- SCH_DOM_TYPE (09 R337)

/-- Registers of the TILE block. -/
def tileRows : List RegRow := [
  ⟨0x40100000, [(6, 0x10000)], false, [⟨0, 3, .ro, 0⟩]⟩, -- TILE_ID (03 R120)
  ⟨0x40100004, [(6, 0x10000)], false, [⟨0, 5, .rwc, 3⟩, ⟨8, 5, .rwc, 19⟩, ⟨16, 1, .ro, 0⟩]⟩, -- TILE_SUPV (03 R120)
  ⟨0x40100008, [(6, 0x10000)], false, [⟨0, 32, .rw, 0⟩]⟩, -- TILE_ENTRY_LO (03 R120)
  ⟨0x4010000C, [(6, 0x10000)], false, [⟨0, 8, .rw, 0⟩]⟩, -- TILE_ENTRY_HI (03 R120)
  ⟨0x40100010, [(6, 0x10000), (8, 0x4)], false, [⟨0, 1, .rw, 0⟩]⟩, -- CORE_MODE (03 R120)
  ⟨0x40100040, [(6, 0x10000)], false, [⟨0, 5, .ro, 0⟩, ⟨8, 5, .ro, 0⟩, ⟨16, 5, .ro, 0⟩]⟩, -- HELPER_STATUS (03 R120)
  ⟨0x40100044, [(6, 0x10000)], false, [⟨0, 16, .rw, 64⟩]⟩, -- TILE_POSTED_TMO (05 R202)
  ⟨0x40100048, [(6, 0x10000)], false, [⟨0, 16, .ro, 0⟩, ⟨16, 1, .w1c, 0⟩]⟩, -- TILE_FAULT_STAT (05 R202)
  ⟨0x4010004C, [(6, 0x10000)], false, [⟨0, 1, .ro, 0⟩]⟩, -- SUPV_ESC_STAT (05 R202)
  ⟨0x40100060, [(6, 0x10000), (8, 0x4)], false, [⟨0, 32, .ro, 0⟩]⟩, -- SUPV_ESC_REC (05 R202)
  ⟨0x40100100, [(6, 0x10000), (32, 0x20)], false, [⟨0, 1, .wo, 0⟩]⟩, -- THREAD_CTL (03 R120)
  ⟨0x40100104, [(6, 0x10000), (32, 0x20)], false, [⟨0, 4, .rw, 0⟩, ⟨8, 1, .rwc, 0⟩]⟩, -- THREAD_CFG (03 R120)
  ⟨0x40100108, [(6, 0x10000), (32, 0x20)], false, [⟨0, 3, .ro, 0⟩, ⟨8, 5, .ro, 0⟩, ⟨16, 3, .ro, 0⟩, ⟨20, 1, .ro, 0⟩, ⟨24, 6, .ro, 0⟩]⟩, -- THREAD_STATE (03 R120)
  ⟨0x4010010C, [(6, 0x10000), (32, 0x20)], false, [⟨0, 32, .ro, 0⟩]⟩, -- THREAD_PC_LO (03 R120)
  ⟨0x40100110, [(6, 0x10000), (32, 0x20)], false, [⟨0, 8, .ro, 0⟩]⟩, -- THREAD_PC_HI (03 R120)
  ⟨0x40100114, [(6, 0x10000), (32, 0x20)], false, [⟨0, 20, .ro, 0⟩]⟩, -- THREAD_BUDGET (03 R120)
  ⟨0x40100118, [(6, 0x10000), (32, 0x20)], false, [⟨0, 32, .ro, 0⟩]⟩, -- THREAD_PERR_LO (05 R202)
  ⟨0x4010011C, [(6, 0x10000), (32, 0x20)], false, [⟨0, 8, .ro, 0⟩, ⟨8, 4, .ro, 0⟩, ⟨12, 2, .ro, 0⟩, ⟨14, 1, .ro, 0⟩, ⟨16, 16, .ro, 0⟩]⟩, -- THREAD_PERR_HI (05 R202)
  ⟨0x40104000, [(6, 0x10000), (64, 0x100), (16, 0x10)], false, [⟨0, 1, .rw, 0⟩, ⟨6, 26, .rw, 0⟩]⟩, -- PR_BASE_LO (05 R203)
  ⟨0x40104004, [(6, 0x10000), (64, 0x100), (16, 0x10)], false, [⟨0, 8, .rw, 0⟩]⟩, -- PR_BASE_HI (05 R203)
  ⟨0x40104008, [(6, 0x10000), (64, 0x100), (16, 0x10)], false, [⟨6, 26, .rw, 0⟩]⟩, -- PR_LIMIT_LO (05 R203)
  ⟨0x4010400C, [(6, 0x10000), (64, 0x100), (16, 0x10)], false, [⟨0, 8, .rw, 0⟩, ⟨8, 1, .rw, 0⟩, ⟨9, 1, .rw, 0⟩, ⟨10, 1, .rw, 0⟩, ⟨11, 2, .rw, 0⟩, ⟨13, 2, .rw, 0⟩, ⟨15, 1, .rw, 0⟩]⟩, -- PR_LIMIT_HI (05 R203)
  ⟨0x40108000, [(6, 0x10000), (64, 0x4)], false, [⟨0, 8, .ro, 0⟩]⟩] -- ACCT_GEN (05 R203)

/-- Registers of the RING block, part 1. -/
def ringRows1 : List RegRow := [
  ⟨0x40200000, [], false, [⟨0, 1, .rwc, 0⟩, ⟨1, 1, .wo, 0⟩, ⟨2, 1, .wo, 0⟩, ⟨3, 1, .rwc, 0⟩, ⟨8, 8, .rwc, 0⟩]⟩, -- RING_CTL (10 R398)
  ⟨0x40200004, [], false, [⟨0, 8, .rwc, 0⟩, ⟨8, 8, .rwc, 0⟩]⟩, -- RING_ADDR (10 R398)
  ⟨0x40200008, [], false, [⟨0, 8, .rwc, 254⟩]⟩, -- RING_SIZE (10 R398)
  ⟨0x4020000C, [], false, [⟨0, 3, .ro, 0⟩, ⟨3, 2, .ro, 0⟩, ⟨5, 1, .ro, 0⟩, ⟨6, 1, .ro, 0⟩, ⟨7, 1, .ro, 0⟩, ⟨8, 8, .ro, 0⟩, ⟨16, 1, .w1c, 0⟩]⟩, -- RING_STATUS (10 R398)
  ⟨0x40200010, [], false, [⟨0, 14, .rwc, 1000⟩]⟩, -- RING_CYCLE_CFG (10 R398)
  ⟨0x40200014, [], false, [⟨0, 8, .rw, 40⟩, ⟨8, 8, .rw, 12⟩, ⟨16, 4, .rw, 4⟩]⟩, -- RING_GAP (10 R398)
  ⟨0x40200018, [], false, [⟨0, 11, .rwc, 0⟩]⟩, -- RING_SWEEP (10 R398)
  ⟨0x4020001C, [], false, [⟨0, 32, .ro, 0⟩]⟩, -- RING_CYCLE_NUM (10 R398)
  ⟨0x40200020, [], false, [⟨0, 32, .ro, 0⟩]⟩, -- RING_OFS_LO (10 R398)
  ⟨0x40200024, [], false, [⟨0, 32, .ro, 0⟩]⟩, -- RING_OFS_HI (10 R398)
  ⟨0x40200028, [], false, [⟨0, 4, .rwc, 0⟩, ⟨8, 6, .rwc, 0⟩, ⟨16, 1, .rw, 0⟩]⟩, -- RING_ETH_RX (10 R398)
  ⟨0x40200040, [(2, 0x20)], false, [⟨0, 2, .ro, 0⟩, ⟨2, 1, .ro, 0⟩, ⟨4, 10, .ro, 0⟩, ⟨16, 8, .ro, 0⟩, ⟨24, 8, .ro, 0⟩]⟩, -- PORT_STATUS (10 R398)
  ⟨0x40200044, [(2, 0x20)], false, [⟨0, 16, .ro, 0⟩]⟩, -- PORT_DELAY (10 R398)
  ⟨0x40200048, [(2, 0x20)], false, [⟨0, 32, .ro, 0⟩]⟩, -- PORT_CRC_ERR_CNT (10 R398)
  ⟨0x4020004C, [(2, 0x20)], false, [⟨0, 32, .ro, 0⟩]⟩, -- PORT_CUT_CNT (10 R398)
  ⟨0x40200050, [(2, 0x20)], false, [⟨0, 32, .ro, 0⟩]⟩, -- PORT_DOWN_CNT (10 R398)
  ⟨0x40200054, [(2, 0x20)], false, [⟨0, 32, .ro, 0⟩]⟩, -- PORT_LEN_ERR_CNT (10 R398)
  ⟨0x40200058, [(2, 0x20)], false, [⟨0, 32, .ro, 0⟩]⟩, -- PORT_HOPS_DROP_CNT (10 R398)
  ⟨0x40200080, [], false, [⟨0, 32, .ro, 0⟩]⟩, -- SPLICE_OK_CNT (10 R398)
  ⟨0x40200084, [], false, [⟨0, 32, .ro, 0⟩]⟩, -- SPLICE_FAIL_CNT (10 R398)
  ⟨0x40200088, [], false, [⟨0, 32, .ro, 0⟩]⟩, -- SPLICE_DEFER_CNT (10 R398)
  ⟨0x4020008C, [], false, [⟨0, 32, .ro, 0⟩]⟩, -- SWEEP_LOST_CNT (10 R398)
  ⟨0x40200090, [], false, [⟨0, 32, .ro, 0⟩]⟩, -- SWEEP_BAD_CNT (10 R398)
  ⟨0x40200094, [], false, [⟨0, 32, .ro, 0⟩]⟩] -- ELECTION_CNT (10 R398)

/-- Registers of the RING block, part 2. -/
def ringRows2 : List RegRow := [
  ⟨0x40200098, [], false, [⟨0, 32, .ro, 0⟩]⟩, -- WRAP_CNT (10 R398)
  ⟨0x4020009C, [], false, [⟨0, 32, .ro, 0⟩]⟩, -- RING_ETH_TX_ERR_CNT (10 R398)
  ⟨0x402000C0, [(8, 0x4)], false, [⟨0, 32, .ro, 0⟩]⟩, -- SWEEP_ATTEND (10 R398)
  ⟨0x402000E0, [], false, [⟨0, 1, .ro, 0⟩]⟩, -- SWEEP_ATTEND_STAT (10 R398)
  ⟨0x40200400, [(64, 0x10)], false, [⟨0, 11, .rwc, 0⟩, ⟨12, 11, .rwc, 0⟩, ⟨31, 1, .rwc, 0⟩]⟩, -- PDM_RX (10 R398)
  ⟨0x40200404, [(64, 0x10)], false, [⟨0, 32, .rwc, 0⟩]⟩, -- PDM_RX_IMG (10 R398)
  ⟨0x40200408, [(64, 0x10)], false, [⟨0, 1, .ro, 0⟩, ⟨1, 1, .ro, 0⟩]⟩, -- PDM_RX_BANK (10 R398)
  ⟨0x40200800, [(64, 0x10)], false, [⟨0, 11, .rwc, 0⟩, ⟨12, 11, .rwc, 0⟩, ⟨31, 1, .rwc, 0⟩]⟩, -- PDM_TX (10 R398)
  ⟨0x40200804, [(64, 0x10)], false, [⟨0, 32, .rwc, 0⟩]⟩, -- PDM_TX_IMG (10 R398)
  ⟨0x40200808, [(64, 0x10)], false, [⟨0, 1, .ro, 0⟩, ⟨1, 1, .ro, 0⟩, ⟨8, 1, .wo, 0⟩]⟩] -- PDM_TX_BANK (10 R398)

/-- Registers of the RING block. -/
def ringRows : List RegRow := ringRows1 ++ ringRows2

/-- Registers of the UPL block, part 1. -/
def uplRows1 : List RegRow := [
  ⟨0x40210000, [(2, 0x1000)], false, [⟨0, 1, .rw, 0⟩, ⟨1, 1, .rw, 0⟩, ⟨2, 1, .rw, 1⟩, ⟨3, 1, .rw, 0⟩, ⟨4, 1, .rw, 1⟩]⟩, -- UPL_CTL (11 R426)
  ⟨0x40210004, [(2, 0x1000)], false, [⟨0, 32, .rw, 0⟩]⟩, -- UPL_MAC_LO (11 R426)
  ⟨0x40210008, [(2, 0x1000)], false, [⟨0, 16, .rw, 0⟩]⟩, -- UPL_MAC_HI (11 R426)
  ⟨0x4021000C, [(2, 0x1000)], false, [⟨0, 4, .rwc, 0⟩, ⟨8, 6, .rwc, 0⟩]⟩, -- UPL_ING (11 R426)
  ⟨0x40210010, [(2, 0x1000)], false, [⟨0, 1, .ro, 0⟩, ⟨1, 1, .ro, 0⟩, ⟨2, 1, .ro, 0⟩, ⟨3, 1, .ro, 0⟩, ⟨4, 1, .ro, 0⟩, ⟨5, 1, .ro, 0⟩, ⟨6, 1, .ro, 0⟩, ⟨16, 1, .w1c, 0⟩]⟩, -- UPL_STATUS (11 R426)
  ⟨0x40210014, [(2, 0x1000)], false, [⟨0, 16, .rw, 65535⟩]⟩, -- UPL_PAUSE (11 R426)
  ⟨0x40210018, [(2, 0x1000)], false, [⟨0, 21, .rw, 256⟩]⟩, -- UPL_XOFF_THR (11 R426)
  ⟨0x4021001C, [(2, 0x1000)], false, [⟨0, 21, .rw, 512⟩]⟩, -- UPL_XON_THR (11 R426)
  ⟨0x40210020, [(2, 0x1000)], false, [⟨0, 16, .rw, 0⟩, ⟨16, 16, .rw, 0⟩]⟩, -- UPL_TS_ADJ (11 R426)
  ⟨0x40210024, [(2, 0x1000)], false, [⟨0, 1, .rw, 0⟩, ⟨1, 1, .rw, 0⟩, ⟨2, 1, .rw, 0⟩, ⟨3, 1, .rw, 1⟩]⟩, -- UPL_PTP_CTL (11 R426)
  ⟨0x40210100, [(2, 0x1000), (2, 0x40)], false, [⟨0, 32, .ro, 0⟩]⟩, -- TS_KEY (11 R426)
  ⟨0x40210104, [(2, 0x1000), (2, 0x40)], false, [⟨0, 16, .ro, 0⟩, ⟨16, 4, .ro, 0⟩, ⟨24, 8, .ro, 0⟩]⟩, -- TS_ID (11 R426)
  ⟨0x40210108, [(2, 0x1000), (2, 0x40)], false, [⟨0, 32, .ro, 0⟩]⟩, -- TS_NS_LO (11 R426)
  ⟨0x4021010C, [(2, 0x1000), (2, 0x40)], false, [⟨0, 32, .ro, 0⟩]⟩, -- TS_NS_HI (11 R426)
  ⟨0x40210110, [(2, 0x1000), (2, 0x40)], false, [⟨0, 32, .ro, 0⟩]⟩, -- TS_FRAC (11 R426)
  ⟨0x40210114, [(2, 0x1000), (2, 0x40)], false, [⟨0, 7, .ro, 0⟩, ⟨8, 1, .ro, 0⟩, ⟨16, 1, .wo, 0⟩]⟩, -- TS_STAT (11 R426)
  ⟨0x40210200, [(2, 0x1000)], false, [⟨0, 32, .ro, 0⟩]⟩, -- UPL_RX_OK_CNT (11 R426)
  ⟨0x40210204, [(2, 0x1000)], false, [⟨0, 32, .ro, 0⟩]⟩, -- UPL_RX_DROP_CNT (11 R426)
  ⟨0x40210208, [(2, 0x1000)], false, [⟨0, 32, .ro, 0⟩]⟩, -- UPL_RX_POOL_DROP_CNT (11 R426)
  ⟨0x4021020C, [(2, 0x1000)], false, [⟨0, 32, .ro, 0⟩]⟩, -- UPL_RX_TOO_LONG_CNT (11 R426)
  ⟨0x40210210, [(2, 0x1000)], false, [⟨0, 32, .ro, 0⟩]⟩, -- UPL_RX_FCS_ERR_CNT (11 R426)
  ⟨0x40210214, [(2, 0x1000)], false, [⟨0, 32, .ro, 0⟩]⟩, -- UPL_RX_SIZE_ERR_CNT (11 R426)
  ⟨0x40210218, [(2, 0x1000)], false, [⟨0, 32, .ro, 0⟩]⟩, -- UPL_RX_CODE_ERR_CNT (11 R426)
  ⟨0x4021021C, [(2, 0x1000)], false, [⟨0, 32, .ro, 0⟩]⟩] -- UPL_RX_FILTERED_CNT (11 R426)

/-- Registers of the UPL block, part 2. -/
def uplRows2 : List RegRow := [
  ⟨0x40210220, [(2, 0x1000)], false, [⟨0, 32, .ro, 0⟩]⟩, -- UPL_RX_MACCTL_CNT (11 R426)
  ⟨0x40210224, [(2, 0x1000)], false, [⟨0, 32, .ro, 0⟩]⟩, -- UPL_RX_SCH_DROP_CNT (11 R426)
  ⟨0x40210228, [(2, 0x1000)], false, [⟨0, 32, .ro, 0⟩]⟩, -- UPL_RX_PAUSE_CNT (11 R426)
  ⟨0x4021022C, [(2, 0x1000)], false, [⟨0, 32, .ro, 0⟩]⟩, -- UPL_TX_OK_CNT (11 R426)
  ⟨0x40210230, [(2, 0x1000)], false, [⟨0, 32, .ro, 0⟩]⟩, -- UPL_TX_PAUSE_CNT (11 R426)
  ⟨0x40210234, [(2, 0x1000)], false, [⟨0, 32, .ro, 0⟩]⟩, -- UPL_TX_DOWN_DROP_CNT (11 R426)
  ⟨0x40210238, [(2, 0x1000)], false, [⟨0, 32, .ro, 0⟩]⟩, -- UPL_TX_LEN_ERR_CNT (11 R426)
  ⟨0x4021023C, [(2, 0x1000)], false, [⟨0, 32, .ro, 0⟩]⟩, -- UPL_TX_ABORT_CNT (11 R426)
  ⟨0x40210240, [(2, 0x1000)], false, [⟨0, 32, .ro, 0⟩]⟩, -- RXTS_OVF_CNT (11 R426)
  ⟨0x40210244, [(2, 0x1000)], false, [⟨0, 32, .ro, 0⟩]⟩] -- TXTS_OVF_CNT (11 R426)

/-- Registers of the UPL block. -/
def uplRows : List RegRow := uplRows1 ++ uplRows2

/-- Registers of the CELL block. -/
def cellRows : List RegRow := [
  ⟨0x40220100, [(48, 0x40)], false, [⟨0, 1, .rw, 0⟩, ⟨1, 1, .rwc, 0⟩, ⟨2, 1, .rwc, 0⟩]⟩, -- CL_CTL (11 R426)
  ⟨0x40220104, [(48, 0x40)], false, [⟨0, 4, .rwc, 0⟩, ⟨8, 6, .rwc, 0⟩]⟩, -- CL_ING (11 R426)
  ⟨0x40220108, [(48, 0x40)], false, [⟨0, 2, .ro, 0⟩, ⟨16, 1, .w1c, 0⟩]⟩, -- CL_STATUS (11 R426)
  ⟨0x4022010C, [(48, 0x40)], false, [⟨0, 32, .ro, 0⟩]⟩, -- CL_RX_OK_CNT (11 R426)
  ⟨0x40220110, [(48, 0x40)], false, [⟨0, 32, .ro, 0⟩]⟩, -- CL_RX_DROP_CNT (11 R426)
  ⟨0x40220114, [(48, 0x40)], false, [⟨0, 32, .ro, 0⟩]⟩, -- CL_RX_POOL_DROP_CNT (11 R426)
  ⟨0x40220118, [(48, 0x40)], false, [⟨0, 32, .ro, 0⟩]⟩, -- CL_RX_TOO_LONG_CNT (11 R426)
  ⟨0x4022011C, [(48, 0x40)], false, [⟨0, 32, .ro, 0⟩]⟩, -- CL_RX_CRC_ERR_CNT (11 R426)
  ⟨0x40220120, [(48, 0x40)], false, [⟨0, 32, .ro, 0⟩]⟩, -- CL_RX_LEN_ERR_CNT (11 R426)
  ⟨0x40220124, [(48, 0x40)], false, [⟨0, 32, .ro, 0⟩]⟩, -- CL_RX_ABORT_CNT (11 R426)
  ⟨0x40220128, [(48, 0x40)], false, [⟨0, 32, .ro, 0⟩]⟩, -- CL_RX_SCH_DROP_CNT (11 R426)
  ⟨0x4022012C, [(48, 0x40)], false, [⟨0, 32, .ro, 0⟩]⟩, -- CL_TX_OK_CNT (11 R426)
  ⟨0x40220130, [(48, 0x40)], false, [⟨0, 32, .ro, 0⟩]⟩, -- CL_TX_DOWN_DROP_CNT (11 R426)
  ⟨0x40220134, [(48, 0x40)], false, [⟨0, 32, .ro, 0⟩]⟩, -- CL_TX_LEN_ERR_CNT (11 R426)
  ⟨0x40220138, [(48, 0x40)], false, [⟨0, 32, .ro, 0⟩]⟩, -- CL_DOWN_CNT (11 R426)
  ⟨0x4022013C, [(48, 0x40)], false, [⟨0, 32, .ro, 0⟩]⟩] -- CL_TX_ABORT_CNT (11 R426)

/-- Registers of the SDC block. -/
def sdcRows : List RegRow := [
  ⟨0x40300000, [(2, 0x1000)], false, [⟨0, 1, .wo, 0⟩, ⟨1, 1, .wo, 0⟩, ⟨2, 1, .wo, 0⟩, ⟨4, 1, .rwc, 0⟩, ⟨5, 1, .rwc, 0⟩, ⟨8, 2, .rwc, 1⟩, ⟨12, 3, .rwc, 0⟩]⟩, -- SDC_CTRL (02 R75)
  ⟨0x40300004, [(2, 0x1000)], false, [⟨0, 1, .ro, 0⟩, ⟨1, 1, .ro, 0⟩, ⟨2, 1, .ro, 0⟩, ⟨4, 3, .ro, 0⟩, ⟨8, 1, .ro, 0⟩]⟩, -- SDC_STATUS (02 R75)
  ⟨0x40300010, [(2, 0x1000)], false, [⟨0, 6, .rwc, 11⟩, ⟨8, 6, .rwc, 9⟩, ⟨16, 6, .rwc, 11⟩, ⟨24, 6, .rwc, 11⟩]⟩, -- SDC_TIMING_0 (02 R75)
  ⟨0x40300014, [(2, 0x1000)], false, [⟨0, 7, .rwc, 28⟩, ⟨8, 7, .rwc, 39⟩, ⟨16, 7, .rwc, 20⟩, ⟨24, 4, .rwc, 4⟩]⟩, -- SDC_TIMING_1 (02 R75)
  ⟨0x40300018, [(2, 0x1000)], false, [⟨0, 10, .rwc, 280⟩, ⟨16, 6, .rwc, 12⟩, ⟨24, 4, .rwc, 6⟩]⟩, -- SDC_TIMING_2 (02 R75)
  ⟨0x4030001C, [(2, 0x1000)], false, [⟨0, 16, .rwc, 6240⟩, ⟨16, 4, .rwc, 5⟩, ⟨20, 4, .rwc, 5⟩, ⟨24, 4, .rwc, 2⟩]⟩, -- SDC_TIMING_3 (02 R75)
  ⟨0x40300020, [(2, 0x1000)], false, [⟨0, 8, .rw, 24⟩, ⟨8, 1, .rw, 1⟩]⟩, -- SDC_SCRUB (02 R75)
  ⟨0x40300030, [(2, 0x1000)], false, [⟨0, 32, .ro, 0⟩]⟩, -- SDC_CE_COUNT (02 R73)
  ⟨0x40300034, [(2, 0x1000)], false, [⟨0, 32, .ro, 0⟩]⟩, -- SDC_UE_COUNT (02 R73)
  ⟨0x40300038, [(2, 0x1000)], false, [⟨0, 32, .ro, 0⟩]⟩, -- SDC_UE_ADDR_LO (02 R73)
  ⟨0x4030003C, [(2, 0x1000)], false, [⟨0, 8, .ro, 0⟩]⟩, -- SDC_UE_ADDR_HI (02 R73)
  ⟨0x40302000, [], false, [⟨0, 1, .w1c, 0⟩, ⟨1, 1, .w1c, 0⟩, ⟨2, 1, .w1c, 0⟩, ⟨3, 1, .w1c, 0⟩, ⟨8, 1, .w1c, 0⟩, ⟨9, 1, .w1c, 0⟩, ⟨10, 1, .w1c, 0⟩, ⟨11, 1, .w1c, 0⟩]⟩, -- MEMECC_STATUS (02 R76)
  ⟨0x40302004, [], false, [⟨0, 32, .ro, 0⟩]⟩, -- MEMECC_CE_COUNT (02 R48)
  ⟨0x40302008, [], false, [⟨0, 32, .ro, 0⟩]⟩, -- MEMECC_UE_ADDR_LO (02 R49)
  ⟨0x4030200C, [], false, [⟨0, 8, .ro, 0⟩]⟩, -- MEMECC_UE_ADDR_HI (02 R49)
  ⟨0x40302010, [], false, [⟨0, 1, .wo, 0⟩, ⟨1, 1, .rw, 1⟩]⟩] -- MEMECC_CTRL (02 R51)

/-- Registers of the DICT block, part 1. -/
def dictRows1 : List RegRow := [
  ⟨0x40400000, [], false, [⟨0, 3, .ro, 0⟩, ⟨8, 1, .w1c, 0⟩]⟩, -- DICT_STATE (12 R477)
  ⟨0x40400004, [], false, [⟨0, 3, .wo, 0⟩, ⟨8, 8, .ro, 0⟩]⟩, -- DICT_STATE_CMD (12 R477)
  ⟨0x40400008, [], false, [⟨0, 1, .rw, 0⟩]⟩, -- DICT_FW_CTL (12 R477)
  ⟨0x4040000C, [], false, [⟨0, 16, .rw, 100⟩]⟩, -- DICT_FWD_TMO (12 R477)
  ⟨0x40400010, [], false, [⟨0, 32, .rw, 0x78000⟩]⟩, -- DICT_FWD_BASE (12 R477)
  ⟨0x40400014, [], false, [⟨0, 5, .ro, 0⟩, ⟨8, 1, .ro, 0⟩]⟩, -- DICT_FWD_STAT (12 R477)
  ⟨0x40400018, [], false, [⟨0, 1, .wo, 0⟩]⟩, -- DICT_FWD_POP (12 R477)
  ⟨0x40400020, [], false, [⟨24, 8, .ro, 0⟩, ⟨16, 8, .ro, 0⟩, ⟨8, 8, .ro, 0⟩, ⟨0, 8, .ro, 0⟩]⟩, -- DICT_FWD_ITEM_0 (12 R477)
  ⟨0x40400024, [], false, [⟨16, 16, .ro, 0⟩, ⟨8, 8, .ro, 0⟩, ⟨0, 8, .ro, 0⟩]⟩, -- DICT_FWD_ITEM_1 (12 R477)
  ⟨0x40400028, [], false, [⟨16, 16, .ro, 0⟩, ⟨0, 16, .ro, 0⟩]⟩, -- DICT_FWD_ITEM_2 (12 R477)
  ⟨0x4040002C, [], false, [⟨0, 32, .ro, 0⟩]⟩, -- DICT_FWD_ITEM_3 (12 R477)
  ⟨0x40400030, [], false, [⟨0, 8, .wo, 0⟩, ⟨8, 8, .wo, 0⟩, ⟨16, 16, .wo, 0⟩]⟩, -- DICT_FWD_RESP (12 R477)
  ⟨0x40400034, [], false, [⟨0, 32, .wo, 0⟩]⟩, -- DICT_FWD_TOTAL (12 R477)
  ⟨0x40400040, [], false, [⟨0, 16, .rw, 60⟩]⟩, -- DICT_SESS_CFG (12 R477)
  ⟨0x40400044, [], false, [⟨0, 5, .ro, 0⟩]⟩, -- DICT_SESS_COUNT (12 R477)
  ⟨0x40400050, [], false, [⟨0, 32, .rw, 0⟩]⟩, -- DICT_SUB_ADDR (12 R477)
  ⟨0x40400054, [], false, [⟨0, 1, .wo, 0⟩]⟩, -- DICT_SUB_GO (12 R477)
  ⟨0x40400058, [], false, [⟨0, 32, .rw, 0⟩]⟩, -- DICT_RPL_BASE (12 R477)
  ⟨0x4040005C, [], false, [⟨0, 8, .rw, 0⟩]⟩, -- DICT_RPL_SIZE (12 R477)
  ⟨0x40400060, [], false, [⟨0, 8, .ro, 0⟩]⟩, -- DICT_RPL_WR (12 R477)
  ⟨0x40400064, [], false, [⟨0, 8, .rw, 0⟩]⟩, -- DICT_RPL_RD (12 R477)
  ⟨0x40400070, [], false, [⟨0, 10, .rw, 20⟩]⟩, -- DICT_PD_LEAD (12 R477)
  ⟨0x40400080, [], false, [⟨0, 32, .ro, 0⟩]⟩, -- DICT_REQ_CNT (12 R477)
  ⟨0x40400084, [], false, [⟨0, 32, .ro, 0⟩]⟩] -- DICT_DROP_CNT (12 R477)

/-- Registers of the DICT block, part 2. -/
def dictRows2 : List RegRow := [
  ⟨0x40400088, [], false, [⟨0, 32, .ro, 0⟩]⟩, -- DICT_AUTH_CNT (12 R477)
  ⟨0x4040008C, [], false, [⟨0, 32, .ro, 0⟩]⟩, -- DICT_BUSY_CNT (12 R477)
  ⟨0x40400090, [], false, [⟨0, 32, .ro, 0⟩]⟩, -- DICT_FWD_LATE_CNT (12 R477)
  ⟨0x40400094, [], false, [⟨0, 32, .ro, 0⟩]⟩, -- DICT_PD_SKIP_CNT (12 R477)
  ⟨0x40400098, [], false, [⟨0, 32, .ro, 0⟩]⟩, -- DICT_RPL_LOST_CNT (12 R477)
  ⟨0x40410000, [(1024, 0x40)], false, [⟨16, 16, .rwc, 0⟩, ⟨8, 8, .rwc, 0⟩, ⟨0, 8, .rwc, 0⟩]⟩, -- DECL_0 (12 R477)
  ⟨0x40410004, [(1024, 0x40)], false, [⟨0, 8, .rwc, 0⟩, ⟨8, 8, .rwc, 0⟩, ⟨16, 6, .rwc, 0⟩, ⟨31, 1, .rwc, 0⟩]⟩, -- DECL_1 (12 R477)
  ⟨0x40410008, [(1024, 0x40)], false, [⟨0, 16, .rwc, 0⟩]⟩, -- DECL_MAXLEN (12 R477)
  ⟨0x40410010, [(1024, 0x40)], false, [⟨0, 32, .rwc, 0⟩]⟩, -- DECL_MIN_LO (12 R477)
  ⟨0x40410014, [(1024, 0x40)], false, [⟨0, 32, .rwc, 0⟩]⟩, -- DECL_MIN_HI (12 R477)
  ⟨0x40410018, [(1024, 0x40)], false, [⟨0, 32, .rwc, 0⟩]⟩, -- DECL_MAX_LO (12 R477)
  ⟨0x4041001C, [(1024, 0x40)], false, [⟨0, 32, .rwc, 0⟩]⟩, -- DECL_MAX_HI (12 R477)
  ⟨0x40410020, [(1024, 0x40)], false, [⟨0, 32, .rwc, 0⟩]⟩, -- DECL_DEF_LO (12 R477)
  ⟨0x40410024, [(1024, 0x40)], false, [⟨0, 32, .rwc, 0⟩]⟩] -- DECL_DEF_HI (12 R477)

/-- Registers of the DICT block. -/
def dictRows : List RegRow := dictRows1 ++ dictRows2

/-- Registers of the HOST block. -/
def hostRows : List RegRow := [
  ⟨0x40500000, [], false, [⟨0, 1, .rw, 1⟩, ⟨1, 2, .rw, 0⟩, ⟨3, 1, .rw, 0⟩]⟩, -- UART_CTL (18 R662)
  ⟨0x40500004, [], false, [⟨0, 16, .rw, 217⟩]⟩, -- UART_BAUD (18 R662)
  ⟨0x40500008, [], false, [⟨0, 8, .rw, 0⟩]⟩, -- UART_DATA (18 R662)
  ⟨0x4050000C, [], false, [⟨0, 7, .ro, 0⟩, ⟨8, 7, .ro, 0⟩, ⟨16, 1, .w1c, 0⟩, ⟨17, 1, .w1c, 0⟩]⟩, -- UART_STAT (18 R662)
  ⟨0x40500040, [], false, [⟨0, 1, .rw, 1⟩]⟩, -- I2C_CTL (18 R662)
  ⟨0x40500044, [], false, [⟨0, 7, .rw, 0⟩, ⟨8, 6, .rw, 0⟩, ⟨16, 6, .rw, 0⟩, ⟨31, 1, .wo, 0⟩]⟩, -- I2C_CMD (18 R662)
  ⟨0x40500048, [], false, [⟨0, 1, .ro, 0⟩, ⟨1, 1, .w1c, 0⟩, ⟨2, 1, .w1c, 0⟩]⟩, -- I2C_STAT (18 R662)
  ⟨0x40500080, [(8, 0x4)], false, [⟨0, 32, .rw, 0⟩]⟩] -- I2C_BUF (18 R662)

/-- Registers of the DBG block. -/
def dbgRows : List RegRow := [
  ⟨0x40600100, [], false, [⟨0, 6, .wo, 0⟩]⟩, -- ST_CTL (17 R627)
  ⟨0x40600104, [], false, [⟨0, 16, .rw, 0⟩, ⟨16, 16, .rw, 0⟩]⟩, -- ST_ADMIT (17 R627)
  ⟨0x40600108, [], false, [⟨0, 16, .rw, 100⟩]⟩, -- ST_DRAIN_TMO (17 R627)
  ⟨0x4060010C, [], false, [⟨0, 3, .ro, 0⟩, ⟨8, 6, .ro, 0⟩]⟩, -- ST_STATUS (17 R627)
  ⟨0x40600110, [], false, [⟨0, 8, .ro, 0⟩, ⟨8, 8, .ro, 0⟩, ⟨16, 16, .ro, 0⟩]⟩, -- ST_RESULT (17 R627)
  ⟨0x40600120, [], false, [⟨0, 16, .rw, 0⟩, ⟨16, 8, .rw, 16⟩, ⟨31, 1, .rw, 0⟩]⟩, -- ST_MEM_CTL (17 R627)
  ⟨0x40600124, [], false, [⟨0, 32, .ro, 0⟩]⟩, -- ST_MEM_TESTED (17 R627)
  ⟨0x40600128, [], false, [⟨0, 32, .ro, 0⟩]⟩, -- ST_MEM_FAILED (17 R627)
  ⟨0x4060012C, [], false, [⟨0, 32, .ro, 0⟩]⟩, -- ST_MEM_REFUSED (17 R627)
  ⟨0x40600140, [], false, [⟨0, 1, .wo, 0⟩, ⟨8, 1, .ro, 0⟩, ⟨9, 1, .w1c, 0⟩, ⟨10, 1, .w1c, 0⟩]⟩, -- ST_RING_CAL (17 R627)
  ⟨0x40600200, [], false, [⟨0, 1, .wo, 0⟩]⟩, -- EXCH_CTL (17 R627)
  ⟨0x40600204, [], false, [⟨0, 8, .ro, 0⟩, ⟨8, 8, .ro, 0⟩, ⟨16, 1, .ro, 0⟩, ⟨17, 1, .w1c, 0⟩]⟩, -- EXCH_STATUS (17 R627)
  ⟨0x40600280, [], false, [⟨0, 32, .rw, 0⟩]⟩, -- EXCH_PC_IMG_LO (17 R627)
  ⟨0x40600284, [], false, [⟨0, 8, .rw, 0⟩]⟩, -- EXCH_PC_IMG_HI (17 R627)
  ⟨0x40600288, [], false, [⟨0, 1, .wo, 0⟩, ⟨1, 1, .wo, 0⟩]⟩, -- EXCH_PC_CTL (17 R627)
  ⟨0x4060028C, [], false, [⟨0, 1, .ro, 0⟩, ⟨1, 1, .w1c, 0⟩, ⟨4, 3, .ro, 0⟩]⟩, -- EXCH_PC_STAT (17 R627)
  ⟨0x40600240, [(6, 0x10)], false, [⟨0, 32, .rw, 0⟩]⟩, -- EXCH_START_LO (17 R627)
  ⟨0x40600244, [(6, 0x10)], false, [⟨0, 8, .rw, 0⟩]⟩, -- EXCH_START_HI (17 R627)
  ⟨0x40600248, [(6, 0x10)], false, [⟨0, 32, .rw, 0⟩]⟩, -- EXCH_TASK_LO (17 R627)
  ⟨0x4060024C, [(6, 0x10)], false, [⟨0, 8, .rw, 0⟩]⟩] -- EXCH_TASK_HI (17 R627)

/-- The rows of the block that holds an M-bus address (Table 2.7). -/
def blockRows (a : Nat) : List RegRow :=
  let h := a / 0x10000
  if h = 0x4000 then sysRows
  else if h = 0x4001 then pwrRows
  else if h = 0x4002 then recRows
  else if h = 0x4003 then tmrRows
  else if h = 0x4004 then sioRows
  else if h = 0x4008 then poolRows
  else if h = 0x4009 then prsRows
  else if h = 0x400A then clsRows
  else if h = 0x400B then clsRows
  else if h = 0x400C then schRows
  else if 0x4010 ≤ h ∧ h < 0x4016 then tileRows
  else if h = 0x4020 then ringRows
  else if h = 0x4021 then uplRows
  else if h = 0x4022 then cellRows
  else if h = 0x4030 then sdcRows
  else if 0x4040 ≤ h ∧ h < 0x4050 then dictRows
  else if h = 0x4050 then hostRows
  else if h = 0x4060 then dbgRows
  else []

/-- The M-bus register blocks of Table 2.7 (management memory and the boot ROM apart). -/
def inRegBlock (a : Nat) : Bool :=
  let h := a / 0x10000
  (0x4000 ≤ h && h ≤ 0x4004) || (0x4008 ≤ h && h ≤ 0x400C) || (0x4010 ≤ h && h < 0x4016) ||
  (0x4020 ≤ h && h ≤ 0x4022) || h == 0x4030 || (0x4040 ≤ h && h < 0x4050) || h == 0x4050 || h == 0x4060

/-- The instance numbers of an offset within a row, one per dimension; none where the offset names no instance. -/
def rowIdx : List (Nat × Nat) → Nat → Option (List Nat)
  | [], off => if off = 0 then some [] else none
  | (c, st) :: r, off =>
    if off / st < c then (rowIdx r (off % st)).map (fun l => (off / st) :: l) else none

/-- Whether a row has an instance at an address, and which. -/
def rowAt (a : Nat) (r : RegRow) : Option (List Nat) :=
  if a < r.base then none else rowIdx r.dims (a - r.base)

/-- The row that occupies an address, with the instance numbers. -/
def findRow (a : Nat) : List RegRow → Option (RegRow × List Nat)
  | [] => none
  | r :: rs => match rowAt a r with
    | some l => some (r, l)
    | none => findRow a rs

/-- The ports 48 to 63 and 66 to 79, which have no PRS_ROOT register (07 R270). -/
def noRoot (a : Nat) : Bool := (0x400904C0 ≤ a && a < 0x40090500) || (0x40090508 ≤ a && a < 0x40090540)

/-- The register at an M-bus address; EXCH_PC_IMG to EXCH_PC_STAT at the addresses that they share with tile 4's entries. (log entry
240, DESIGN CHOICE). -/
def regRow (a : Nat) : Option (RegRow × List Nat) := if noRoot a then none else findRow a (blockRows a)

/-- The Reset column of a row as one word (R15). -/
def rowReset : List FieldRow → Nat
  | [] => 0
  | f :: r => f.reset * 2 ^ f.lo + rowReset r

/-- Reset values that the tables give per instance: Table 3.10, Table 5.1 (R175), Table 16.8. -/
def specialReset (base : Nat) (idx : List Nat) : Option Nat :=
  let i := idx.headD 0
  let j := (idx.drop 1).headD 0
  let r := (idx.drop 2).headD 0
  if base = 0x40100000 then some i
  else if base = 0x40100008 then some (0x10000000 + i * 0x100000)
  else if base = 0x40100104 then some (if j = 3 ∨ j = 19 then 0x10F else 0)
  else if base = 0x400C1008 then some (if i = 15 then 0 else 1000)
  else if base = 0x40104000 then
    some (match r with | 0 => 0x10000001 | 1 => 0x30000001 | 2 => 0x00000001 | _ => 0)
  else if base = 0x40104004 then some (if r = 2 then 0xF0 else 0)
  else if base = 0x40104008 then
    some (match r with | 0 => 0x105FFFC0 | 1 => 0x30007FC0 | 2 => 0xFFFFFFC0 | _ => 0)
  else if base = 0x4010400C then
    some (match r with | 0 => 0x700 | 1 => 0x2300 | 2 => 0x83F0 | _ => 0)
  else if base = 0x40000004 then some (0xB04872 + (if Config.gradeS then 0x1000000 else 0))
  else if base = 0x40000008 then some (Config.serial % 2 ^ 32)
  else if base = 0x4000000C then some (Config.serial / 2 ^ 32 % 2 ^ 32)
  else none

/-- What the register at an address holds after the reset of its block (R15, R16); zero where no register stands. -/
def regReset (a : Nat) : BitVec 32 :=
  match regRow a with
  | none => 0
  | some (r, idx) => BitVec.ofNat 32 ((specialReset r.base idx).getD (rowReset r.fields))

/-- Whether the register at an address lies in the always-on domain (R16). -/
def regAon (a : Nat) : Bool :=
  match regRow a with
  | none => false
  | some (r, _) => r.aon

/-- One field of a software write under its access code (R9 to R11, Table 0.2). `conf`: the device is in CONFIG. -/
def fieldWrite (conf : Bool) (old new : Nat) (f : FieldRow) : Nat :=
  let o := bits old f.lo f.width
  let n := bits new f.lo f.width
  match f.acc with
  | .ro => o
  | .rw => n
  | .w1c => if n = 0 then o else o - (Nat.land o n)
  | .wo => 0
  | .rwc => if conf then n else o

/-- A software write of a whole register under the access codes of its fields; reserved bits stay zero (R12). -/
def rowWrite (conf : Bool) (old new : Nat) : List FieldRow → Nat
  | [] => 0
  | f :: r => fieldWrite conf old new f * 2 ^ f.lo + rowWrite conf old new r

end Sys2Proof.Machine
end

