-- ==== Sys2Proof/Machine/Regs.lean ====
section
/-! DEFINITION. Names for the registers and fields that the meanings use: the address of an instance of a register, and a
field of it. -/

namespace Sys2Proof.Machine

/-- A field of an M-bus register: address, lowest bit, width. -/
structure Fld where
  addr : Nat
  lo : Nat
  width : Nat
  deriving DecidableEq, Repr

namespace A

/-- SDC_CTRL (spec/02 R75). -/
def SDC_CTRL (i : Nat) : Nat := 0x40300000 + i * 0x1000
/-- SDC_STATUS (spec/02 R75). -/
def SDC_STATUS (i : Nat) : Nat := 0x40300004 + i * 0x1000
/-- SDC_SCRUB (spec/02 R75). -/
def SDC_SCRUB (i : Nat) : Nat := 0x40300020 + i * 0x1000
/-- SDC_CE_COUNT (spec/02 R73). -/
def SDC_CE_COUNT (i : Nat) : Nat := 0x40300030 + i * 0x1000
/-- SDC_UE_COUNT (spec/02 R73). -/
def SDC_UE_COUNT (i : Nat) : Nat := 0x40300034 + i * 0x1000
/-- SDC_UE_ADDR_LO (spec/02 R73). -/
def SDC_UE_ADDR_LO (i : Nat) : Nat := 0x40300038 + i * 0x1000
/-- SDC_UE_ADDR_HI (spec/02 R73). -/
def SDC_UE_ADDR_HI (i : Nat) : Nat := 0x4030003C + i * 0x1000
/-- MEMECC_STATUS (spec/02 R76). -/
def MEMECC_STATUS : Nat := 0x40302000
/-- MEMECC_CE_COUNT (spec/02 R48). -/
def MEMECC_CE_COUNT : Nat := 0x40302004
/-- MEMECC_UE_ADDR_LO (spec/02 R49). -/
def MEMECC_UE_ADDR_LO : Nat := 0x40302008
/-- MEMECC_UE_ADDR_HI (spec/02 R49). -/
def MEMECC_UE_ADDR_HI : Nat := 0x4030200C
/-- MEMECC_CTRL (spec/02 R51). -/
def MEMECC_CTRL : Nat := 0x40302010
/-- TILE_SUPV (spec/03 R120). -/
def TILE_SUPV (i : Nat) : Nat := 0x40100004 + i * 0x10000
/-- TILE_ENTRY_LO (spec/03 R120). -/
def TILE_ENTRY_LO (i : Nat) : Nat := 0x40100008 + i * 0x10000
/-- TILE_ENTRY_HI (spec/03 R120). -/
def TILE_ENTRY_HI (i : Nat) : Nat := 0x4010000C + i * 0x10000
/-- CORE_MODE (spec/03 R120). -/
def CORE_MODE (i j : Nat) : Nat := 0x40100010 + i * 0x10000 + j * 0x4
/-- HELPER_STATUS (spec/03 R120). -/
def HELPER_STATUS (i : Nat) : Nat := 0x40100040 + i * 0x10000
/-- TILE_POSTED_TMO (spec/05 R202). -/
def TILE_POSTED_TMO (i : Nat) : Nat := 0x40100044 + i * 0x10000
/-- TILE_FAULT_STAT (spec/05 R202). -/
def TILE_FAULT_STAT (i : Nat) : Nat := 0x40100048 + i * 0x10000
/-- SUPV_ESC_STAT (spec/05 R202). -/
def SUPV_ESC_STAT (i : Nat) : Nat := 0x4010004C + i * 0x10000
/-- SUPV_ESC_REC (spec/05 R202). -/
def SUPV_ESC_REC (i j : Nat) : Nat := 0x40100060 + i * 0x10000 + j * 0x4
/-- THREAD_CTL (spec/03 R120). -/
def THREAD_CTL (i j : Nat) : Nat := 0x40100100 + i * 0x10000 + j * 0x20
/-- THREAD_CFG (spec/03 R120). -/
def THREAD_CFG (i j : Nat) : Nat := 0x40100104 + i * 0x10000 + j * 0x20
/-- THREAD_STATE (spec/03 R120). -/
def THREAD_STATE (i j : Nat) : Nat := 0x40100108 + i * 0x10000 + j * 0x20
/-- THREAD_PC_LO (spec/03 R120). -/
def THREAD_PC_LO (i j : Nat) : Nat := 0x4010010C + i * 0x10000 + j * 0x20
/-- THREAD_PC_HI (spec/03 R120). -/
def THREAD_PC_HI (i j : Nat) : Nat := 0x40100110 + i * 0x10000 + j * 0x20
/-- THREAD_BUDGET (spec/03 R120). -/
def THREAD_BUDGET (i j : Nat) : Nat := 0x40100114 + i * 0x10000 + j * 0x20
/-- THREAD_PERR_LO (spec/05 R202). -/
def THREAD_PERR_LO (i j : Nat) : Nat := 0x40100118 + i * 0x10000 + j * 0x20
/-- THREAD_PERR_HI (spec/05 R202). -/
def THREAD_PERR_HI (i j : Nat) : Nat := 0x4010011C + i * 0x10000 + j * 0x20
/-- PR_BASE_LO (spec/05 R203). -/
def PR_BASE_LO (i j k : Nat) : Nat := 0x40104000 + i * 0x10000 + j * 0x100 + k * 0x10
/-- PR_BASE_HI (spec/05 R203). -/
def PR_BASE_HI (i j k : Nat) : Nat := 0x40104004 + i * 0x10000 + j * 0x100 + k * 0x10
/-- PR_LIMIT_LO (spec/05 R203). -/
def PR_LIMIT_LO (i j k : Nat) : Nat := 0x40104008 + i * 0x10000 + j * 0x100 + k * 0x10
/-- PR_LIMIT_HI (spec/05 R203). -/
def PR_LIMIT_HI (i j k : Nat) : Nat := 0x4010400C + i * 0x10000 + j * 0x100 + k * 0x10
/-- ACCT_GEN (spec/05 R203). -/
def ACCT_GEN (i j : Nat) : Nat := 0x40108000 + i * 0x10000 + j * 0x4
/-- GRP_MIN (spec/03 R120). -/
def GRP_MIN (i : Nat) : Nat := 0x400C1000 + i * 0x10
/-- GRP_MAX (spec/03 R120). -/
def GRP_MAX (i : Nat) : Nat := 0x400C1004 + i * 0x10
/-- GRP_BUDGET (spec/03 R120). -/
def GRP_BUDGET (i : Nat) : Nat := 0x400C1008 + i * 0x10
/-- GRP_PLACE (spec/09 R337). -/
def GRP_PLACE (i : Nat) : Nat := 0x400C100C + i * 0x10
/-- GRP_INUSE (spec/09 R337). -/
def GRP_INUSE (i : Nat) : Nat := 0x400C1400 + i * 0x4
/-- SCH_STATUS (spec/09 R337). -/
def SCH_STATUS : Nat := 0x400C0000
/-- SCH_CPL_BASE (spec/09 R337). -/
def SCH_CPL_BASE : Nat := 0x400C0010
/-- SCH_CPL_SIZE (spec/09 R337). -/
def SCH_CPL_SIZE : Nat := 0x400C0014
/-- SCH_CPL_WR (spec/09 R337). -/
def SCH_CPL_WR : Nat := 0x400C0018
/-- SCH_CPL_RD (spec/09 R337). -/
def SCH_CPL_RD : Nat := 0x400C001C
/-- SCH_CPL_FILTER (spec/09 R337). -/
def SCH_CPL_FILTER : Nat := 0x400C0020
/-- SCH_REFUSE_PORT_CNT (spec/09 R337). -/
def SCH_REFUSE_PORT_CNT : Nat := 0x400C0040
/-- SCH_REFUSE_SEND_CNT (spec/09 R337). -/
def SCH_REFUSE_SEND_CNT : Nat := 0x400C0044
/-- SCH_EVENT_LOST_CNT (spec/09 R337). -/
def SCH_EVENT_LOST_CNT : Nat := 0x400C0048
/-- SCH_REDIRECT_LOST_CNT (spec/09 R337). -/
def SCH_REDIRECT_LOST_CNT : Nat := 0x400C004C
/-- SCH_VOID_CNT (spec/09 R337). -/
def SCH_VOID_CNT : Nat := 0x400C0050
/-- SCH_FLAG_CNT (spec/09 R337). -/
def SCH_FLAG_CNT : Nat := 0x400C0054
/-- SCH_CPL_LOST_CNT (spec/09 R337). -/
def SCH_CPL_LOST_CNT : Nat := 0x400C0058
/-- SCH_HOT_DISPATCH_CNT (spec/09 R337). -/
def SCH_HOT_DISPATCH_CNT : Nat := 0x400C005C
/-- SCH_PIN_LIFT_CNT (spec/09 R337). -/
def SCH_PIN_LIFT_CNT : Nat := 0x400C0060
/-- SCH_DOM_TYPE (spec/09 R337). -/
def SCH_DOM_TYPE (i : Nat) : Nat := 0x400C2000 + i * 0x4
/-- POOL_CFG (spec/06 R245). -/
def POOL_CFG (i : Nat) : Nat := 0x40080000 + i * 0x20
/-- POOL_BASE_LO (spec/06 R245). -/
def POOL_BASE_LO (i : Nat) : Nat := 0x40080004 + i * 0x20
/-- POOL_BASE_HI (spec/06 R245). -/
def POOL_BASE_HI (i : Nat) : Nat := 0x40080008 + i * 0x20
/-- POOL_COUNT (spec/06 R245). -/
def POOL_COUNT (i : Nat) : Nat := 0x4008000C + i * 0x20
/-- POOL_META_LO (spec/06 R245). -/
def POOL_META_LO (i : Nat) : Nat := 0x40080010 + i * 0x20
/-- POOL_META_HI (spec/06 R245). -/
def POOL_META_HI (i : Nat) : Nat := 0x40080014 + i * 0x20
/-- POOL_STATUS (spec/06 R245). -/
def POOL_STATUS (i : Nat) : Nat := 0x40080018 + i * 0x20
/-- POOL_FREE (spec/06 R245). -/
def POOL_FREE (i : Nat) : Nat := 0x4008001C + i * 0x20
/-- POOL_INUSE (spec/06 R245). -/
def POOL_INUSE (i : Nat) : Nat := 0x40080200 + i * 0x20
/-- POOL_LENT (spec/06 R245). -/
def POOL_LENT (i : Nat) : Nat := 0x40080204 + i * 0x20
/-- POOL_RETIRED (spec/06 R245). -/
def POOL_RETIRED (i : Nat) : Nat := 0x40080208 + i * 0x20
/-- POOL_DROP_EMPTY (spec/06 R245). -/
def POOL_DROP_EMPTY (i : Nat) : Nat := 0x4008020C + i * 0x20
/-- POOL_DROP_LIMIT (spec/06 R245). -/
def POOL_DROP_LIMIT (i : Nat) : Nat := 0x40080210 + i * 0x20
/-- POOL_DROP_DISABLED (spec/06 R245). -/
def POOL_DROP_DISABLED (i : Nat) : Nat := 0x40080214 + i * 0x20
/-- POOL_TOO_LONG (spec/06 R245). -/
def POOL_TOO_LONG (i : Nat) : Nat := 0x40080218 + i * 0x20
/-- POOL_ALLOC_FAIL (spec/06 R245). -/
def POOL_ALLOC_FAIL (i : Nat) : Nat := 0x4008021C + i * 0x20
/-- ACCT_RES (spec/06 R245). -/
def ACCT_RES (i j : Nat) : Nat := 0x40081000 + i * 0x400 + j * 0x10
/-- ACCT_LIMIT (spec/06 R245). -/
def ACCT_LIMIT (i j : Nat) : Nat := 0x40081004 + i * 0x400 + j * 0x10
/-- ACCT_INUSE (spec/06 R245). -/
def ACCT_INUSE (i j : Nat) : Nat := 0x40081008 + i * 0x400 + j * 0x10
/-- AUDIT_CTL (spec/06 R245). -/
def AUDIT_CTL : Nat := 0x40085000
/-- AUDIT_POOLS (spec/06 R245). -/
def AUDIT_POOLS : Nat := 0x40085004
/-- AUDIT_DST (spec/06 R245). -/
def AUDIT_DST : Nat := 0x40085008
/-- AUDIT_MAX (spec/06 R245). -/
def AUDIT_MAX : Nat := 0x4008500C
/-- AUDIT_WRITTEN (spec/06 R245). -/
def AUDIT_WRITTEN : Nat := 0x40085010
/-- LEND_MAX (spec/06 R245). -/
def LEND_MAX (i : Nat) : Nat := 0x40085100 + i * 0x8
/-- LEND_FLOOR (spec/06 R245). -/
def LEND_FLOOR (i : Nat) : Nat := 0x40085104 + i * 0x8
/-- AUD_THR (spec/06 R245). -/
def AUD_THR (i : Nat) : Nat := 0x40086000 + i * 0x10
/-- AUD_OLD (spec/06 R245). -/
def AUD_OLD (i : Nat) : Nat := 0x40086004 + i * 0x10
/-- AUD_MAXAGE (spec/06 R245). -/
def AUD_MAXAGE (i : Nat) : Nat := 0x40086008 + i * 0x10
/-- AUD_OLDEST (spec/06 R245). -/
def AUD_OLDEST (i : Nat) : Nat := 0x4008600C + i * 0x10
/-- PRS_BANK (spec/07 R270). -/
def PRS_BANK : Nat := 0x40090000
/-- PRS_CMD (spec/07 R270). -/
def PRS_CMD : Nat := 0x40090004
/-- PRS_CMD_STATUS (spec/07 R270). -/
def PRS_CMD_STATUS : Nat := 0x40090008
/-- PRS_N_SEL (spec/07 R270). -/
def PRS_N_SEL : Nat := 0x40090100
/-- PRS_ROOT (spec/07 R270). -/
def PRS_ROOT (i : Nat) : Nat := 0x40090400 + i * 0x4
/-- PRS_CNT (spec/07 R270). -/
def PRS_CNT (i : Nat) : Nat := 0x40090600 + i * 0x4
/-- PRS_EXT_CUT_CNT (spec/07 R270). -/
def PRS_EXT_CUT_CNT : Nat := 0x40090620
/-- CLS_VER (spec/08 R304). -/
def CLS_VER : Nat := 0x400A0000
/-- CLS_COMMIT (spec/08 R304). -/
def CLS_COMMIT : Nat := 0x400A0004
/-- CLS_COMMIT_STATUS (spec/08 R304). -/
def CLS_COMMIT_STATUS : Nat := 0x400A0008
/-- CLS_ERR (spec/08 R304). -/
def CLS_ERR : Nat := 0x400A000C
/-- CLS_RULE_SEL (spec/08 R304). -/
def CLS_RULE_SEL : Nat := 0x400A0010
/-- CLS_RETIRED (spec/08 R304). -/
def CLS_RETIRED : Nat := 0x400A0014
/-- CLS_MISS_ACTION_LO (spec/08 R304). -/
def CLS_MISS_ACTION_LO : Nat := 0x400A0018
/-- CLS_MISS_ACTION_HI (spec/08 R304). -/
def CLS_MISS_ACTION_HI : Nat := 0x400A001C
/-- CLS_SLOW (spec/08 R304). -/
def CLS_SLOW : Nat := 0x400A0020
/-- CLS_FRAG_MODE_0 (spec/08 R304). -/
def CLS_FRAG_MODE_0 : Nat := 0x400A0024
/-- CLS_FRAG_MODE_1 (spec/08 R304). -/
def CLS_FRAG_MODE_1 : Nat := 0x400A0028
/-- CLS_FRAG_CTL (spec/08 R304). -/
def CLS_FRAG_CTL : Nat := 0x400A0030
/-- CLS_FRAG_TMO (spec/08 R304). -/
def CLS_FRAG_TMO : Nat := 0x400A0034
/-- CLS_FRAG_USED (spec/08 R304). -/
def CLS_FRAG_USED : Nat := 0x400A0038
/-- CLS_MATCH_CNT (spec/08 R304). -/
def CLS_MATCH_CNT : Nat := 0x400A0040
/-- CLS_MISS_CNT (spec/08 R304). -/
def CLS_MISS_CNT : Nat := 0x400A0044
/-- CLS_DROP_CNT (spec/08 R304). -/
def CLS_DROP_CNT : Nat := 0x400A0048
/-- CLS_SLOW_CNT (spec/08 R304). -/
def CLS_SLOW_CNT : Nat := 0x400A004C
/-- CLS_FRAG_HIT_CNT (spec/08 R304). -/
def CLS_FRAG_HIT_CNT : Nat := 0x400A0050
/-- CLS_FRAG_MISS_CNT (spec/08 R304). -/
def CLS_FRAG_MISS_CNT : Nat := 0x400A0054
/-- CLS_FRAG_FULL_CNT (spec/08 R304). -/
def CLS_FRAG_FULL_CNT : Nat := 0x400A0058
/-- CLS_FRAG_EXPIRED_CNT (spec/08 R304). -/
def CLS_FRAG_EXPIRED_CNT : Nat := 0x400A005C
/-- CLS_HIT (spec/08 R304). -/
def CLS_HIT (i : Nat) : Nat := 0x400A0104 + i * 0x4
/-- CLS_PROF_K03 (spec/08 R304). -/
def CLS_PROF_K03 (i : Nat) : Nat := 0x400A0200 + i * 0x10
/-- CLS_PROF_K47 (spec/08 R304). -/
def CLS_PROF_K47 (i : Nat) : Nat := 0x400A0204 + i * 0x10
/-- CLS_PROF_RNG (spec/08 R304). -/
def CLS_PROF_RNG (i : Nat) : Nat := 0x400A0208 + i * 0x10
/-- RULE_W (spec/08 R304). -/
def RULE_W (i : Nat) : Nat := 0x400A0400 + i * 0x4
/-- RING_CTL (spec/10 R398). -/
def RING_CTL : Nat := 0x40200000
/-- RING_ADDR (spec/10 R398). -/
def RING_ADDR : Nat := 0x40200004
/-- RING_SIZE (spec/10 R398). -/
def RING_SIZE : Nat := 0x40200008
/-- RING_STATUS (spec/10 R398). -/
def RING_STATUS : Nat := 0x4020000C
/-- RING_CYCLE_CFG (spec/10 R398). -/
def RING_CYCLE_CFG : Nat := 0x40200010
/-- RING_GAP (spec/10 R398). -/
def RING_GAP : Nat := 0x40200014
/-- RING_SWEEP (spec/10 R398). -/
def RING_SWEEP : Nat := 0x40200018
/-- RING_CYCLE_NUM (spec/10 R398). -/
def RING_CYCLE_NUM : Nat := 0x4020001C
/-- RING_OFS_LO (spec/10 R398). -/
def RING_OFS_LO : Nat := 0x40200020
/-- RING_OFS_HI (spec/10 R398). -/
def RING_OFS_HI : Nat := 0x40200024
/-- RING_ETH_RX (spec/10 R398). -/
def RING_ETH_RX : Nat := 0x40200028
/-- PORT_STATUS (spec/10 R398). -/
def PORT_STATUS (i : Nat) : Nat := 0x40200040 + i * 0x20
/-- PORT_DELAY (spec/10 R398). -/
def PORT_DELAY (i : Nat) : Nat := 0x40200044 + i * 0x20
/-- PORT_CRC_ERR_CNT (spec/10 R398). -/
def PORT_CRC_ERR_CNT (i : Nat) : Nat := 0x40200048 + i * 0x20
/-- PORT_CUT_CNT (spec/10 R398). -/
def PORT_CUT_CNT (i : Nat) : Nat := 0x4020004C + i * 0x20
/-- PORT_DOWN_CNT (spec/10 R398). -/
def PORT_DOWN_CNT (i : Nat) : Nat := 0x40200050 + i * 0x20
/-- PORT_LEN_ERR_CNT (spec/10 R398). -/
def PORT_LEN_ERR_CNT (i : Nat) : Nat := 0x40200054 + i * 0x20
/-- PORT_HOPS_DROP_CNT (spec/10 R398). -/
def PORT_HOPS_DROP_CNT (i : Nat) : Nat := 0x40200058 + i * 0x20
/-- SPLICE_OK_CNT (spec/10 R398). -/
def SPLICE_OK_CNT : Nat := 0x40200080
/-- SPLICE_FAIL_CNT (spec/10 R398). -/
def SPLICE_FAIL_CNT : Nat := 0x40200084
/-- SPLICE_DEFER_CNT (spec/10 R398). -/
def SPLICE_DEFER_CNT : Nat := 0x40200088
/-- SWEEP_LOST_CNT (spec/10 R398). -/
def SWEEP_LOST_CNT : Nat := 0x4020008C
/-- SWEEP_BAD_CNT (spec/10 R398). -/
def SWEEP_BAD_CNT : Nat := 0x40200090
/-- ELECTION_CNT (spec/10 R398). -/
def ELECTION_CNT : Nat := 0x40200094
/-- WRAP_CNT (spec/10 R398). -/
def WRAP_CNT : Nat := 0x40200098
/-- RING_ETH_TX_ERR_CNT (spec/10 R398). -/
def RING_ETH_TX_ERR_CNT : Nat := 0x4020009C
/-- SWEEP_ATTEND (spec/10 R398). -/
def SWEEP_ATTEND (i : Nat) : Nat := 0x402000C0 + i * 0x4
/-- SWEEP_ATTEND_STAT (spec/10 R398). -/
def SWEEP_ATTEND_STAT : Nat := 0x402000E0
/-- PDM_RX (spec/10 R398). -/
def PDM_RX (i : Nat) : Nat := 0x40200400 + i * 0x10
/-- PDM_RX_IMG (spec/10 R398). -/
def PDM_RX_IMG (i : Nat) : Nat := 0x40200404 + i * 0x10
/-- PDM_RX_BANK (spec/10 R398). -/
def PDM_RX_BANK (i : Nat) : Nat := 0x40200408 + i * 0x10
/-- PDM_TX (spec/10 R398). -/
def PDM_TX (i : Nat) : Nat := 0x40200800 + i * 0x10
/-- PDM_TX_IMG (spec/10 R398). -/
def PDM_TX_IMG (i : Nat) : Nat := 0x40200804 + i * 0x10
/-- PDM_TX_BANK (spec/10 R398). -/
def PDM_TX_BANK (i : Nat) : Nat := 0x40200808 + i * 0x10
/-- UPL_CTL (spec/11 R426). -/
def UPL_CTL (i : Nat) : Nat := 0x40210000 + i * 0x1000
/-- UPL_MAC_LO (spec/11 R426). -/
def UPL_MAC_LO (i : Nat) : Nat := 0x40210004 + i * 0x1000
/-- UPL_MAC_HI (spec/11 R426). -/
def UPL_MAC_HI (i : Nat) : Nat := 0x40210008 + i * 0x1000
/-- UPL_ING (spec/11 R426). -/
def UPL_ING (i : Nat) : Nat := 0x4021000C + i * 0x1000
/-- UPL_STATUS (spec/11 R426). -/
def UPL_STATUS (i : Nat) : Nat := 0x40210010 + i * 0x1000
/-- UPL_PAUSE (spec/11 R426). -/
def UPL_PAUSE (i : Nat) : Nat := 0x40210014 + i * 0x1000
/-- UPL_XOFF_THR (spec/11 R426). -/
def UPL_XOFF_THR (i : Nat) : Nat := 0x40210018 + i * 0x1000
/-- UPL_XON_THR (spec/11 R426). -/
def UPL_XON_THR (i : Nat) : Nat := 0x4021001C + i * 0x1000
/-- UPL_TS_ADJ (spec/11 R426). -/
def UPL_TS_ADJ (i : Nat) : Nat := 0x40210020 + i * 0x1000
/-- UPL_PTP_CTL (spec/11 R426). -/
def UPL_PTP_CTL (i : Nat) : Nat := 0x40210024 + i * 0x1000
/-- TS_KEY (spec/11 R426). -/
def TS_KEY (i j : Nat) : Nat := 0x40210100 + i * 0x1000 + j * 0x40
/-- TS_ID (spec/11 R426). -/
def TS_ID (i j : Nat) : Nat := 0x40210104 + i * 0x1000 + j * 0x40
/-- TS_NS_LO (spec/11 R426). -/
def TS_NS_LO (i j : Nat) : Nat := 0x40210108 + i * 0x1000 + j * 0x40
/-- TS_NS_HI (spec/11 R426). -/
def TS_NS_HI (i j : Nat) : Nat := 0x4021010C + i * 0x1000 + j * 0x40
/-- TS_FRAC (spec/11 R426). -/
def TS_FRAC (i j : Nat) : Nat := 0x40210110 + i * 0x1000 + j * 0x40
/-- TS_STAT (spec/11 R426). -/
def TS_STAT (i j : Nat) : Nat := 0x40210114 + i * 0x1000 + j * 0x40
/-- UPL_RX_OK_CNT (spec/11 R426). -/
def UPL_RX_OK_CNT (i : Nat) : Nat := 0x40210200 + i * 0x1000
/-- UPL_RX_DROP_CNT (spec/11 R426). -/
def UPL_RX_DROP_CNT (i : Nat) : Nat := 0x40210204 + i * 0x1000
/-- UPL_RX_POOL_DROP_CNT (spec/11 R426). -/
def UPL_RX_POOL_DROP_CNT (i : Nat) : Nat := 0x40210208 + i * 0x1000
/-- UPL_RX_TOO_LONG_CNT (spec/11 R426). -/
def UPL_RX_TOO_LONG_CNT (i : Nat) : Nat := 0x4021020C + i * 0x1000
/-- UPL_RX_FCS_ERR_CNT (spec/11 R426). -/
def UPL_RX_FCS_ERR_CNT (i : Nat) : Nat := 0x40210210 + i * 0x1000
/-- UPL_RX_SIZE_ERR_CNT (spec/11 R426). -/
def UPL_RX_SIZE_ERR_CNT (i : Nat) : Nat := 0x40210214 + i * 0x1000
/-- UPL_RX_CODE_ERR_CNT (spec/11 R426). -/
def UPL_RX_CODE_ERR_CNT (i : Nat) : Nat := 0x40210218 + i * 0x1000
/-- UPL_RX_FILTERED_CNT (spec/11 R426). -/
def UPL_RX_FILTERED_CNT (i : Nat) : Nat := 0x4021021C + i * 0x1000
/-- UPL_RX_MACCTL_CNT (spec/11 R426). -/
def UPL_RX_MACCTL_CNT (i : Nat) : Nat := 0x40210220 + i * 0x1000
/-- UPL_RX_SCH_DROP_CNT (spec/11 R426). -/
def UPL_RX_SCH_DROP_CNT (i : Nat) : Nat := 0x40210224 + i * 0x1000
/-- UPL_RX_PAUSE_CNT (spec/11 R426). -/
def UPL_RX_PAUSE_CNT (i : Nat) : Nat := 0x40210228 + i * 0x1000
/-- UPL_TX_OK_CNT (spec/11 R426). -/
def UPL_TX_OK_CNT (i : Nat) : Nat := 0x4021022C + i * 0x1000
/-- UPL_TX_PAUSE_CNT (spec/11 R426). -/
def UPL_TX_PAUSE_CNT (i : Nat) : Nat := 0x40210230 + i * 0x1000
/-- UPL_TX_DOWN_DROP_CNT (spec/11 R426). -/
def UPL_TX_DOWN_DROP_CNT (i : Nat) : Nat := 0x40210234 + i * 0x1000
/-- UPL_TX_LEN_ERR_CNT (spec/11 R426). -/
def UPL_TX_LEN_ERR_CNT (i : Nat) : Nat := 0x40210238 + i * 0x1000
/-- UPL_TX_ABORT_CNT (spec/11 R426). -/
def UPL_TX_ABORT_CNT (i : Nat) : Nat := 0x4021023C + i * 0x1000
/-- RXTS_OVF_CNT (spec/11 R426). -/
def RXTS_OVF_CNT (i : Nat) : Nat := 0x40210240 + i * 0x1000
/-- TXTS_OVF_CNT (spec/11 R426). -/
def TXTS_OVF_CNT (i : Nat) : Nat := 0x40210244 + i * 0x1000
/-- CL_CTL (spec/11 R426). -/
def CL_CTL (i : Nat) : Nat := 0x40220100 + i * 0x40
/-- CL_ING (spec/11 R426). -/
def CL_ING (i : Nat) : Nat := 0x40220104 + i * 0x40
/-- CL_STATUS (spec/11 R426). -/
def CL_STATUS (i : Nat) : Nat := 0x40220108 + i * 0x40
/-- CL_RX_OK_CNT (spec/11 R426). -/
def CL_RX_OK_CNT (i : Nat) : Nat := 0x4022010C + i * 0x40
/-- CL_RX_DROP_CNT (spec/11 R426). -/
def CL_RX_DROP_CNT (i : Nat) : Nat := 0x40220110 + i * 0x40
/-- CL_RX_POOL_DROP_CNT (spec/11 R426). -/
def CL_RX_POOL_DROP_CNT (i : Nat) : Nat := 0x40220114 + i * 0x40
/-- CL_RX_TOO_LONG_CNT (spec/11 R426). -/
def CL_RX_TOO_LONG_CNT (i : Nat) : Nat := 0x40220118 + i * 0x40
/-- CL_RX_CRC_ERR_CNT (spec/11 R426). -/
def CL_RX_CRC_ERR_CNT (i : Nat) : Nat := 0x4022011C + i * 0x40
/-- CL_RX_LEN_ERR_CNT (spec/11 R426). -/
def CL_RX_LEN_ERR_CNT (i : Nat) : Nat := 0x40220120 + i * 0x40
/-- CL_RX_ABORT_CNT (spec/11 R426). -/
def CL_RX_ABORT_CNT (i : Nat) : Nat := 0x40220124 + i * 0x40
/-- CL_RX_SCH_DROP_CNT (spec/11 R426). -/
def CL_RX_SCH_DROP_CNT (i : Nat) : Nat := 0x40220128 + i * 0x40
/-- CL_TX_OK_CNT (spec/11 R426). -/
def CL_TX_OK_CNT (i : Nat) : Nat := 0x4022012C + i * 0x40
/-- CL_TX_DOWN_DROP_CNT (spec/11 R426). -/
def CL_TX_DOWN_DROP_CNT (i : Nat) : Nat := 0x40220130 + i * 0x40
/-- CL_TX_LEN_ERR_CNT (spec/11 R426). -/
def CL_TX_LEN_ERR_CNT (i : Nat) : Nat := 0x40220134 + i * 0x40
/-- CL_DOWN_CNT (spec/11 R426). -/
def CL_DOWN_CNT (i : Nat) : Nat := 0x40220138 + i * 0x40
/-- CL_TX_ABORT_CNT (spec/11 R426). -/
def CL_TX_ABORT_CNT (i : Nat) : Nat := 0x4022013C + i * 0x40
/-- DICT_STATE (spec/12 R477). -/
def DICT_STATE : Nat := 0x40400000
/-- DICT_STATE_CMD (spec/12 R477). -/
def DICT_STATE_CMD : Nat := 0x40400004
/-- DICT_FW_CTL (spec/12 R477). -/
def DICT_FW_CTL : Nat := 0x40400008
/-- DICT_FWD_TMO (spec/12 R477). -/
def DICT_FWD_TMO : Nat := 0x4040000C
/-- DICT_FWD_BASE (spec/12 R477). -/
def DICT_FWD_BASE : Nat := 0x40400010
/-- DICT_FWD_STAT (spec/12 R477). -/
def DICT_FWD_STAT : Nat := 0x40400014
/-- DICT_FWD_POP (spec/12 R477). -/
def DICT_FWD_POP : Nat := 0x40400018
/-- DICT_FWD_ITEM_0 (spec/12 R477). -/
def DICT_FWD_ITEM_0 : Nat := 0x40400020
/-- DICT_FWD_ITEM_1 (spec/12 R477). -/
def DICT_FWD_ITEM_1 : Nat := 0x40400024
/-- DICT_FWD_ITEM_2 (spec/12 R477). -/
def DICT_FWD_ITEM_2 : Nat := 0x40400028
/-- DICT_FWD_ITEM_3 (spec/12 R477). -/
def DICT_FWD_ITEM_3 : Nat := 0x4040002C
/-- DICT_FWD_RESP (spec/12 R477). -/
def DICT_FWD_RESP : Nat := 0x40400030
/-- DICT_FWD_TOTAL (spec/12 R477). -/
def DICT_FWD_TOTAL : Nat := 0x40400034
/-- DICT_SESS_CFG (spec/12 R477). -/
def DICT_SESS_CFG : Nat := 0x40400040
/-- DICT_SESS_COUNT (spec/12 R477). -/
def DICT_SESS_COUNT : Nat := 0x40400044
/-- DICT_SUB_ADDR (spec/12 R477). -/
def DICT_SUB_ADDR : Nat := 0x40400050
/-- DICT_SUB_GO (spec/12 R477). -/
def DICT_SUB_GO : Nat := 0x40400054
/-- DICT_RPL_BASE (spec/12 R477). -/
def DICT_RPL_BASE : Nat := 0x40400058
/-- DICT_RPL_SIZE (spec/12 R477). -/
def DICT_RPL_SIZE : Nat := 0x4040005C
/-- DICT_RPL_WR (spec/12 R477). -/
def DICT_RPL_WR : Nat := 0x40400060
/-- DICT_RPL_RD (spec/12 R477). -/
def DICT_RPL_RD : Nat := 0x40400064
/-- DICT_PD_LEAD (spec/12 R477). -/
def DICT_PD_LEAD : Nat := 0x40400070
/-- DICT_REQ_CNT (spec/12 R477). -/
def DICT_REQ_CNT : Nat := 0x40400080
/-- DICT_DROP_CNT (spec/12 R477). -/
def DICT_DROP_CNT : Nat := 0x40400084
/-- DICT_AUTH_CNT (spec/12 R477). -/
def DICT_AUTH_CNT : Nat := 0x40400088
/-- DICT_BUSY_CNT (spec/12 R477). -/
def DICT_BUSY_CNT : Nat := 0x4040008C
/-- DICT_FWD_LATE_CNT (spec/12 R477). -/
def DICT_FWD_LATE_CNT : Nat := 0x40400090
/-- DICT_PD_SKIP_CNT (spec/12 R477). -/
def DICT_PD_SKIP_CNT : Nat := 0x40400094
/-- DICT_RPL_LOST_CNT (spec/12 R477). -/
def DICT_RPL_LOST_CNT : Nat := 0x40400098
/-- DECL_0 (spec/12 R477). -/
def DECL_0 (i : Nat) : Nat := 0x40410000 + i * 0x40
/-- DECL_1 (spec/12 R477). -/
def DECL_1 (i : Nat) : Nat := 0x40410004 + i * 0x40
/-- DECL_MAXLEN (spec/12 R477). -/
def DECL_MAXLEN (i : Nat) : Nat := 0x40410008 + i * 0x40
/-- DECL_MIN_LO (spec/12 R477). -/
def DECL_MIN_LO (i : Nat) : Nat := 0x40410010 + i * 0x40
/-- DECL_MIN_HI (spec/12 R477). -/
def DECL_MIN_HI (i : Nat) : Nat := 0x40410014 + i * 0x40
/-- DECL_MAX_LO (spec/12 R477). -/
def DECL_MAX_LO (i : Nat) : Nat := 0x40410018 + i * 0x40
/-- DECL_MAX_HI (spec/12 R477). -/
def DECL_MAX_HI (i : Nat) : Nat := 0x4041001C + i * 0x40
/-- DECL_DEF_LO (spec/12 R477). -/
def DECL_DEF_LO (i : Nat) : Nat := 0x40410020 + i * 0x40
/-- DECL_DEF_HI (spec/12 R477). -/
def DECL_DEF_HI (i : Nat) : Nat := 0x40410024 + i * 0x40
/-- TMR_NOW_LO (spec/14 R527). -/
def TMR_NOW_LO : Nat := 0x40030000
/-- TMR_NOW_HI (spec/14 R527). -/
def TMR_NOW_HI : Nat := 0x40030004
/-- TMR_NOW_FRAC (spec/14 R527). -/
def TMR_NOW_FRAC : Nat := 0x40030008
/-- TMR_REF (spec/14 R527). -/
def TMR_REF : Nat := 0x4003000C
/-- TMR_TRIM (spec/14 R527). -/
def TMR_TRIM : Nat := 0x40030010
/-- TMR_XCAL (spec/14 R527). -/
def TMR_XCAL : Nat := 0x40030018
/-- TMR_EPOCH (spec/14 R527). -/
def TMR_EPOCH : Nat := 0x4003001C
/-- TMR_PEND_TMR (spec/14 R527). -/
def TMR_PEND_TMR : Nat := 0x40030020
/-- TMR_PEND_CAP_LO (spec/14 R527). -/
def TMR_PEND_CAP_LO : Nat := 0x40030024
/-- TMR_PEND_CAP_HI (spec/14 R527). -/
def TMR_PEND_CAP_HI : Nat := 0x40030028
/-- TMR_CTL (spec/14 R527). -/
def TMR_CTL (i : Nat) : Nat := 0x40030100 + i * 0x40
/-- TMR_DIV (spec/14 R527). -/
def TMR_DIV (i : Nat) : Nat := 0x40030104 + i * 0x40
/-- TMR_COUNT_LO (spec/14 R527). -/
def TMR_COUNT_LO (i : Nat) : Nat := 0x40030108 + i * 0x40
/-- TMR_COUNT_HI (spec/14 R527). -/
def TMR_COUNT_HI (i : Nat) : Nat := 0x4003010C + i * 0x40
/-- TMR_CMP_A_LO (spec/14 R527). -/
def TMR_CMP_A_LO (i : Nat) : Nat := 0x40030110 + i * 0x40
/-- TMR_CMP_A_HI (spec/14 R527). -/
def TMR_CMP_A_HI (i : Nat) : Nat := 0x40030114 + i * 0x40
/-- TMR_CMP_B_LO (spec/14 R527). -/
def TMR_CMP_B_LO (i : Nat) : Nat := 0x40030118 + i * 0x40
/-- TMR_CMP_B_HI (spec/14 R527). -/
def TMR_CMP_B_HI (i : Nat) : Nat := 0x4003011C + i * 0x40
/-- TMR_STEP (spec/14 R527). -/
def TMR_STEP (i : Nat) : Nat := 0x40030120 + i * 0x40
/-- TMR_ROUTE (spec/14 R527). -/
def TMR_ROUTE (i : Nat) : Nat := 0x40030124 + i * 0x40
/-- CAP_CTL (spec/14 R527). -/
def CAP_CTL (i : Nat) : Nat := 0x40031000 + i * 0x40
/-- CAP_STAT (spec/14 R527). -/
def CAP_STAT (i : Nat) : Nat := 0x40031004 + i * 0x40
/-- CAP_SEQ (spec/14 R527). -/
def CAP_SEQ (i : Nat) : Nat := 0x40031008 + i * 0x40
/-- CAP_RISE_LO (spec/14 R527). -/
def CAP_RISE_LO (i : Nat) : Nat := 0x4003100C + i * 0x40
/-- CAP_RISE_HI (spec/14 R527). -/
def CAP_RISE_HI (i : Nat) : Nat := 0x40031010 + i * 0x40
/-- CAP_FALL_LO (spec/14 R527). -/
def CAP_FALL_LO (i : Nat) : Nat := 0x40031014 + i * 0x40
/-- CAP_FALL_HI (spec/14 R527). -/
def CAP_FALL_HI (i : Nat) : Nat := 0x40031018 + i * 0x40
/-- CAP_WIDTH (spec/14 R527). -/
def CAP_WIDTH (i : Nat) : Nat := 0x4003101C + i * 0x40
/-- CAP_PERIOD (spec/14 R527). -/
def CAP_PERIOD (i : Nat) : Nat := 0x40031020 + i * 0x40
/-- CAP_ROUTE (spec/14 R527). -/
def CAP_ROUTE (i : Nat) : Nat := 0x40031024 + i * 0x40
/-- SIO_CFG (spec/14 R527). -/
def SIO_CFG (i : Nat) : Nat := 0x40040000 + i * 0x4
/-- GPIO_CFG (spec/14 R527). -/
def GPIO_CFG (i : Nat) : Nat := 0x40040100 + i * 0x4
/-- PWR_LOOP_CTL (spec/15 R556). -/
def PWR_LOOP_CTL : Nat := 0x40010000
/-- PWR_FIXED (spec/15 R556). -/
def PWR_FIXED : Nat := 0x40010004
/-- PWR_ENV_MIN (spec/15 R556). -/
def PWR_ENV_MIN : Nat := 0x40010008
/-- PWR_ENV_MAX (spec/15 R556). -/
def PWR_ENV_MAX : Nat := 0x4001000C
/-- PWR_VCORE (spec/15 R556). -/
def PWR_VCORE : Nat := 0x40010010
/-- PWR_VSAFE (spec/15 R556). -/
def PWR_VSAFE : Nat := 0x40010014
/-- PWR_LOOP_STAT (spec/15 R556). -/
def PWR_LOOP_STAT : Nat := 0x40010018
/-- PWR_UP_BACKLOG (spec/15 R556). -/
def PWR_UP_BACKLOG : Nat := 0x40010020
/-- PWR_DOWN_BACKLOG (spec/15 R556). -/
def PWR_DOWN_BACKLOG : Nat := 0x40010024
/-- PWR_UP_FE (spec/15 R556). -/
def PWR_UP_FE : Nat := 0x40010028
/-- PWR_DOWN_FE (spec/15 R556). -/
def PWR_DOWN_FE : Nat := 0x4001002C
/-- PWR_BACKLOG (spec/15 R556). -/
def PWR_BACKLOG : Nat := 0x40010030
/-- PWR_FE (spec/15 R556). -/
def PWR_FE : Nat := 0x40010034
/-- PWR_TJ_MAX (spec/15 R556). -/
def PWR_TJ_MAX : Nat := 0x40010040
/-- PWR_THERM_SOFT (spec/15 R556). -/
def PWR_THERM_SOFT : Nat := 0x40010044
/-- PWR_THERM_EMERG (spec/15 R556). -/
def PWR_THERM_EMERG : Nat := 0x40010048
/-- PWR_THERM_TRIP (spec/15 R556). -/
def PWR_THERM_TRIP : Nat := 0x4001004C
/-- PWR_TILE_THERM (spec/15 R556). -/
def PWR_TILE_THERM : Nat := 0x40010050
/-- PWR_THERM_STAT (spec/15 R556). -/
def PWR_THERM_STAT : Nat := 0x40010054
/-- PWR_TEMP (spec/15 R556). -/
def PWR_TEMP (i : Nat) : Nat := 0x40010080 + i * 0x4
/-- PWR_SBY_CTL (spec/15 R556). -/
def PWR_SBY_CTL : Nat := 0x40010100
/-- PWR_WAKE_EN (spec/15 R556). -/
def PWR_WAKE_EN : Nat := 0x40010104
/-- PWR_WAKE_TMR (spec/15 R556). -/
def PWR_WAKE_TMR : Nat := 0x40010108
/-- PWR_WAKE_CAP_LO (spec/15 R556). -/
def PWR_WAKE_CAP_LO : Nat := 0x4001010C
/-- PWR_WAKE_CAP_HI (spec/15 R556). -/
def PWR_WAKE_CAP_HI : Nat := 0x40010110
/-- PWR_WAKE_CAUSE (spec/15 R556). -/
def PWR_WAKE_CAUSE : Nat := 0x40010114
/-- SYS_VENDOR (spec/16 R592). -/
def SYS_VENDOR : Nat := 0x40000000
/-- SYS_ID (spec/16 R592). -/
def SYS_ID : Nat := 0x40000004
/-- SYS_SERIAL_LO (spec/16 R592). -/
def SYS_SERIAL_LO : Nat := 0x40000008
/-- SYS_SERIAL_HI (spec/16 R592). -/
def SYS_SERIAL_HI : Nat := 0x4000000C
/-- SYS_ROM_VER (spec/16 R592). -/
def SYS_ROM_VER : Nat := 0x40000010
/-- SYS_LC (spec/16 R592). -/
def SYS_LC : Nat := 0x40000020
/-- SYS_LC_CMD (spec/16 R592). -/
def SYS_LC_CMD : Nat := 0x40000024
/-- SYS_BOOT (spec/16 R592). -/
def SYS_BOOT : Nat := 0x40000030
/-- SYS_BOOT_VER (spec/16 R592). -/
def SYS_BOOT_VER : Nat := 0x40000034
/-- SYS_BOOT_TRY (spec/16 R592). -/
def SYS_BOOT_TRY : Nat := 0x40000038
/-- SYS_RST_CAUSE (spec/16 R592). -/
def SYS_RST_CAUSE : Nat := 0x40000040
/-- SYS_AON_RST (spec/16 R592). -/
def SYS_AON_RST : Nat := 0x40000044
/-- SYS_PCORE_RST (spec/16 R592). -/
def SYS_PCORE_RST : Nat := 0x40000050
/-- SYS_PCORE_CTL (spec/16 R592). -/
def SYS_PCORE_CTL : Nat := 0x40000054
/-- SYS_PCORE_ENTRY_LO (spec/16 R592). -/
def SYS_PCORE_ENTRY_LO (i : Nat) : Nat := 0x40000058 + i * 0x8
/-- SYS_PCORE_ENTRY_HI (spec/16 R592). -/
def SYS_PCORE_ENTRY_HI (i : Nat) : Nat := 0x4000005C + i * 0x8
/-- SYS_WDT_CTL (spec/16 R592). -/
def SYS_WDT_CTL : Nat := 0x40000070
/-- SYS_WDT_KICK (spec/16 R592). -/
def SYS_WDT_KICK : Nat := 0x40000074
/-- SYS_OTP_ADDR (spec/16 R592). -/
def SYS_OTP_ADDR : Nat := 0x40000080
/-- SYS_OTP_DATA (spec/16 R592). -/
def SYS_OTP_DATA : Nat := 0x40000084
/-- SYS_OTP_OP (spec/16 R592). -/
def SYS_OTP_OP : Nat := 0x40000088
/-- SYS_OTP_STAT (spec/16 R592). -/
def SYS_OTP_STAT : Nat := 0x4000008C
/-- SYS_DBG_STAT (spec/16 R592). -/
def SYS_DBG_STAT : Nat := 0x40000090
/-- REC_CTL (spec/17 R627). -/
def REC_CTL : Nat := 0x40020000
/-- REC_CMD (spec/17 R627). -/
def REC_CMD : Nat := 0x40020004
/-- REC_STATUS (spec/17 R627). -/
def REC_STATUS : Nat := 0x40020008
/-- REC_LOST (spec/17 R627). -/
def REC_LOST : Nat := 0x4002000C
/-- REC_TRIG (spec/17 R627). -/
def REC_TRIG (i : Nat) : Nat := 0x40020010 + i * 0x4
/-- REC_RD_SEL (spec/17 R627). -/
def REC_RD_SEL : Nat := 0x40020020
/-- REC_DATA (spec/17 R627). -/
def REC_DATA (i : Nat) : Nat := 0x40020024 + i * 0x4
/-- REC_FLUSH (spec/17 R627). -/
def REC_FLUSH : Nat := 0x40020040
/-- REC_FLUSH_ADDR (spec/17 R627). -/
def REC_FLUSH_ADDR : Nat := 0x40020044
/-- REC_FLUSH_STAT (spec/17 R627). -/
def REC_FLUSH_STAT : Nat := 0x40020048
/-- ST_CTL (spec/17 R627). -/
def ST_CTL : Nat := 0x40600100
/-- ST_ADMIT (spec/17 R627). -/
def ST_ADMIT : Nat := 0x40600104
/-- ST_DRAIN_TMO (spec/17 R627). -/
def ST_DRAIN_TMO : Nat := 0x40600108
/-- ST_STATUS (spec/17 R627). -/
def ST_STATUS : Nat := 0x4060010C
/-- ST_RESULT (spec/17 R627). -/
def ST_RESULT : Nat := 0x40600110
/-- ST_MEM_CTL (spec/17 R627). -/
def ST_MEM_CTL : Nat := 0x40600120
/-- ST_MEM_TESTED (spec/17 R627). -/
def ST_MEM_TESTED : Nat := 0x40600124
/-- ST_MEM_FAILED (spec/17 R627). -/
def ST_MEM_FAILED : Nat := 0x40600128
/-- ST_MEM_REFUSED (spec/17 R627). -/
def ST_MEM_REFUSED : Nat := 0x4060012C
/-- ST_RING_CAL (spec/17 R627). -/
def ST_RING_CAL : Nat := 0x40600140
/-- EXCH_CTL (spec/17 R627). -/
def EXCH_CTL : Nat := 0x40600200
/-- EXCH_STATUS (spec/17 R627). -/
def EXCH_STATUS : Nat := 0x40600204
/-- EXCH_START_LO (spec/17 R627). -/
def EXCH_START_LO (i : Nat) : Nat := 0x40600240 + i * 0x10
/-- EXCH_START_HI (spec/17 R627). -/
def EXCH_START_HI (i : Nat) : Nat := 0x40600244 + i * 0x10
/-- EXCH_TASK_LO (spec/17 R627). -/
def EXCH_TASK_LO (i : Nat) : Nat := 0x40600248 + i * 0x10
/-- EXCH_TASK_HI (spec/17 R627). -/
def EXCH_TASK_HI (i : Nat) : Nat := 0x4060024C + i * 0x10
/-- EXCH_PC_IMG_LO (spec/17 R627). -/
def EXCH_PC_IMG_LO : Nat := 0x40600280
/-- EXCH_PC_IMG_HI (spec/17 R627). -/
def EXCH_PC_IMG_HI : Nat := 0x40600284
/-- EXCH_PC_CTL (spec/17 R627). -/
def EXCH_PC_CTL : Nat := 0x40600288
/-- EXCH_PC_STAT (spec/17 R627). -/
def EXCH_PC_STAT : Nat := 0x4060028C
/-- UART_CTL (spec/18 R662). -/
def UART_CTL : Nat := 0x40500000
/-- UART_DATA (spec/18 R662). -/
def UART_DATA : Nat := 0x40500008
/-- UART_STAT (spec/18 R662). -/
def UART_STAT : Nat := 0x4050000C
/-- I2C_CTL (spec/18 R662). -/
def I2C_CTL : Nat := 0x40500040
/-- I2C_CMD (spec/18 R662). -/
def I2C_CMD : Nat := 0x40500044
/-- I2C_STAT (spec/18 R662). -/
def I2C_STAT : Nat := 0x40500048
/-- I2C_BUF (spec/18 R662). -/
def I2C_BUF (i : Nat) : Nat := 0x40500080 + i * 0x4

end A

namespace F

/-- SDC_CTRL.POPULATED. -/
def SDC_CTRL_POPULATED (i : Nat) : Fld := ⟨A.SDC_CTRL i, 4, 1⟩
/-- SDC_CTRL.RANKS. -/
def SDC_CTRL_RANKS (i : Nat) : Fld := ⟨A.SDC_CTRL i, 5, 1⟩
/-- SDC_CTRL.DENSITY. -/
def SDC_CTRL_DENSITY (i : Nat) : Fld := ⟨A.SDC_CTRL i, 8, 2⟩
/-- SDC_STATUS.INIT_DONE. -/
def SDC_STATUS_INIT_DONE (i : Nat) : Fld := ⟨A.SDC_STATUS i, 0, 1⟩
/-- SDC_STATUS.INIT_FAIL. -/
def SDC_STATUS_INIT_FAIL (i : Nat) : Fld := ⟨A.SDC_STATUS i, 1, 1⟩
/-- SDC_STATUS.FILL_DONE. -/
def SDC_STATUS_FILL_DONE (i : Nat) : Fld := ⟨A.SDC_STATUS i, 2, 1⟩
/-- SDC_STATUS.FAIL_STEP. -/
def SDC_STATUS_FAIL_STEP (i : Nat) : Fld := ⟨A.SDC_STATUS i, 4, 3⟩
/-- SDC_STATUS.SCRUB_BUSY. -/
def SDC_STATUS_SCRUB_BUSY (i : Nat) : Fld := ⟨A.SDC_STATUS i, 8, 1⟩
/-- SDC_SCRUB.PERIOD_H. -/
def SDC_SCRUB_PERIOD_H (i : Nat) : Fld := ⟨A.SDC_SCRUB i, 0, 8⟩
/-- SDC_SCRUB.ENABLE. -/
def SDC_SCRUB_ENABLE (i : Nat) : Fld := ⟨A.SDC_SCRUB i, 8, 1⟩
/-- SDC_CE_COUNT.COUNT. -/
def SDC_CE_COUNT_COUNT (i : Nat) : Fld := ⟨A.SDC_CE_COUNT i, 0, 32⟩
/-- SDC_UE_COUNT.COUNT. -/
def SDC_UE_COUNT_COUNT (i : Nat) : Fld := ⟨A.SDC_UE_COUNT i, 0, 32⟩
/-- SDC_UE_ADDR_LO.ADDR. -/
def SDC_UE_ADDR_LO_ADDR (i : Nat) : Fld := ⟨A.SDC_UE_ADDR_LO i, 0, 32⟩
/-- SDC_UE_ADDR_HI.ADDR. -/
def SDC_UE_ADDR_HI_ADDR (i : Nat) : Fld := ⟨A.SDC_UE_ADDR_HI i, 0, 8⟩
/-- MEMECC_CE_COUNT.COUNT. -/
def MEMECC_CE_COUNT_COUNT : Fld := ⟨A.MEMECC_CE_COUNT, 0, 32⟩
/-- MEMECC_UE_ADDR_LO.ADDR. -/
def MEMECC_UE_ADDR_LO_ADDR : Fld := ⟨A.MEMECC_UE_ADDR_LO, 0, 32⟩
/-- MEMECC_UE_ADDR_HI.ADDR. -/
def MEMECC_UE_ADDR_HI_ADDR : Fld := ⟨A.MEMECC_UE_ADDR_HI, 0, 8⟩
/-- MEMECC_CTRL.INGOT_SCRUB_EN. -/
def MEMECC_CTRL_INGOT_SCRUB_EN : Fld := ⟨A.MEMECC_CTRL, 1, 1⟩
/-- TILE_SUPV.PRIMARY. -/
def TILE_SUPV_PRIMARY (i : Nat) : Fld := ⟨A.TILE_SUPV i, 0, 5⟩
/-- TILE_SUPV.ALTERNATE. -/
def TILE_SUPV_ALTERNATE (i : Nat) : Fld := ⟨A.TILE_SUPV i, 8, 5⟩
/-- TILE_SUPV.ACTIVE. -/
def TILE_SUPV_ACTIVE (i : Nat) : Fld := ⟨A.TILE_SUPV i, 16, 1⟩
/-- TILE_ENTRY_LO.PC. -/
def TILE_ENTRY_LO_PC (i : Nat) : Fld := ⟨A.TILE_ENTRY_LO i, 0, 32⟩
/-- TILE_ENTRY_HI.PC. -/
def TILE_ENTRY_HI_PC (i : Nat) : Fld := ⟨A.TILE_ENTRY_HI i, 0, 8⟩
/-- CORE_MODE.MODE. -/
def CORE_MODE_MODE (i j : Nat) : Fld := ⟨A.CORE_MODE i j, 0, 1⟩
/-- TILE_POSTED_TMO.TMO. -/
def TILE_POSTED_TMO_TMO (i : Nat) : Fld := ⟨A.TILE_POSTED_TMO i, 0, 16⟩
/-- TILE_FAULT_STAT.FAULTS. -/
def TILE_FAULT_STAT_FAULTS (i : Nat) : Fld := ⟨A.TILE_FAULT_STAT i, 0, 16⟩
/-- TILE_FAULT_STAT.SWITCHED. -/
def TILE_FAULT_STAT_SWITCHED (i : Nat) : Fld := ⟨A.TILE_FAULT_STAT i, 16, 1⟩
/-- SUPV_ESC_STAT.PENDING. -/
def SUPV_ESC_STAT_PENDING (i : Nat) : Fld := ⟨A.SUPV_ESC_STAT i, 0, 1⟩
/-- SUPV_ESC_REC.WORD. -/
def SUPV_ESC_REC_WORD (i j : Nat) : Fld := ⟨A.SUPV_ESC_REC i j, 0, 32⟩
/-- THREAD_CFG.GROUP. -/
def THREAD_CFG_GROUP (i j : Nat) : Fld := ⟨A.THREAD_CFG i j, 0, 4⟩
/-- THREAD_CFG.PRIV. -/
def THREAD_CFG_PRIV (i j : Nat) : Fld := ⟨A.THREAD_CFG i j, 8, 1⟩
/-- THREAD_STATE.STATE. -/
def THREAD_STATE_STATE (i j : Nat) : Fld := ⟨A.THREAD_STATE i j, 0, 3⟩
/-- PR_BASE_LO.EN. -/
def PR_BASE_LO_EN (i j k : Nat) : Fld := ⟨A.PR_BASE_LO i j k, 0, 1⟩
/-- PR_BASE_LO.BASE. -/
def PR_BASE_LO_BASE (i j k : Nat) : Fld := ⟨A.PR_BASE_LO i j k, 6, 26⟩
/-- PR_BASE_HI.BASE. -/
def PR_BASE_HI_BASE (i j k : Nat) : Fld := ⟨A.PR_BASE_HI i j k, 0, 8⟩
/-- PR_LIMIT_LO.LIMIT. -/
def PR_LIMIT_LO_LIMIT (i j k : Nat) : Fld := ⟨A.PR_LIMIT_LO i j k, 6, 26⟩
/-- PR_LIMIT_HI.LIMIT. -/
def PR_LIMIT_HI_LIMIT (i j k : Nat) : Fld := ⟨A.PR_LIMIT_HI i j k, 0, 8⟩
/-- PR_LIMIT_HI.R. -/
def PR_LIMIT_HI_R (i j k : Nat) : Fld := ⟨A.PR_LIMIT_HI i j k, 8, 1⟩
/-- PR_LIMIT_HI.W. -/
def PR_LIMIT_HI_W (i j k : Nat) : Fld := ⟨A.PR_LIMIT_HI i j k, 9, 1⟩
/-- PR_LIMIT_HI.X. -/
def PR_LIMIT_HI_X (i j k : Nat) : Fld := ⟨A.PR_LIMIT_HI i j k, 10, 1⟩
/-- PR_LIMIT_HI.CACHE. -/
def PR_LIMIT_HI_CACHE (i j k : Nat) : Fld := ⟨A.PR_LIMIT_HI i j k, 11, 2⟩
/-- PR_LIMIT_HI.ORDER. -/
def PR_LIMIT_HI_ORDER (i j k : Nat) : Fld := ⟨A.PR_LIMIT_HI i j k, 13, 2⟩
/-- PR_LIMIT_HI.PRIVONLY. -/
def PR_LIMIT_HI_PRIVONLY (i j k : Nat) : Fld := ⟨A.PR_LIMIT_HI i j k, 15, 1⟩
/-- ACCT_GEN.GEN. -/
def ACCT_GEN_GEN (i j : Nat) : Fld := ⟨A.ACCT_GEN i j, 0, 8⟩
/-- GRP_MIN.MIN. -/
def GRP_MIN_MIN (i : Nat) : Fld := ⟨A.GRP_MIN i, 0, 17⟩
/-- GRP_MIN.DYNAMIC. -/
def GRP_MIN_DYNAMIC (i : Nat) : Fld := ⟨A.GRP_MIN i, 24, 1⟩
/-- GRP_MIN.CUT. -/
def GRP_MIN_CUT (i : Nat) : Fld := ⟨A.GRP_MIN i, 31, 1⟩
/-- GRP_MAX.MAX. -/
def GRP_MAX_MAX (i : Nat) : Fld := ⟨A.GRP_MAX i, 0, 17⟩
/-- GRP_BUDGET.LIMIT. -/
def GRP_BUDGET_LIMIT (i : Nat) : Fld := ⟨A.GRP_BUDGET i, 0, 20⟩
/-- GRP_PLACE.HOME. -/
def GRP_PLACE_HOME (i : Nat) : Fld := ⟨A.GRP_PLACE i, 0, 3⟩
/-- GRP_PLACE.PIN. -/
def GRP_PLACE_PIN (i : Nat) : Fld := ⟨A.GRP_PLACE i, 8, 1⟩
/-- GRP_INUSE.INUSE. -/
def GRP_INUSE_INUSE (i : Nat) : Fld := ⟨A.GRP_INUSE i, 0, 17⟩
/-- SCH_STATUS.INFLIGHT. -/
def SCH_STATUS_INFLIGHT : Fld := ⟨A.SCH_STATUS, 0, 17⟩
/-- SCH_CPL_BASE.ADDR. -/
def SCH_CPL_BASE_ADDR : Fld := ⟨A.SCH_CPL_BASE, 0, 32⟩
/-- SCH_CPL_SIZE.SIZE. -/
def SCH_CPL_SIZE_SIZE : Fld := ⟨A.SCH_CPL_SIZE, 0, 16⟩
/-- SCH_CPL_WR.WR. -/
def SCH_CPL_WR_WR : Fld := ⟨A.SCH_CPL_WR, 0, 16⟩
/-- SCH_CPL_RD.RD. -/
def SCH_CPL_RD_RD : Fld := ⟨A.SCH_CPL_RD, 0, 16⟩
/-- SCH_REFUSE_PORT_CNT.COUNT. -/
def SCH_REFUSE_PORT_CNT_COUNT : Fld := ⟨A.SCH_REFUSE_PORT_CNT, 0, 32⟩
/-- SCH_REFUSE_SEND_CNT.COUNT. -/
def SCH_REFUSE_SEND_CNT_COUNT : Fld := ⟨A.SCH_REFUSE_SEND_CNT, 0, 32⟩
/-- SCH_EVENT_LOST_CNT.COUNT. -/
def SCH_EVENT_LOST_CNT_COUNT : Fld := ⟨A.SCH_EVENT_LOST_CNT, 0, 32⟩
/-- SCH_REDIRECT_LOST_CNT.COUNT. -/
def SCH_REDIRECT_LOST_CNT_COUNT : Fld := ⟨A.SCH_REDIRECT_LOST_CNT, 0, 32⟩
/-- SCH_VOID_CNT.COUNT. -/
def SCH_VOID_CNT_COUNT : Fld := ⟨A.SCH_VOID_CNT, 0, 32⟩
/-- SCH_FLAG_CNT.COUNT. -/
def SCH_FLAG_CNT_COUNT : Fld := ⟨A.SCH_FLAG_CNT, 0, 32⟩
/-- SCH_CPL_LOST_CNT.COUNT. -/
def SCH_CPL_LOST_CNT_COUNT : Fld := ⟨A.SCH_CPL_LOST_CNT, 0, 32⟩
/-- SCH_HOT_DISPATCH_CNT.COUNT. -/
def SCH_HOT_DISPATCH_CNT_COUNT : Fld := ⟨A.SCH_HOT_DISPATCH_CNT, 0, 32⟩
/-- SCH_PIN_LIFT_CNT.COUNT. -/
def SCH_PIN_LIFT_CNT_COUNT : Fld := ⟨A.SCH_PIN_LIFT_CNT, 0, 32⟩
/-- SCH_DOM_TYPE.TYPES. -/
def SCH_DOM_TYPE_TYPES (i : Nat) : Fld := ⟨A.SCH_DOM_TYPE i, 0, 32⟩
/-- POOL_CFG.ENABLE. -/
def POOL_CFG_ENABLE (i : Nat) : Fld := ⟨A.POOL_CFG i, 0, 1⟩
/-- POOL_CFG.SIZE. -/
def POOL_CFG_SIZE (i : Nat) : Fld := ⟨A.POOL_CFG i, 4, 4⟩
/-- POOL_CFG.MODE. -/
def POOL_CFG_MODE (i : Nat) : Fld := ⟨A.POOL_CFG i, 8, 2⟩
/-- POOL_CFG.CACHE. -/
def POOL_CFG_CACHE (i : Nat) : Fld := ⟨A.POOL_CFG i, 12, 1⟩
/-- POOL_CFG.ORDER. -/
def POOL_CFG_ORDER (i : Nat) : Fld := ⟨A.POOL_CFG i, 14, 2⟩
/-- POOL_BASE_LO.BASE. -/
def POOL_BASE_LO_BASE (i : Nat) : Fld := ⟨A.POOL_BASE_LO i, 0, 32⟩
/-- POOL_BASE_HI.BASE. -/
def POOL_BASE_HI_BASE (i : Nat) : Fld := ⟨A.POOL_BASE_HI i, 0, 8⟩
/-- POOL_COUNT.COUNT. -/
def POOL_COUNT_COUNT (i : Nat) : Fld := ⟨A.POOL_COUNT i, 0, 21⟩
/-- POOL_META_LO.META. -/
def POOL_META_LO_META (i : Nat) : Fld := ⟨A.POOL_META_LO i, 0, 32⟩
/-- POOL_META_HI.META. -/
def POOL_META_HI_META (i : Nat) : Fld := ⟨A.POOL_META_HI i, 0, 8⟩
/-- POOL_STATUS.READY. -/
def POOL_STATUS_READY (i : Nat) : Fld := ⟨A.POOL_STATUS i, 0, 1⟩
/-- POOL_STATUS.BUILDING. -/
def POOL_STATUS_BUILDING (i : Nat) : Fld := ⟨A.POOL_STATUS i, 1, 1⟩
/-- POOL_STATUS.CFG_ERR. -/
def POOL_STATUS_CFG_ERR (i : Nat) : Fld := ⟨A.POOL_STATUS i, 2, 1⟩
/-- POOL_STATUS.ERR_CAUSE. -/
def POOL_STATUS_ERR_CAUSE (i : Nat) : Fld := ⟨A.POOL_STATUS i, 4, 3⟩
/-- POOL_FREE.FREE. -/
def POOL_FREE_FREE (i : Nat) : Fld := ⟨A.POOL_FREE i, 0, 21⟩
/-- POOL_INUSE.COUNT. -/
def POOL_INUSE_COUNT (i : Nat) : Fld := ⟨A.POOL_INUSE i, 0, 21⟩
/-- POOL_LENT.COUNT. -/
def POOL_LENT_COUNT (i : Nat) : Fld := ⟨A.POOL_LENT i, 0, 21⟩
/-- POOL_RETIRED.COUNT. -/
def POOL_RETIRED_COUNT (i : Nat) : Fld := ⟨A.POOL_RETIRED i, 0, 21⟩
/-- POOL_DROP_EMPTY.COUNT. -/
def POOL_DROP_EMPTY_COUNT (i : Nat) : Fld := ⟨A.POOL_DROP_EMPTY i, 0, 32⟩
/-- POOL_DROP_LIMIT.COUNT. -/
def POOL_DROP_LIMIT_COUNT (i : Nat) : Fld := ⟨A.POOL_DROP_LIMIT i, 0, 32⟩
/-- POOL_DROP_DISABLED.COUNT. -/
def POOL_DROP_DISABLED_COUNT (i : Nat) : Fld := ⟨A.POOL_DROP_DISABLED i, 0, 32⟩
/-- POOL_TOO_LONG.COUNT. -/
def POOL_TOO_LONG_COUNT (i : Nat) : Fld := ⟨A.POOL_TOO_LONG i, 0, 32⟩
/-- POOL_ALLOC_FAIL.COUNT. -/
def POOL_ALLOC_FAIL_COUNT (i : Nat) : Fld := ⟨A.POOL_ALLOC_FAIL i, 0, 32⟩
/-- ACCT_RES.RES. -/
def ACCT_RES_RES (i j : Nat) : Fld := ⟨A.ACCT_RES i j, 0, 21⟩
/-- ACCT_LIMIT.LIMIT. -/
def ACCT_LIMIT_LIMIT (i j : Nat) : Fld := ⟨A.ACCT_LIMIT i j, 0, 21⟩
/-- ACCT_INUSE.INUSE. -/
def ACCT_INUSE_INUSE (i j : Nat) : Fld := ⟨A.ACCT_INUSE i j, 0, 21⟩
/-- AUDIT_CTL.START. -/
def AUDIT_CTL_START : Fld := ⟨A.AUDIT_CTL, 0, 1⟩
/-- AUDIT_CTL.BUSY. -/
def AUDIT_CTL_BUSY : Fld := ⟨A.AUDIT_CTL, 8, 1⟩
/-- AUDIT_CTL.DONE. -/
def AUDIT_CTL_DONE : Fld := ⟨A.AUDIT_CTL, 16, 1⟩
/-- AUDIT_CTL.PERIOD_S. -/
def AUDIT_CTL_PERIOD_S : Fld := ⟨A.AUDIT_CTL, 24, 8⟩
/-- AUDIT_POOLS.MASK. -/
def AUDIT_POOLS_MASK : Fld := ⟨A.AUDIT_POOLS, 0, 16⟩
/-- AUDIT_DST.ADDR. -/
def AUDIT_DST_ADDR : Fld := ⟨A.AUDIT_DST, 0, 32⟩
/-- AUDIT_MAX.MAX. -/
def AUDIT_MAX_MAX : Fld := ⟨A.AUDIT_MAX, 0, 16⟩
/-- AUDIT_WRITTEN.COUNT. -/
def AUDIT_WRITTEN_COUNT : Fld := ⟨A.AUDIT_WRITTEN, 0, 16⟩
/-- AUDIT_WRITTEN.TRUNC. -/
def AUDIT_WRITTEN_TRUNC : Fld := ⟨A.AUDIT_WRITTEN, 31, 1⟩
/-- LEND_MAX.MAX. -/
def LEND_MAX_MAX (i : Nat) : Fld := ⟨A.LEND_MAX i, 0, 21⟩
/-- LEND_FLOOR.FLOOR. -/
def LEND_FLOOR_FLOOR (i : Nat) : Fld := ⟨A.LEND_FLOOR i, 0, 21⟩
/-- AUD_THR.THR. -/
def AUD_THR_THR (i : Nat) : Fld := ⟨A.AUD_THR i, 0, 16⟩
/-- AUD_OLD.COUNT. -/
def AUD_OLD_COUNT (i : Nat) : Fld := ⟨A.AUD_OLD i, 0, 21⟩
/-- AUD_MAXAGE.AGE. -/
def AUD_MAXAGE_AGE (i : Nat) : Fld := ⟨A.AUD_MAXAGE i, 0, 16⟩
/-- AUD_OLDEST.HANDLE. -/
def AUD_OLDEST_HANDLE (i : Nat) : Fld := ⟨A.AUD_OLDEST i, 0, 32⟩
/-- PRS_BANK.ACTIVE. -/
def PRS_BANK_ACTIVE : Fld := ⟨A.PRS_BANK, 0, 1⟩
/-- PRS_BANK.DRAINED. -/
def PRS_BANK_DRAINED : Fld := ⟨A.PRS_BANK, 8, 1⟩
/-- PRS_CMD_STATUS.REFUSED. -/
def PRS_CMD_STATUS_REFUSED : Fld := ⟨A.PRS_CMD_STATUS, 0, 1⟩
/-- PRS_CNT.COUNT. -/
def PRS_CNT_COUNT (i : Nat) : Fld := ⟨A.PRS_CNT i, 0, 32⟩
/-- PRS_EXT_CUT_CNT.COUNT. -/
def PRS_EXT_CUT_CNT_COUNT : Fld := ⟨A.PRS_EXT_CUT_CNT, 0, 32⟩
/-- CLS_VER.CUR. -/
def CLS_VER_CUR : Fld := ⟨A.CLS_VER, 0, 8⟩
/-- CLS_VER.OLDEST. -/
def CLS_VER_OLDEST : Fld := ⟨A.CLS_VER, 8, 8⟩
/-- CLS_VER.OUTSTANDING. -/
def CLS_VER_OUTSTANDING : Fld := ⟨A.CLS_VER, 16, 7⟩
/-- CLS_COMMIT_STATUS.REFUSED. -/
def CLS_COMMIT_STATUS_REFUSED : Fld := ⟨A.CLS_COMMIT_STATUS, 0, 1⟩
/-- CLS_ERR.REFUSED. -/
def CLS_ERR_REFUSED : Fld := ⟨A.CLS_ERR, 0, 1⟩
/-- CLS_ERR.CAUSE. -/
def CLS_ERR_CAUSE : Fld := ⟨A.CLS_ERR, 1, 3⟩
/-- CLS_ERR.RULE. -/
def CLS_ERR_RULE : Fld := ⟨A.CLS_ERR, 16, 12⟩
/-- CLS_RULE_SEL.RULE. -/
def CLS_RULE_SEL_RULE : Fld := ⟨A.CLS_RULE_SEL, 0, 12⟩
/-- CLS_RETIRED.COUNT. -/
def CLS_RETIRED_COUNT : Fld := ⟨A.CLS_RETIRED, 0, 32⟩
/-- CLS_MISS_ACTION_LO.ACTION. -/
def CLS_MISS_ACTION_LO_ACTION : Fld := ⟨A.CLS_MISS_ACTION_LO, 0, 32⟩
/-- CLS_MISS_ACTION_HI.ACTION. -/
def CLS_MISS_ACTION_HI_ACTION : Fld := ⟨A.CLS_MISS_ACTION_HI, 0, 32⟩
/-- CLS_SLOW.GROUP. -/
def CLS_SLOW_GROUP : Fld := ⟨A.CLS_SLOW, 0, 4⟩
/-- CLS_SLOW.PRIO. -/
def CLS_SLOW_PRIO : Fld := ⟨A.CLS_SLOW, 4, 3⟩
/-- CLS_SLOW.DOMAIN. -/
def CLS_SLOW_DOMAIN : Fld := ⟨A.CLS_SLOW, 16, 12⟩
/-- CLS_FRAG_MODE_0.LINK. -/
def CLS_FRAG_MODE_0_LINK : Fld := ⟨A.CLS_FRAG_MODE_0, 0, 32⟩
/-- CLS_FRAG_CTL.PROFILE. -/
def CLS_FRAG_CTL_PROFILE : Fld := ⟨A.CLS_FRAG_CTL, 0, 4⟩
/-- CLS_FRAG_CTL.FLUSH. -/
def CLS_FRAG_CTL_FLUSH : Fld := ⟨A.CLS_FRAG_CTL, 8, 1⟩
/-- CLS_FRAG_CTL.FLUSH_BUSY. -/
def CLS_FRAG_CTL_FLUSH_BUSY : Fld := ⟨A.CLS_FRAG_CTL, 16, 1⟩
/-- CLS_FRAG_TMO.MS. -/
def CLS_FRAG_TMO_MS : Fld := ⟨A.CLS_FRAG_TMO, 0, 16⟩
/-- CLS_FRAG_USED.COUNT. -/
def CLS_FRAG_USED_COUNT : Fld := ⟨A.CLS_FRAG_USED, 0, 11⟩
/-- CLS_MATCH_CNT.COUNT. -/
def CLS_MATCH_CNT_COUNT : Fld := ⟨A.CLS_MATCH_CNT, 0, 32⟩
/-- CLS_MISS_CNT.COUNT. -/
def CLS_MISS_CNT_COUNT : Fld := ⟨A.CLS_MISS_CNT, 0, 32⟩
/-- CLS_DROP_CNT.COUNT. -/
def CLS_DROP_CNT_COUNT : Fld := ⟨A.CLS_DROP_CNT, 0, 32⟩
/-- CLS_SLOW_CNT.COUNT. -/
def CLS_SLOW_CNT_COUNT : Fld := ⟨A.CLS_SLOW_CNT, 0, 32⟩
/-- CLS_FRAG_HIT_CNT.COUNT. -/
def CLS_FRAG_HIT_CNT_COUNT : Fld := ⟨A.CLS_FRAG_HIT_CNT, 0, 32⟩
/-- CLS_FRAG_MISS_CNT.COUNT. -/
def CLS_FRAG_MISS_CNT_COUNT : Fld := ⟨A.CLS_FRAG_MISS_CNT, 0, 32⟩
/-- CLS_FRAG_FULL_CNT.COUNT. -/
def CLS_FRAG_FULL_CNT_COUNT : Fld := ⟨A.CLS_FRAG_FULL_CNT, 0, 32⟩
/-- CLS_FRAG_EXPIRED_CNT.COUNT. -/
def CLS_FRAG_EXPIRED_CNT_COUNT : Fld := ⟨A.CLS_FRAG_EXPIRED_CNT, 0, 32⟩
/-- CLS_HIT.COUNT. -/
def CLS_HIT_COUNT (i : Nat) : Fld := ⟨A.CLS_HIT i, 0, 32⟩
/-- RING_CTL.ENABLE. -/
def RING_CTL_ENABLE : Fld := ⟨A.RING_CTL, 0, 1⟩
/-- RING_CTL.JOIN. -/
def RING_CTL_JOIN : Fld := ⟨A.RING_CTL, 1, 1⟩
/-- RING_CTL.LEAVE. -/
def RING_CTL_LEAVE : Fld := ⟨A.RING_CTL, 2, 1⟩
/-- RING_CTL.MASTER_CAPABLE. -/
def RING_CTL_MASTER_CAPABLE : Fld := ⟨A.RING_CTL, 3, 1⟩
/-- RING_CTL.MASTER_PRIO. -/
def RING_CTL_MASTER_PRIO : Fld := ⟨A.RING_CTL, 8, 8⟩
/-- RING_ADDR.ADDR. -/
def RING_ADDR_ADDR : Fld := ⟨A.RING_ADDR, 0, 8⟩
/-- RING_ADDR.SEQ. -/
def RING_ADDR_SEQ : Fld := ⟨A.RING_ADDR, 8, 8⟩
/-- RING_SIZE.SIZE. -/
def RING_SIZE_SIZE : Fld := ⟨A.RING_SIZE, 0, 8⟩
/-- RING_STATUS.STATE. -/
def RING_STATUS_STATE : Fld := ⟨A.RING_STATUS, 0, 3⟩
/-- RING_STATUS.ROLE. -/
def RING_STATUS_ROLE : Fld := ⟨A.RING_STATUS, 3, 2⟩
/-- RING_STATUS.WRAP_E. -/
def RING_STATUS_WRAP_E : Fld := ⟨A.RING_STATUS, 5, 1⟩
/-- RING_STATUS.WRAP_W. -/
def RING_STATUS_WRAP_W : Fld := ⟨A.RING_STATUS, 6, 1⟩
/-- RING_STATUS.SYNCED. -/
def RING_STATUS_SYNCED : Fld := ⟨A.RING_STATUS, 7, 1⟩
/-- RING_STATUS.MASTER. -/
def RING_STATUS_MASTER : Fld := ⟨A.RING_STATUS, 8, 8⟩
/-- RING_STATUS.JOIN_ERR. -/
def RING_STATUS_JOIN_ERR : Fld := ⟨A.RING_STATUS, 16, 1⟩
/-- RING_CYCLE_CFG.PERIOD_US. -/
def RING_CYCLE_CFG_PERIOD_US : Fld := ⟨A.RING_CYCLE_CFG, 0, 14⟩
/-- RING_GAP.GAP_US. -/
def RING_GAP_GAP_US : Fld := ⟨A.RING_GAP, 0, 8⟩
/-- RING_GAP.SPLICE_US. -/
def RING_GAP_SPLICE_US : Fld := ⟨A.RING_GAP, 8, 8⟩
/-- RING_GAP.SPLICE_EVERY. -/
def RING_GAP_SPLICE_EVERY : Fld := ⟨A.RING_GAP, 16, 4⟩
/-- RING_SWEEP.AREA_LEN. -/
def RING_SWEEP_AREA_LEN : Fld := ⟨A.RING_SWEEP, 0, 11⟩
/-- RING_CYCLE_NUM.CYCLE. -/
def RING_CYCLE_NUM_CYCLE : Fld := ⟨A.RING_CYCLE_NUM, 0, 32⟩
/-- RING_OFS_LO.OFS. -/
def RING_OFS_LO_OFS : Fld := ⟨A.RING_OFS_LO, 0, 32⟩
/-- RING_OFS_HI.OFS. -/
def RING_OFS_HI_OFS : Fld := ⟨A.RING_OFS_HI, 0, 32⟩
/-- RING_ETH_RX.POOL. -/
def RING_ETH_RX_POOL : Fld := ⟨A.RING_ETH_RX, 0, 4⟩
/-- RING_ETH_RX.ACCOUNT. -/
def RING_ETH_RX_ACCOUNT : Fld := ⟨A.RING_ETH_RX, 8, 6⟩
/-- RING_ETH_RX.EN. -/
def RING_ETH_RX_EN : Fld := ⟨A.RING_ETH_RX, 16, 1⟩
/-- PORT_STATUS.LINK. -/
def PORT_STATUS_LINK (i : Nat) : Fld := ⟨A.PORT_STATUS i, 0, 2⟩
/-- PORT_STATUS.RATE. -/
def PORT_STATUS_RATE (i : Nat) : Fld := ⟨A.PORT_STATUS i, 2, 1⟩
/-- PORT_STATUS.LOSS_EST. -/
def PORT_STATUS_LOSS_EST (i : Nat) : Fld := ⟨A.PORT_STATUS i, 4, 10⟩
/-- PORT_STATUS.PEER_ADDR. -/
def PORT_STATUS_PEER_ADDR (i : Nat) : Fld := ⟨A.PORT_STATUS i, 16, 8⟩
/-- PORT_STATUS.PEER_SEQ. -/
def PORT_STATUS_PEER_SEQ (i : Nat) : Fld := ⟨A.PORT_STATUS i, 24, 8⟩
/-- PORT_DELAY.DELAY. -/
def PORT_DELAY_DELAY (i : Nat) : Fld := ⟨A.PORT_DELAY i, 0, 16⟩
/-- PORT_CRC_ERR_CNT.COUNT. -/
def PORT_CRC_ERR_CNT_COUNT (i : Nat) : Fld := ⟨A.PORT_CRC_ERR_CNT i, 0, 32⟩
/-- PORT_CUT_CNT.COUNT. -/
def PORT_CUT_CNT_COUNT (i : Nat) : Fld := ⟨A.PORT_CUT_CNT i, 0, 32⟩
/-- PORT_DOWN_CNT.COUNT. -/
def PORT_DOWN_CNT_COUNT (i : Nat) : Fld := ⟨A.PORT_DOWN_CNT i, 0, 32⟩
/-- PORT_LEN_ERR_CNT.COUNT. -/
def PORT_LEN_ERR_CNT_COUNT (i : Nat) : Fld := ⟨A.PORT_LEN_ERR_CNT i, 0, 32⟩
/-- PORT_HOPS_DROP_CNT.COUNT. -/
def PORT_HOPS_DROP_CNT_COUNT (i : Nat) : Fld := ⟨A.PORT_HOPS_DROP_CNT i, 0, 32⟩
/-- SPLICE_OK_CNT.COUNT. -/
def SPLICE_OK_CNT_COUNT : Fld := ⟨A.SPLICE_OK_CNT, 0, 32⟩
/-- SPLICE_FAIL_CNT.COUNT. -/
def SPLICE_FAIL_CNT_COUNT : Fld := ⟨A.SPLICE_FAIL_CNT, 0, 32⟩
/-- SPLICE_DEFER_CNT.COUNT. -/
def SPLICE_DEFER_CNT_COUNT : Fld := ⟨A.SPLICE_DEFER_CNT, 0, 32⟩
/-- SWEEP_LOST_CNT.COUNT. -/
def SWEEP_LOST_CNT_COUNT : Fld := ⟨A.SWEEP_LOST_CNT, 0, 32⟩
/-- SWEEP_BAD_CNT.COUNT. -/
def SWEEP_BAD_CNT_COUNT : Fld := ⟨A.SWEEP_BAD_CNT, 0, 32⟩
/-- ELECTION_CNT.COUNT. -/
def ELECTION_CNT_COUNT : Fld := ⟨A.ELECTION_CNT, 0, 32⟩
/-- WRAP_CNT.COUNT. -/
def WRAP_CNT_COUNT : Fld := ⟨A.WRAP_CNT, 0, 32⟩
/-- RING_ETH_TX_ERR_CNT.COUNT. -/
def RING_ETH_TX_ERR_CNT_COUNT : Fld := ⟨A.RING_ETH_TX_ERR_CNT, 0, 32⟩
/-- SWEEP_ATTEND_STAT.STALE. -/
def SWEEP_ATTEND_STAT_STALE : Fld := ⟨A.SWEEP_ATTEND_STAT, 0, 1⟩
/-- PDM_RX.OFF. -/
def PDM_RX_OFF (i : Nat) : Fld := ⟨A.PDM_RX i, 0, 11⟩
/-- PDM_RX.LEN. -/
def PDM_RX_LEN (i : Nat) : Fld := ⟨A.PDM_RX i, 12, 11⟩
/-- PDM_RX.EN. -/
def PDM_RX_EN (i : Nat) : Fld := ⟨A.PDM_RX i, 31, 1⟩
/-- PDM_RX_IMG.ADDR. -/
def PDM_RX_IMG_ADDR (i : Nat) : Fld := ⟨A.PDM_RX_IMG i, 0, 32⟩
/-- PDM_RX_BANK.FRONT. -/
def PDM_RX_BANK_FRONT (i : Nat) : Fld := ⟨A.PDM_RX_BANK i, 0, 1⟩
/-- PDM_RX_BANK.STALE. -/
def PDM_RX_BANK_STALE (i : Nat) : Fld := ⟨A.PDM_RX_BANK i, 1, 1⟩
/-- PDM_TX.OFF. -/
def PDM_TX_OFF (i : Nat) : Fld := ⟨A.PDM_TX i, 0, 11⟩
/-- PDM_TX.LEN. -/
def PDM_TX_LEN (i : Nat) : Fld := ⟨A.PDM_TX i, 12, 11⟩
/-- PDM_TX.EN. -/
def PDM_TX_EN (i : Nat) : Fld := ⟨A.PDM_TX i, 31, 1⟩
/-- PDM_TX_IMG.ADDR. -/
def PDM_TX_IMG_ADDR (i : Nat) : Fld := ⟨A.PDM_TX_IMG i, 0, 32⟩
/-- PDM_TX_BANK.FRONT. -/
def PDM_TX_BANK_FRONT (i : Nat) : Fld := ⟨A.PDM_TX_BANK i, 0, 1⟩
/-- PDM_TX_BANK.PENDING. -/
def PDM_TX_BANK_PENDING (i : Nat) : Fld := ⟨A.PDM_TX_BANK i, 1, 1⟩
/-- UPL_CTL.EN. -/
def UPL_CTL_EN (i : Nat) : Fld := ⟨A.UPL_CTL i, 0, 1⟩
/-- UPL_CTL.PROMISC. -/
def UPL_CTL_PROMISC (i : Nat) : Fld := ⟨A.UPL_CTL i, 1, 1⟩
/-- UPL_CTL.PAUSE_RX_EN. -/
def UPL_CTL_PAUSE_RX_EN (i : Nat) : Fld := ⟨A.UPL_CTL i, 2, 1⟩
/-- UPL_CTL.PAUSE_TX_EN. -/
def UPL_CTL_PAUSE_TX_EN (i : Nat) : Fld := ⟨A.UPL_CTL i, 3, 1⟩
/-- UPL_CTL.RS. -/
def UPL_CTL_RS (i : Nat) : Fld := ⟨A.UPL_CTL i, 4, 1⟩
/-- UPL_MAC_LO.MAC. -/
def UPL_MAC_LO_MAC (i : Nat) : Fld := ⟨A.UPL_MAC_LO i, 0, 32⟩
/-- UPL_MAC_HI.MAC. -/
def UPL_MAC_HI_MAC (i : Nat) : Fld := ⟨A.UPL_MAC_HI i, 0, 16⟩
/-- UPL_ING.POOL. -/
def UPL_ING_POOL (i : Nat) : Fld := ⟨A.UPL_ING i, 0, 4⟩
/-- UPL_ING.ACCOUNT. -/
def UPL_ING_ACCOUNT (i : Nat) : Fld := ⟨A.UPL_ING i, 8, 6⟩
/-- UPL_STATUS.BLOCK_LOCK. -/
def UPL_STATUS_BLOCK_LOCK (i : Nat) : Fld := ⟨A.UPL_STATUS i, 0, 1⟩
/-- UPL_STATUS.UP. -/
def UPL_STATUS_UP (i : Nat) : Fld := ⟨A.UPL_STATUS i, 1, 1⟩
/-- UPL_STATUS.MOD_ABS. -/
def UPL_STATUS_MOD_ABS (i : Nat) : Fld := ⟨A.UPL_STATUS i, 2, 1⟩
/-- UPL_STATUS.LOS. -/
def UPL_STATUS_LOS (i : Nat) : Fld := ⟨A.UPL_STATUS i, 3, 1⟩
/-- UPL_STATUS.TX_FAULT. -/
def UPL_STATUS_TX_FAULT (i : Nat) : Fld := ⟨A.UPL_STATUS i, 4, 1⟩
/-- UPL_STATUS.PAUSED. -/
def UPL_STATUS_PAUSED (i : Nat) : Fld := ⟨A.UPL_STATUS i, 5, 1⟩
/-- UPL_STATUS.XOFF. -/
def UPL_STATUS_XOFF (i : Nat) : Fld := ⟨A.UPL_STATUS i, 6, 1⟩
/-- UPL_STATUS.LINK_CHG. -/
def UPL_STATUS_LINK_CHG (i : Nat) : Fld := ⟨A.UPL_STATUS i, 16, 1⟩
/-- UPL_PAUSE.QUANTA. -/
def UPL_PAUSE_QUANTA (i : Nat) : Fld := ⟨A.UPL_PAUSE i, 0, 16⟩
/-- UPL_XOFF_THR.COUNT. -/
def UPL_XOFF_THR_COUNT (i : Nat) : Fld := ⟨A.UPL_XOFF_THR i, 0, 21⟩
/-- UPL_XON_THR.COUNT. -/
def UPL_XON_THR_COUNT (i : Nat) : Fld := ⟨A.UPL_XON_THR i, 0, 21⟩
/-- UPL_TS_ADJ.RX. -/
def UPL_TS_ADJ_RX (i : Nat) : Fld := ⟨A.UPL_TS_ADJ i, 0, 16⟩
/-- UPL_TS_ADJ.TX. -/
def UPL_TS_ADJ_TX (i : Nat) : Fld := ⟨A.UPL_TS_ADJ i, 16, 16⟩
/-- UPL_PTP_CTL.RX_EN. -/
def UPL_PTP_CTL_RX_EN (i : Nat) : Fld := ⟨A.UPL_PTP_CTL i, 0, 1⟩
/-- UPL_PTP_CTL.TX_EN. -/
def UPL_PTP_CTL_TX_EN (i : Nat) : Fld := ⟨A.UPL_PTP_CTL i, 1, 1⟩
/-- UPL_PTP_CTL.RX_ALL. -/
def UPL_PTP_CTL_RX_ALL (i : Nat) : Fld := ⟨A.UPL_PTP_CTL i, 2, 1⟩
/-- UPL_PTP_CTL.UDP_EN. -/
def UPL_PTP_CTL_UDP_EN (i : Nat) : Fld := ⟨A.UPL_PTP_CTL i, 3, 1⟩
/-- UPL_RX_OK_CNT.COUNT. -/
def UPL_RX_OK_CNT_COUNT (i : Nat) : Fld := ⟨A.UPL_RX_OK_CNT i, 0, 32⟩
/-- UPL_RX_DROP_CNT.COUNT. -/
def UPL_RX_DROP_CNT_COUNT (i : Nat) : Fld := ⟨A.UPL_RX_DROP_CNT i, 0, 32⟩
/-- UPL_RX_POOL_DROP_CNT.COUNT. -/
def UPL_RX_POOL_DROP_CNT_COUNT (i : Nat) : Fld := ⟨A.UPL_RX_POOL_DROP_CNT i, 0, 32⟩
/-- UPL_RX_TOO_LONG_CNT.COUNT. -/
def UPL_RX_TOO_LONG_CNT_COUNT (i : Nat) : Fld := ⟨A.UPL_RX_TOO_LONG_CNT i, 0, 32⟩
/-- UPL_RX_FCS_ERR_CNT.COUNT. -/
def UPL_RX_FCS_ERR_CNT_COUNT (i : Nat) : Fld := ⟨A.UPL_RX_FCS_ERR_CNT i, 0, 32⟩
/-- UPL_RX_SIZE_ERR_CNT.COUNT. -/
def UPL_RX_SIZE_ERR_CNT_COUNT (i : Nat) : Fld := ⟨A.UPL_RX_SIZE_ERR_CNT i, 0, 32⟩
/-- UPL_RX_CODE_ERR_CNT.COUNT. -/
def UPL_RX_CODE_ERR_CNT_COUNT (i : Nat) : Fld := ⟨A.UPL_RX_CODE_ERR_CNT i, 0, 32⟩
/-- UPL_RX_FILTERED_CNT.COUNT. -/
def UPL_RX_FILTERED_CNT_COUNT (i : Nat) : Fld := ⟨A.UPL_RX_FILTERED_CNT i, 0, 32⟩
/-- UPL_RX_MACCTL_CNT.COUNT. -/
def UPL_RX_MACCTL_CNT_COUNT (i : Nat) : Fld := ⟨A.UPL_RX_MACCTL_CNT i, 0, 32⟩
/-- UPL_RX_SCH_DROP_CNT.COUNT. -/
def UPL_RX_SCH_DROP_CNT_COUNT (i : Nat) : Fld := ⟨A.UPL_RX_SCH_DROP_CNT i, 0, 32⟩
/-- UPL_RX_PAUSE_CNT.COUNT. -/
def UPL_RX_PAUSE_CNT_COUNT (i : Nat) : Fld := ⟨A.UPL_RX_PAUSE_CNT i, 0, 32⟩
/-- UPL_TX_OK_CNT.COUNT. -/
def UPL_TX_OK_CNT_COUNT (i : Nat) : Fld := ⟨A.UPL_TX_OK_CNT i, 0, 32⟩
/-- UPL_TX_PAUSE_CNT.COUNT. -/
def UPL_TX_PAUSE_CNT_COUNT (i : Nat) : Fld := ⟨A.UPL_TX_PAUSE_CNT i, 0, 32⟩
/-- UPL_TX_DOWN_DROP_CNT.COUNT. -/
def UPL_TX_DOWN_DROP_CNT_COUNT (i : Nat) : Fld := ⟨A.UPL_TX_DOWN_DROP_CNT i, 0, 32⟩
/-- UPL_TX_LEN_ERR_CNT.COUNT. -/
def UPL_TX_LEN_ERR_CNT_COUNT (i : Nat) : Fld := ⟨A.UPL_TX_LEN_ERR_CNT i, 0, 32⟩
/-- UPL_TX_ABORT_CNT.COUNT. -/
def UPL_TX_ABORT_CNT_COUNT (i : Nat) : Fld := ⟨A.UPL_TX_ABORT_CNT i, 0, 32⟩
/-- RXTS_OVF_CNT.COUNT. -/
def RXTS_OVF_CNT_COUNT (i : Nat) : Fld := ⟨A.RXTS_OVF_CNT i, 0, 32⟩
/-- TXTS_OVF_CNT.COUNT. -/
def TXTS_OVF_CNT_COUNT (i : Nat) : Fld := ⟨A.TXTS_OVF_CNT i, 0, 32⟩
/-- CL_CTL.EN. -/
def CL_CTL_EN (i : Nat) : Fld := ⟨A.CL_CTL i, 0, 1⟩
/-- CL_CTL.RX_INV. -/
def CL_CTL_RX_INV (i : Nat) : Fld := ⟨A.CL_CTL i, 1, 1⟩
/-- CL_CTL.TX_INV. -/
def CL_CTL_TX_INV (i : Nat) : Fld := ⟨A.CL_CTL i, 2, 1⟩
/-- CL_ING.POOL. -/
def CL_ING_POOL (i : Nat) : Fld := ⟨A.CL_ING i, 0, 4⟩
/-- CL_ING.ACCOUNT. -/
def CL_ING_ACCOUNT (i : Nat) : Fld := ⟨A.CL_ING i, 8, 6⟩
/-- CL_STATUS.STATE. -/
def CL_STATUS_STATE (i : Nat) : Fld := ⟨A.CL_STATUS i, 0, 2⟩
/-- CL_STATUS.CHG. -/
def CL_STATUS_CHG (i : Nat) : Fld := ⟨A.CL_STATUS i, 16, 1⟩
/-- CL_RX_OK_CNT.COUNT. -/
def CL_RX_OK_CNT_COUNT (i : Nat) : Fld := ⟨A.CL_RX_OK_CNT i, 0, 32⟩
/-- CL_RX_DROP_CNT.COUNT. -/
def CL_RX_DROP_CNT_COUNT (i : Nat) : Fld := ⟨A.CL_RX_DROP_CNT i, 0, 32⟩
/-- CL_RX_POOL_DROP_CNT.COUNT. -/
def CL_RX_POOL_DROP_CNT_COUNT (i : Nat) : Fld := ⟨A.CL_RX_POOL_DROP_CNT i, 0, 32⟩
/-- CL_RX_TOO_LONG_CNT.COUNT. -/
def CL_RX_TOO_LONG_CNT_COUNT (i : Nat) : Fld := ⟨A.CL_RX_TOO_LONG_CNT i, 0, 32⟩
/-- CL_RX_CRC_ERR_CNT.COUNT. -/
def CL_RX_CRC_ERR_CNT_COUNT (i : Nat) : Fld := ⟨A.CL_RX_CRC_ERR_CNT i, 0, 32⟩
/-- CL_RX_LEN_ERR_CNT.COUNT. -/
def CL_RX_LEN_ERR_CNT_COUNT (i : Nat) : Fld := ⟨A.CL_RX_LEN_ERR_CNT i, 0, 32⟩
/-- CL_RX_ABORT_CNT.COUNT. -/
def CL_RX_ABORT_CNT_COUNT (i : Nat) : Fld := ⟨A.CL_RX_ABORT_CNT i, 0, 32⟩
/-- CL_RX_SCH_DROP_CNT.COUNT. -/
def CL_RX_SCH_DROP_CNT_COUNT (i : Nat) : Fld := ⟨A.CL_RX_SCH_DROP_CNT i, 0, 32⟩
/-- CL_TX_OK_CNT.COUNT. -/
def CL_TX_OK_CNT_COUNT (i : Nat) : Fld := ⟨A.CL_TX_OK_CNT i, 0, 32⟩
/-- CL_TX_DOWN_DROP_CNT.COUNT. -/
def CL_TX_DOWN_DROP_CNT_COUNT (i : Nat) : Fld := ⟨A.CL_TX_DOWN_DROP_CNT i, 0, 32⟩
/-- CL_TX_LEN_ERR_CNT.COUNT. -/
def CL_TX_LEN_ERR_CNT_COUNT (i : Nat) : Fld := ⟨A.CL_TX_LEN_ERR_CNT i, 0, 32⟩
/-- CL_DOWN_CNT.COUNT. -/
def CL_DOWN_CNT_COUNT (i : Nat) : Fld := ⟨A.CL_DOWN_CNT i, 0, 32⟩
/-- CL_TX_ABORT_CNT.COUNT. -/
def CL_TX_ABORT_CNT_COUNT (i : Nat) : Fld := ⟨A.CL_TX_ABORT_CNT i, 0, 32⟩
/-- DICT_STATE.STATE. -/
def DICT_STATE_STATE : Fld := ⟨A.DICT_STATE, 0, 3⟩
/-- DICT_STATE.CHG. -/
def DICT_STATE_CHG : Fld := ⟨A.DICT_STATE, 8, 1⟩
/-- DICT_STATE_CMD.CMD. -/
def DICT_STATE_CMD_CMD : Fld := ⟨A.DICT_STATE_CMD, 0, 3⟩
/-- DICT_STATE_CMD.RESULT. -/
def DICT_STATE_CMD_RESULT : Fld := ⟨A.DICT_STATE_CMD, 8, 8⟩
/-- DICT_FW_CTL.READY. -/
def DICT_FW_CTL_READY : Fld := ⟨A.DICT_FW_CTL, 0, 1⟩
/-- DICT_FWD_TMO.MS. -/
def DICT_FWD_TMO_MS : Fld := ⟨A.DICT_FWD_TMO, 0, 16⟩
/-- DICT_FWD_BASE.ADDR. -/
def DICT_FWD_BASE_ADDR : Fld := ⟨A.DICT_FWD_BASE, 0, 32⟩
/-- DICT_SESS_CFG.IDLE_S. -/
def DICT_SESS_CFG_IDLE_S : Fld := ⟨A.DICT_SESS_CFG, 0, 16⟩
/-- DICT_SESS_COUNT.COUNT. -/
def DICT_SESS_COUNT_COUNT : Fld := ⟨A.DICT_SESS_COUNT, 0, 5⟩
/-- DICT_SUB_ADDR.ADDR. -/
def DICT_SUB_ADDR_ADDR : Fld := ⟨A.DICT_SUB_ADDR, 0, 32⟩
/-- DICT_RPL_BASE.BASE. -/
def DICT_RPL_BASE_BASE : Fld := ⟨A.DICT_RPL_BASE, 0, 32⟩
/-- DICT_RPL_SIZE.SIZE. -/
def DICT_RPL_SIZE_SIZE : Fld := ⟨A.DICT_RPL_SIZE, 0, 8⟩
/-- DICT_RPL_WR.WR. -/
def DICT_RPL_WR_WR : Fld := ⟨A.DICT_RPL_WR, 0, 8⟩
/-- DICT_RPL_RD.RD. -/
def DICT_RPL_RD_RD : Fld := ⟨A.DICT_RPL_RD, 0, 8⟩
/-- DICT_PD_LEAD.US. -/
def DICT_PD_LEAD_US : Fld := ⟨A.DICT_PD_LEAD, 0, 10⟩
/-- DICT_REQ_CNT.COUNT. -/
def DICT_REQ_CNT_COUNT : Fld := ⟨A.DICT_REQ_CNT, 0, 32⟩
/-- DICT_DROP_CNT.COUNT. -/
def DICT_DROP_CNT_COUNT : Fld := ⟨A.DICT_DROP_CNT, 0, 32⟩
/-- DICT_AUTH_CNT.COUNT. -/
def DICT_AUTH_CNT_COUNT : Fld := ⟨A.DICT_AUTH_CNT, 0, 32⟩
/-- DICT_BUSY_CNT.COUNT. -/
def DICT_BUSY_CNT_COUNT : Fld := ⟨A.DICT_BUSY_CNT, 0, 32⟩
/-- DICT_FWD_LATE_CNT.COUNT. -/
def DICT_FWD_LATE_CNT_COUNT : Fld := ⟨A.DICT_FWD_LATE_CNT, 0, 32⟩
/-- DICT_PD_SKIP_CNT.COUNT. -/
def DICT_PD_SKIP_CNT_COUNT : Fld := ⟨A.DICT_PD_SKIP_CNT, 0, 32⟩
/-- DICT_RPL_LOST_CNT.COUNT. -/
def DICT_RPL_LOST_CNT_COUNT : Fld := ⟨A.DICT_RPL_LOST_CNT, 0, 32⟩
/-- DECL_0.SUB_LAST. -/
def DECL_0_SUB_LAST (i : Nat) : Fld := ⟨A.DECL_0 i, 0, 8⟩
/-- DECL_0.SUB_FIRST. -/
def DECL_0_SUB_FIRST (i : Nat) : Fld := ⟨A.DECL_0 i, 8, 8⟩
/-- DECL_0.INDEX. -/
def DECL_0_INDEX (i : Nat) : Fld := ⟨A.DECL_0 i, 16, 16⟩
/-- DECL_1.TYPE. -/
def DECL_1_TYPE (i : Nat) : Fld := ⟨A.DECL_1 i, 0, 8⟩
/-- DECL_1.ACCESS. -/
def DECL_1_ACCESS (i : Nat) : Fld := ⟨A.DECL_1 i, 8, 8⟩
/-- DECL_1.STATES. -/
def DECL_1_STATES (i : Nat) : Fld := ⟨A.DECL_1 i, 16, 6⟩
/-- DECL_1.EN. -/
def DECL_1_EN (i : Nat) : Fld := ⟨A.DECL_1 i, 31, 1⟩
/-- DECL_MAXLEN.MAXLEN. -/
def DECL_MAXLEN_MAXLEN (i : Nat) : Fld := ⟨A.DECL_MAXLEN i, 0, 16⟩
/-- DECL_MIN_LO.MIN. -/
def DECL_MIN_LO_MIN (i : Nat) : Fld := ⟨A.DECL_MIN_LO i, 0, 32⟩
/-- DECL_MIN_HI.MIN. -/
def DECL_MIN_HI_MIN (i : Nat) : Fld := ⟨A.DECL_MIN_HI i, 0, 32⟩
/-- DECL_MAX_LO.MAX. -/
def DECL_MAX_LO_MAX (i : Nat) : Fld := ⟨A.DECL_MAX_LO i, 0, 32⟩
/-- DECL_MAX_HI.MAX. -/
def DECL_MAX_HI_MAX (i : Nat) : Fld := ⟨A.DECL_MAX_HI i, 0, 32⟩
/-- DECL_DEF_LO.DEFAULT. -/
def DECL_DEF_LO_DEFAULT (i : Nat) : Fld := ⟨A.DECL_DEF_LO i, 0, 32⟩
/-- DECL_DEF_HI.DEFAULT. -/
def DECL_DEF_HI_DEFAULT (i : Nat) : Fld := ⟨A.DECL_DEF_HI i, 0, 32⟩
/-- TMR_NOW_LO.NOW. -/
def TMR_NOW_LO_NOW : Fld := ⟨A.TMR_NOW_LO, 0, 32⟩
/-- TMR_NOW_HI.NOW. -/
def TMR_NOW_HI_NOW : Fld := ⟨A.TMR_NOW_HI, 0, 32⟩
/-- TMR_NOW_FRAC.FRAC. -/
def TMR_NOW_FRAC_FRAC : Fld := ⟨A.TMR_NOW_FRAC, 0, 32⟩
/-- TMR_REF.REF25_OK. -/
def TMR_REF_REF25_OK : Fld := ⟨A.TMR_REF, 0, 1⟩
/-- TMR_REF.XTAL_OK. -/
def TMR_REF_XTAL_OK : Fld := ⟨A.TMR_REF, 1, 1⟩
/-- TMR_REF.SRC. -/
def TMR_REF_SRC : Fld := ⟨A.TMR_REF, 2, 1⟩
/-- TMR_REF.STOPPED. -/
def TMR_REF_STOPPED : Fld := ⟨A.TMR_REF, 3, 1⟩
/-- TMR_TRIM.PPB. -/
def TMR_TRIM_PPB : Fld := ⟨A.TMR_TRIM, 0, 20⟩
/-- TMR_TRIM.SRC. -/
def TMR_TRIM_SRC : Fld := ⟨A.TMR_TRIM, 31, 1⟩
/-- TMR_XCAL.PPB. -/
def TMR_XCAL_PPB : Fld := ⟨A.TMR_XCAL, 0, 20⟩
/-- TMR_XCAL.VALID. -/
def TMR_XCAL_VALID : Fld := ⟨A.TMR_XCAL, 31, 1⟩
/-- TMR_EPOCH.EPOCH. -/
def TMR_EPOCH_EPOCH : Fld := ⟨A.TMR_EPOCH, 0, 8⟩
/-- TMR_CTL.EN. -/
def TMR_CTL_EN (i : Nat) : Fld := ⟨A.TMR_CTL i, 0, 1⟩
/-- TMR_CTL.AUTO_A. -/
def TMR_CTL_AUTO_A (i : Nat) : Fld := ⟨A.TMR_CTL i, 2, 1⟩
/-- TMR_CTL.AUTO_B. -/
def TMR_CTL_AUTO_B (i : Nat) : Fld := ⟨A.TMR_CTL i, 3, 1⟩
/-- TMR_CTL.ARM_A. -/
def TMR_CTL_ARM_A (i : Nat) : Fld := ⟨A.TMR_CTL i, 4, 1⟩
/-- TMR_CTL.ARM_B. -/
def TMR_CTL_ARM_B (i : Nat) : Fld := ⟨A.TMR_CTL i, 5, 1⟩
/-- TMR_CTL.MATCH_A. -/
def TMR_CTL_MATCH_A (i : Nat) : Fld := ⟨A.TMR_CTL i, 8, 1⟩
/-- TMR_CTL.MATCH_B. -/
def TMR_CTL_MATCH_B (i : Nat) : Fld := ⟨A.TMR_CTL i, 9, 1⟩
/-- TMR_DIV.DIV. -/
def TMR_DIV_DIV (i : Nat) : Fld := ⟨A.TMR_DIV i, 0, 25⟩
/-- TMR_COUNT_LO.COUNT. -/
def TMR_COUNT_LO_COUNT (i : Nat) : Fld := ⟨A.TMR_COUNT_LO i, 0, 32⟩
/-- TMR_COUNT_HI.COUNT. -/
def TMR_COUNT_HI_COUNT (i : Nat) : Fld := ⟨A.TMR_COUNT_HI i, 0, 32⟩
/-- TMR_CMP_A_LO.CMP. -/
def TMR_CMP_A_LO_CMP (i : Nat) : Fld := ⟨A.TMR_CMP_A_LO i, 0, 32⟩
/-- TMR_CMP_A_HI.CMP. -/
def TMR_CMP_A_HI_CMP (i : Nat) : Fld := ⟨A.TMR_CMP_A_HI i, 0, 32⟩
/-- TMR_CMP_B_LO.CMP. -/
def TMR_CMP_B_LO_CMP (i : Nat) : Fld := ⟨A.TMR_CMP_B_LO i, 0, 32⟩
/-- TMR_CMP_B_HI.CMP. -/
def TMR_CMP_B_HI_CMP (i : Nat) : Fld := ⟨A.TMR_CMP_B_HI i, 0, 32⟩
/-- TMR_STEP.STEP. -/
def TMR_STEP_STEP (i : Nat) : Fld := ⟨A.TMR_STEP i, 0, 32⟩
/-- CAP_CTL.EN. -/
def CAP_CTL_EN (i : Nat) : Fld := ⟨A.CAP_CTL i, 0, 1⟩
/-- CAP_CTL.INVERT. -/
def CAP_CTL_INVERT (i : Nat) : Fld := ⟨A.CAP_CTL i, 1, 1⟩
/-- CAP_CTL.FILT. -/
def CAP_CTL_FILT (i : Nat) : Fld := ⟨A.CAP_CTL i, 16, 16⟩
/-- CAP_STAT.FRESH. -/
def CAP_STAT_FRESH (i : Nat) : Fld := ⟨A.CAP_STAT i, 0, 1⟩
/-- CAP_STAT.OVR. -/
def CAP_STAT_OVR (i : Nat) : Fld := ⟨A.CAP_STAT i, 1, 1⟩
/-- CAP_STAT.FIRST. -/
def CAP_STAT_FIRST (i : Nat) : Fld := ⟨A.CAP_STAT i, 2, 1⟩
/-- CAP_STAT.WSAT. -/
def CAP_STAT_WSAT (i : Nat) : Fld := ⟨A.CAP_STAT i, 3, 1⟩
/-- CAP_STAT.PSAT. -/
def CAP_STAT_PSAT (i : Nat) : Fld := ⟨A.CAP_STAT i, 4, 1⟩
/-- CAP_STAT.EPOCH_RISE. -/
def CAP_STAT_EPOCH_RISE (i : Nat) : Fld := ⟨A.CAP_STAT i, 8, 8⟩
/-- CAP_STAT.EPOCH_FALL. -/
def CAP_STAT_EPOCH_FALL (i : Nat) : Fld := ⟨A.CAP_STAT i, 16, 8⟩
/-- CAP_SEQ.SEQ. -/
def CAP_SEQ_SEQ (i : Nat) : Fld := ⟨A.CAP_SEQ i, 0, 32⟩
/-- CAP_RISE_LO.TIME. -/
def CAP_RISE_LO_TIME (i : Nat) : Fld := ⟨A.CAP_RISE_LO i, 0, 32⟩
/-- CAP_RISE_HI.TIME. -/
def CAP_RISE_HI_TIME (i : Nat) : Fld := ⟨A.CAP_RISE_HI i, 0, 32⟩
/-- CAP_FALL_LO.TIME. -/
def CAP_FALL_LO_TIME (i : Nat) : Fld := ⟨A.CAP_FALL_LO i, 0, 32⟩
/-- CAP_FALL_HI.TIME. -/
def CAP_FALL_HI_TIME (i : Nat) : Fld := ⟨A.CAP_FALL_HI i, 0, 32⟩
/-- CAP_WIDTH.NS. -/
def CAP_WIDTH_NS (i : Nat) : Fld := ⟨A.CAP_WIDTH i, 0, 32⟩
/-- CAP_PERIOD.NS. -/
def CAP_PERIOD_NS (i : Nat) : Fld := ⟨A.CAP_PERIOD i, 0, 32⟩
/-- SIO_CFG.MODE. -/
def SIO_CFG_MODE (i : Nat) : Fld := ⟨A.SIO_CFG i, 0, 2⟩
/-- SIO_CFG.LEVEL. -/
def SIO_CFG_LEVEL (i : Nat) : Fld := ⟨A.SIO_CFG i, 2, 1⟩
/-- SIO_CFG.OUT. -/
def SIO_CFG_OUT (i : Nat) : Fld := ⟨A.SIO_CFG i, 3, 1⟩
/-- SIO_CFG.TIMER. -/
def SIO_CFG_TIMER (i : Nat) : Fld := ⟨A.SIO_CFG i, 4, 5⟩
/-- SIO_CFG.ACT_A. -/
def SIO_CFG_ACT_A (i : Nat) : Fld := ⟨A.SIO_CFG i, 10, 2⟩
/-- SIO_CFG.ACT_B. -/
def SIO_CFG_ACT_B (i : Nat) : Fld := ⟨A.SIO_CFG i, 12, 2⟩
/-- GPIO_CFG.DIR. -/
def GPIO_CFG_DIR (i : Nat) : Fld := ⟨A.GPIO_CFG i, 0, 1⟩
/-- GPIO_CFG.LEVEL. -/
def GPIO_CFG_LEVEL (i : Nat) : Fld := ⟨A.GPIO_CFG i, 1, 1⟩
/-- GPIO_CFG.OUT. -/
def GPIO_CFG_OUT (i : Nat) : Fld := ⟨A.GPIO_CFG i, 2, 1⟩
/-- PWR_LOOP_CTL.MODE. -/
def PWR_LOOP_CTL_MODE : Fld := ⟨A.PWR_LOOP_CTL, 0, 1⟩
/-- PWR_FIXED.MV. -/
def PWR_FIXED_MV : Fld := ⟨A.PWR_FIXED, 0, 10⟩
/-- PWR_ENV_MIN.MV. -/
def PWR_ENV_MIN_MV : Fld := ⟨A.PWR_ENV_MIN, 0, 10⟩
/-- PWR_ENV_MAX.MV. -/
def PWR_ENV_MAX_MV : Fld := ⟨A.PWR_ENV_MAX, 0, 10⟩
/-- PWR_VCORE.MV. -/
def PWR_VCORE_MV : Fld := ⟨A.PWR_VCORE, 0, 10⟩
/-- PWR_VSAFE.MV. -/
def PWR_VSAFE_MV : Fld := ⟨A.PWR_VSAFE, 0, 10⟩
/-- PWR_LOOP_STAT.LIMIT. -/
def PWR_LOOP_STAT_LIMIT : Fld := ⟨A.PWR_LOOP_STAT, 0, 1⟩
/-- PWR_LOOP_STAT.ENVELOPE_CONFLICT. -/
def PWR_LOOP_STAT_ENVELOPE_CONFLICT : Fld := ⟨A.PWR_LOOP_STAT, 1, 1⟩
/-- PWR_LOOP_STAT.BELOW_MIN. -/
def PWR_LOOP_STAT_BELOW_MIN : Fld := ⟨A.PWR_LOOP_STAT, 2, 1⟩
/-- PWR_LOOP_STAT.LIMIT_NOW. -/
def PWR_LOOP_STAT_LIMIT_NOW : Fld := ⟨A.PWR_LOOP_STAT, 8, 1⟩
/-- PWR_LOOP_STAT.CONFLICT_NOW. -/
def PWR_LOOP_STAT_CONFLICT_NOW : Fld := ⟨A.PWR_LOOP_STAT, 9, 1⟩
/-- PWR_LOOP_STAT.EMERG_NOW. -/
def PWR_LOOP_STAT_EMERG_NOW : Fld := ⟨A.PWR_LOOP_STAT, 10, 1⟩
/-- PWR_UP_BACKLOG.COUNT. -/
def PWR_UP_BACKLOG_COUNT : Fld := ⟨A.PWR_UP_BACKLOG, 0, 17⟩
/-- PWR_DOWN_BACKLOG.COUNT. -/
def PWR_DOWN_BACKLOG_COUNT : Fld := ⟨A.PWR_DOWN_BACKLOG, 0, 17⟩
/-- PWR_UP_FE.COUNT. -/
def PWR_UP_FE_COUNT : Fld := ⟨A.PWR_UP_FE, 0, 16⟩
/-- PWR_DOWN_FE.COUNT. -/
def PWR_DOWN_FE_COUNT : Fld := ⟨A.PWR_DOWN_FE, 0, 16⟩
/-- PWR_BACKLOG.PEAK. -/
def PWR_BACKLOG_PEAK : Fld := ⟨A.PWR_BACKLOG, 0, 17⟩
/-- PWR_FE.PEAK. -/
def PWR_FE_PEAK : Fld := ⟨A.PWR_FE, 0, 17⟩
/-- PWR_TJ_MAX.TEMP. -/
def PWR_TJ_MAX_TEMP : Fld := ⟨A.PWR_TJ_MAX, 0, 16⟩
/-- PWR_THERM_SOFT.TEMP. -/
def PWR_THERM_SOFT_TEMP : Fld := ⟨A.PWR_THERM_SOFT, 0, 16⟩
/-- PWR_THERM_EMERG.TEMP. -/
def PWR_THERM_EMERG_TEMP : Fld := ⟨A.PWR_THERM_EMERG, 0, 16⟩
/-- PWR_THERM_TRIP.TEMP. -/
def PWR_THERM_TRIP_TEMP : Fld := ⟨A.PWR_THERM_TRIP, 0, 16⟩
/-- PWR_THERM_STAT.TRIPPED. -/
def PWR_THERM_STAT_TRIPPED : Fld := ⟨A.PWR_THERM_STAT, 0, 1⟩
/-- PWR_THERM_STAT.CAUSE. -/
def PWR_THERM_STAT_CAUSE : Fld := ⟨A.PWR_THERM_STAT, 1, 2⟩
/-- PWR_TEMP.TEMP. -/
def PWR_TEMP_TEMP (i : Nat) : Fld := ⟨A.PWR_TEMP i, 0, 16⟩
/-- PWR_SBY_CTL.DRAIN_MS. -/
def PWR_SBY_CTL_DRAIN_MS : Fld := ⟨A.PWR_SBY_CTL, 0, 16⟩
/-- PWR_WAKE_EN.PIN. -/
def PWR_WAKE_EN_PIN : Fld := ⟨A.PWR_WAKE_EN, 0, 1⟩
/-- PWR_WAKE_EN.TIMER. -/
def PWR_WAKE_EN_TIMER : Fld := ⟨A.PWR_WAKE_EN, 1, 1⟩
/-- PWR_WAKE_EN.CAPTURE. -/
def PWR_WAKE_EN_CAPTURE : Fld := ⟨A.PWR_WAKE_EN, 2, 1⟩
/-- PWR_WAKE_CAUSE.CAUSE. -/
def PWR_WAKE_CAUSE_CAUSE : Fld := ⟨A.PWR_WAKE_CAUSE, 0, 2⟩
/-- PWR_WAKE_CAUSE.NUMBER. -/
def PWR_WAKE_CAUSE_NUMBER : Fld := ⟨A.PWR_WAKE_CAUSE, 8, 6⟩
/-- SYS_VENDOR.VENDOR. -/
def SYS_VENDOR_VENDOR : Fld := ⟨A.SYS_VENDOR, 0, 32⟩
/-- SYS_ID.PART. -/
def SYS_ID_PART : Fld := ⟨A.SYS_ID, 0, 16⟩
/-- SYS_ID.STEP. -/
def SYS_ID_STEP : Fld := ⟨A.SYS_ID, 16, 8⟩
/-- SYS_ID.GRADE. -/
def SYS_ID_GRADE : Fld := ⟨A.SYS_ID, 24, 1⟩
/-- SYS_SERIAL_LO.SERIAL. -/
def SYS_SERIAL_LO_SERIAL : Fld := ⟨A.SYS_SERIAL_LO, 0, 32⟩
/-- SYS_SERIAL_HI.SERIAL. -/
def SYS_SERIAL_HI_SERIAL : Fld := ⟨A.SYS_SERIAL_HI, 0, 32⟩
/-- SYS_ROM_VER.VERSION. -/
def SYS_ROM_VER_VERSION : Fld := ⟨A.SYS_ROM_VER, 0, 32⟩
/-- SYS_LC.STATE. -/
def SYS_LC_STATE : Fld := ⟨A.SYS_LC, 0, 3⟩
/-- SYS_LC.PENDING. -/
def SYS_LC_PENDING : Fld := ⟨A.SYS_LC, 4, 3⟩
/-- SYS_LC.FAULT. -/
def SYS_LC_FAULT : Fld := ⟨A.SYS_LC, 8, 1⟩
/-- SYS_LC.CMD_ERR. -/
def SYS_LC_CMD_ERR : Fld := ⟨A.SYS_LC, 9, 1⟩
/-- SYS_LC.ERR_CAUSE. -/
def SYS_LC_ERR_CAUSE : Fld := ⟨A.SYS_LC, 12, 2⟩
/-- SYS_LC_CMD.CMD. -/
def SYS_LC_CMD_CMD : Fld := ⟨A.SYS_LC_CMD, 0, 3⟩
/-- SYS_BOOT.SLOT. -/
def SYS_BOOT_SLOT : Fld := ⟨A.SYS_BOOT, 0, 1⟩
/-- SYS_BOOT.FALLBACK. -/
def SYS_BOOT_FALLBACK : Fld := ⟨A.SYS_BOOT, 2, 1⟩
/-- SYS_BOOT.STATUS. -/
def SYS_BOOT_STATUS : Fld := ⟨A.SYS_BOOT, 4, 3⟩
/-- SYS_BOOT.FAIL_A. -/
def SYS_BOOT_FAIL_A : Fld := ⟨A.SYS_BOOT, 8, 4⟩
/-- SYS_BOOT.FAIL_B. -/
def SYS_BOOT_FAIL_B : Fld := ⟨A.SYS_BOOT, 12, 4⟩
/-- SYS_BOOT_VER.VERSION. -/
def SYS_BOOT_VER_VERSION : Fld := ⟨A.SYS_BOOT_VER, 0, 32⟩
/-- SYS_BOOT_TRY.TRY_A. -/
def SYS_BOOT_TRY_TRY_A : Fld := ⟨A.SYS_BOOT_TRY, 0, 2⟩
/-- SYS_BOOT_TRY.OK_A. -/
def SYS_BOOT_TRY_OK_A : Fld := ⟨A.SYS_BOOT_TRY, 2, 1⟩
/-- SYS_BOOT_TRY.TRY_B. -/
def SYS_BOOT_TRY_TRY_B : Fld := ⟨A.SYS_BOOT_TRY, 4, 2⟩
/-- SYS_BOOT_TRY.OK_B. -/
def SYS_BOOT_TRY_OK_B : Fld := ⟨A.SYS_BOOT_TRY, 6, 1⟩
/-- SYS_RST_CAUSE.CAUSE. -/
def SYS_RST_CAUSE_CAUSE : Fld := ⟨A.SYS_RST_CAUSE, 0, 8⟩
/-- SYS_PCORE_CTL.RUN_1. -/
def SYS_PCORE_CTL_RUN_1 : Fld := ⟨A.SYS_PCORE_CTL, 1, 1⟩
/-- SYS_PCORE_ENTRY_LO.ENTRY. -/
def SYS_PCORE_ENTRY_LO_ENTRY (i : Nat) : Fld := ⟨A.SYS_PCORE_ENTRY_LO i, 0, 32⟩
/-- SYS_PCORE_ENTRY_HI.ENTRY. -/
def SYS_PCORE_ENTRY_HI_ENTRY (i : Nat) : Fld := ⟨A.SYS_PCORE_ENTRY_HI i, 0, 8⟩
/-- SYS_WDT_CTL.EN. -/
def SYS_WDT_CTL_EN : Fld := ⟨A.SYS_WDT_CTL, 0, 1⟩
/-- SYS_WDT_CTL.TIMEOUT_MS. -/
def SYS_WDT_CTL_TIMEOUT_MS : Fld := ⟨A.SYS_WDT_CTL, 16, 16⟩
/-- SYS_OTP_ADDR.WORD. -/
def SYS_OTP_ADDR_WORD : Fld := ⟨A.SYS_OTP_ADDR, 0, 8⟩
/-- SYS_OTP_STAT.BUSY. -/
def SYS_OTP_STAT_BUSY : Fld := ⟨A.SYS_OTP_STAT, 0, 1⟩
/-- SYS_OTP_STAT.ERR. -/
def SYS_OTP_STAT_ERR : Fld := ⟨A.SYS_OTP_STAT, 1, 1⟩
/-- SYS_OTP_STAT.CAUSE. -/
def SYS_OTP_STAT_CAUSE : Fld := ⟨A.SYS_OTP_STAT, 2, 2⟩
/-- SYS_DBG_STAT.LEVEL. -/
def SYS_DBG_STAT_LEVEL : Fld := ⟨A.SYS_DBG_STAT, 0, 2⟩
/-- SYS_DBG_STAT.LOCKOUT. -/
def SYS_DBG_STAT_LOCKOUT : Fld := ⟨A.SYS_DBG_STAT, 2, 1⟩
/-- REC_CTL.POST_TRIG. -/
def REC_CTL_POST_TRIG : Fld := ⟨A.REC_CTL, 0, 8⟩
/-- REC_CTL.TRIG_PFAIL. -/
def REC_CTL_TRIG_PFAIL : Fld := ⟨A.REC_CTL, 8, 1⟩
/-- REC_CTL.TRIG_TRIP. -/
def REC_CTL_TRIG_TRIP : Fld := ⟨A.REC_CTL, 9, 1⟩
/-- REC_CTL.TRIG_PCORE. -/
def REC_CTL_TRIG_PCORE : Fld := ⟨A.REC_CTL, 10, 1⟩
/-- REC_CTL.TRIG_EN. -/
def REC_CTL_TRIG_EN : Fld := ⟨A.REC_CTL, 12, 4⟩
/-- REC_CMD.FREEZE. -/
def REC_CMD_FREEZE : Fld := ⟨A.REC_CMD, 0, 1⟩
/-- REC_CMD.UNFREEZE. -/
def REC_CMD_UNFREEZE : Fld := ⟨A.REC_CMD, 1, 1⟩
/-- REC_STATUS.COUNT. -/
def REC_STATUS_COUNT : Fld := ⟨A.REC_STATUS, 0, 13⟩
/-- REC_STATUS.FROZEN. -/
def REC_STATUS_FROZEN : Fld := ⟨A.REC_STATUS, 16, 1⟩
/-- REC_LOST.COUNT. -/
def REC_LOST_COUNT : Fld := ⟨A.REC_LOST, 0, 32⟩
/-- REC_TRIG.SOURCE. -/
def REC_TRIG_SOURCE (i : Nat) : Fld := ⟨A.REC_TRIG i, 0, 8⟩
/-- REC_TRIG.SRC_MASK. -/
def REC_TRIG_SRC_MASK (i : Nat) : Fld := ⟨A.REC_TRIG i, 8, 8⟩
/-- REC_TRIG.CODE. -/
def REC_TRIG_CODE (i : Nat) : Fld := ⟨A.REC_TRIG i, 16, 8⟩
/-- REC_TRIG.CODE_MASK. -/
def REC_TRIG_CODE_MASK (i : Nat) : Fld := ⟨A.REC_TRIG i, 24, 8⟩
/-- REC_RD_SEL.INDEX. -/
def REC_RD_SEL_INDEX : Fld := ⟨A.REC_RD_SEL, 0, 12⟩
/-- REC_FLUSH.EN. -/
def REC_FLUSH_EN : Fld := ⟨A.REC_FLUSH, 0, 1⟩
/-- REC_FLUSH_ADDR.ADDR. -/
def REC_FLUSH_ADDR_ADDR : Fld := ⟨A.REC_FLUSH_ADDR, 0, 32⟩
/-- REC_FLUSH_STAT.STARTED. -/
def REC_FLUSH_STAT_STARTED : Fld := ⟨A.REC_FLUSH_STAT, 0, 1⟩
/-- REC_FLUSH_STAT.DONE. -/
def REC_FLUSH_STAT_DONE : Fld := ⟨A.REC_FLUSH_STAT, 1, 1⟩
/-- REC_FLUSH_STAT.SKIPPED. -/
def REC_FLUSH_STAT_SKIPPED : Fld := ⟨A.REC_FLUSH_STAT, 2, 1⟩
/-- REC_FLUSH_STAT.COUNT. -/
def REC_FLUSH_STAT_COUNT : Fld := ⟨A.REC_FLUSH_STAT, 16, 10⟩
/-- ST_CTL.CORE. -/
def ST_CTL_CORE : Fld := ⟨A.ST_CTL, 0, 6⟩
/-- ST_ADMIT.BACKLOG. -/
def ST_ADMIT_BACKLOG : Fld := ⟨A.ST_ADMIT, 0, 16⟩
/-- ST_ADMIT.DEADLINE. -/
def ST_ADMIT_DEADLINE : Fld := ⟨A.ST_ADMIT, 16, 16⟩
/-- ST_DRAIN_TMO.MS. -/
def ST_DRAIN_TMO_MS : Fld := ⟨A.ST_DRAIN_TMO, 0, 16⟩
/-- ST_STATUS.STATE. -/
def ST_STATUS_STATE : Fld := ⟨A.ST_STATUS, 0, 3⟩
/-- ST_STATUS.CORE. -/
def ST_STATUS_CORE : Fld := ⟨A.ST_STATUS, 8, 6⟩
/-- ST_RESULT.CORE. -/
def ST_RESULT_CORE : Fld := ⟨A.ST_RESULT, 0, 8⟩
/-- ST_RESULT.OUTCOME. -/
def ST_RESULT_OUTCOME : Fld := ⟨A.ST_RESULT, 8, 8⟩
/-- ST_RESULT.DETAIL. -/
def ST_RESULT_DETAIL : Fld := ⟨A.ST_RESULT, 16, 16⟩
/-- ST_MEM_CTL.POOLS. -/
def ST_MEM_CTL_POOLS : Fld := ⟨A.ST_MEM_CTL, 0, 16⟩
/-- ST_MEM_CTL.RATE. -/
def ST_MEM_CTL_RATE : Fld := ⟨A.ST_MEM_CTL, 16, 8⟩
/-- ST_MEM_CTL.EN. -/
def ST_MEM_CTL_EN : Fld := ⟨A.ST_MEM_CTL, 31, 1⟩
/-- ST_MEM_TESTED.COUNT. -/
def ST_MEM_TESTED_COUNT : Fld := ⟨A.ST_MEM_TESTED, 0, 32⟩
/-- ST_MEM_FAILED.COUNT. -/
def ST_MEM_FAILED_COUNT : Fld := ⟨A.ST_MEM_FAILED, 0, 32⟩
/-- ST_MEM_REFUSED.COUNT. -/
def ST_MEM_REFUSED_COUNT : Fld := ⟨A.ST_MEM_REFUSED, 0, 32⟩
/-- ST_RING_CAL.BUSY. -/
def ST_RING_CAL_BUSY : Fld := ⟨A.ST_RING_CAL, 8, 1⟩
/-- ST_RING_CAL.REFUSED. -/
def ST_RING_CAL_REFUSED : Fld := ⟨A.ST_RING_CAL, 9, 1⟩
/-- ST_RING_CAL.FAIL. -/
def ST_RING_CAL_FAIL : Fld := ⟨A.ST_RING_CAL, 10, 1⟩
/-- EXCH_STATUS.EPOCH. -/
def EXCH_STATUS_EPOCH : Fld := ⟨A.EXCH_STATUS, 0, 8⟩
/-- EXCH_STATUS.OLD_LEFT. -/
def EXCH_STATUS_OLD_LEFT : Fld := ⟨A.EXCH_STATUS, 8, 8⟩
/-- EXCH_STATUS.BUSY. -/
def EXCH_STATUS_BUSY : Fld := ⟨A.EXCH_STATUS, 16, 1⟩
/-- EXCH_STATUS.REFUSED. -/
def EXCH_STATUS_REFUSED : Fld := ⟨A.EXCH_STATUS, 17, 1⟩
/-- EXCH_START_LO.PC. -/
def EXCH_START_LO_PC (i : Nat) : Fld := ⟨A.EXCH_START_LO i, 0, 32⟩
/-- EXCH_START_HI.PC. -/
def EXCH_START_HI_PC (i : Nat) : Fld := ⟨A.EXCH_START_HI i, 0, 8⟩
/-- EXCH_TASK_LO.PC. -/
def EXCH_TASK_LO_PC (i : Nat) : Fld := ⟨A.EXCH_TASK_LO i, 0, 32⟩
/-- EXCH_TASK_HI.PC. -/
def EXCH_TASK_HI_PC (i : Nat) : Fld := ⟨A.EXCH_TASK_HI i, 0, 8⟩
/-- EXCH_PC_IMG_LO.ADDR. -/
def EXCH_PC_IMG_LO_ADDR : Fld := ⟨A.EXCH_PC_IMG_LO, 0, 32⟩
/-- EXCH_PC_IMG_HI.ADDR. -/
def EXCH_PC_IMG_HI_ADDR : Fld := ⟨A.EXCH_PC_IMG_HI, 0, 8⟩
/-- EXCH_PC_STAT.BUSY. -/
def EXCH_PC_STAT_BUSY : Fld := ⟨A.EXCH_PC_STAT, 0, 1⟩
/-- EXCH_PC_STAT.DONE. -/
def EXCH_PC_STAT_DONE : Fld := ⟨A.EXCH_PC_STAT, 1, 1⟩
/-- EXCH_PC_STAT.FAIL. -/
def EXCH_PC_STAT_FAIL : Fld := ⟨A.EXCH_PC_STAT, 4, 3⟩
/-- UART_CTL.EN. -/
def UART_CTL_EN : Fld := ⟨A.UART_CTL, 0, 1⟩
/-- UART_CTL.PARITY. -/
def UART_CTL_PARITY : Fld := ⟨A.UART_CTL, 1, 2⟩
/-- UART_CTL.STOP2. -/
def UART_CTL_STOP2 : Fld := ⟨A.UART_CTL, 3, 1⟩
/-- UART_STAT.RX_OVR. -/
def UART_STAT_RX_OVR : Fld := ⟨A.UART_STAT, 16, 1⟩
/-- UART_STAT.FRAME_ERR. -/
def UART_STAT_FRAME_ERR : Fld := ⟨A.UART_STAT, 17, 1⟩
/-- I2C_CTL.EN. -/
def I2C_CTL_EN : Fld := ⟨A.I2C_CTL, 0, 1⟩
/-- I2C_CMD.ADDR. -/
def I2C_CMD_ADDR : Fld := ⟨A.I2C_CMD, 0, 7⟩
/-- I2C_CMD.WLEN. -/
def I2C_CMD_WLEN : Fld := ⟨A.I2C_CMD, 8, 6⟩
/-- I2C_CMD.RLEN. -/
def I2C_CMD_RLEN : Fld := ⟨A.I2C_CMD, 16, 6⟩
/-- I2C_STAT.BUSY. -/
def I2C_STAT_BUSY : Fld := ⟨A.I2C_STAT, 0, 1⟩
/-- I2C_STAT.DONE. -/
def I2C_STAT_DONE : Fld := ⟨A.I2C_STAT, 1, 1⟩
/-- I2C_STAT.NACK. -/
def I2C_STAT_NACK : Fld := ⟨A.I2C_STAT, 2, 1⟩

end F

end Sys2Proof.Machine
end

