-- ==== Sys2Proof/Machine/State.lean ====
section
/-! DEFINITION. The state of the 4872 as plain data: the command queue, the M-bus register file, memory, threads, pools,
tasks, ports, the ring, the dictionary engine, station time, the recorder, and the machine right after reset. -/

namespace Sys2Proof.Machine

/-- Why a command stops the machine. The manual gives every command an effect or none at all on the state, so the one stop is
for a command whose operands no row of the table spells (safe: it stops where the hardware cannot be).-/
inductive Fault where
  /-- Raised by a meaning whose command is not well-formed (WellFormed.lean). Safe. -/
  | illFormed
  deriving DecidableEq, Repr

/-- Why a command has no meaning. -/
inductive Refusal where
  /-- The command's meaning is not written; raised by an arm of Dispatch.lean. Safe. -/
  | notModelled (mnemonic : String)
  deriving DecidableEq, Repr

/-! ### Memory -/

/-- A latent error in a stored word, found by its next reader (spec/02 R48, R49). -/
inductive Ecc where
  | good | correctable | uncorrectable
  deriving DecidableEq, Repr

/-- A line of a tile cache: its address / 64, whether it holds data that memory does not (WB), its eight words
(spec/02 R53, R667). -/
structure Line where
  tag : Nat
  dirty : Bool
  words : List Word
  deriving DecidableEq, Repr

/-- A set of a tile cache: eight ways and the seven bits of its tree pseudo-LRU (spec/02 R667). -/
structure CacheSet where
  ways : List (Option Line)
  plru : Nat
  deriving DecidableEq, Repr

/-- A set with eight invalid ways. -/
def CacheSet.empty : CacheSet := ⟨[none, none, none, none, none, none, none, none], 0⟩

/-- The ingot scrubber: whether a pass runs, the next word's address, station time (in ns) at the pass's start
(spec/02 R51). -/
structure Scrub where
  active : Bool
  pos : Nat
  start : Int
  deriving DecidableEq, Repr

/-- The patrol scrubber of an SDRAM channel (spec/02 R71): station time (in ns) at the start of its pass, and the byte offsets
that the pass has read. -/
structure Patrol where
  start : Int
  seen : Table Bool
  deriving DecidableEq, Repr

/-- A pass that has read nothing. -/
def Patrol.init : Patrol := ⟨0, []⟩

/-! ### Threads -/

/-- Thread life states (spec/03 Table 3.3). -/
inductive Life where
  | offline | idle | running | blocked | faulted | halted
  deriving DecidableEq, Repr

/-- A protection region as a set holds it (spec/05 R161, Table 5.7); BASE and LIMIT are address bits [39:6]. -/
structure Region where
  en : Bool
  base : Nat
  limit : Nat
  r : Bool
  w : Bool
  x : Bool
  cache : Nat
  order : Nat
  privOnly : Bool
  deriving DecidableEq, Repr

/-- A protection set and the account and generation it was loaded from (spec/05 R169, R174). -/
structure ProtSet where
  acct : Nat
  gen : Nat
  regions : List Region
  deriving DecidableEq, Repr

/-- A store on its way: its address, its size, the source word, its cacheability, and how many STRONG accesses the thread
had made before it (spec/02 R60, spec/05 R193, R673). -/
structure Posted where
  addr : Nat
  size : Nat
  data : Word
  cache : Nat
  mark : Nat
  deriving DecidableEq, Repr

/-- The posted-error slot (spec/05 R194, Table 5.5). -/
structure PErr where
  addr : Nat
  status : Nat
  cache : Nat
  further : Nat
  deriving DecidableEq, Repr

/-- An outstanding load: destination, size, sign extension, address, cacheability; for a RELAXED load, the registers and
pc at its issue and whether its destination has been overwritten by an instruction that ran past it (spec/02 Table 2.11). -/
structure PendLoad where
  rd : Reg
  size : Nat
  signed : Bool
  addr : Nat
  cache : Nat
  relaxed : Bool
  stale : Bool
  snapRegs : Table Word
  snapPc : Nat
  deriving DecidableEq, Repr

/-- A helper job as captured at HJOB (spec/03 R669): submitting thread and ticket, the helper named, the four
descriptor words, account, active set and privilege of the thread. -/
structure Job where
  thread : Nat
  ticket : Nat
  helper : Nat
  words : List Word
  acct : Nat
  regions : List Region
  priv : Bool
  deriving DecidableEq, Repr

/-- What a job comes to (spec/03 Table 3.8): its status, its 32-bit result, the bytes it writes (address, byte), and
whether it writes whole words only. -/
structure JobEnd where
  status : Nat
  result : Nat
  writes : List (Nat × List Byte)
  deriving DecidableEq, Repr

/-- A ticket of a thread (spec/03 R108 to R112). -/
inductive Ticket where
  | free
  | out
  | ended (word : Val)
  deriving DecidableEq, Repr

/-- The draining instructions (spec/05 R195). -/
inductive DrainKind where
  | fence | done | abort | getwork
  deriving DecidableEq, Repr

/-- What a thread waits for (spec/04 Table 4.11); a RELAXED store that waits at its target keeps the registers and the pc at
its issue, because A-pipe work runs past it (spec/02 Table 2.11). -/
inductive Wait where
  | load (p : PendLoad)
  | store (posted : Bool) (p : Posted)
  | relaxedStore (p : Posted) (snapRegs : Table Word) (snapPc : Nat)
  | hjob (rd : Reg) (ended : Option Nat) (j : Job)
  | hwait (rd : Reg) (ticket : Nat)
  | drain (k : DrainKind) (began : Option Nat)
  | work
  | waitev (rd : Reg)
  | send (rs1 : Reg)
  deriving DecidableEq, Repr

/-- A fault a thread has raised (spec/05 Table 5.2): code, INFO, pc, the budget counter at the fault, whether it arose at the
fetch, the draining instruction that raised it, and whether the thread was its tile's active supervisor then (R188). -/
structure FaultInfo where
  code : Nat
  info : Val
  pc : Nat
  used : Nat
  fetch : Bool
  drain : Option DrainKind
  sup : Bool
  deriving DecidableEq, Repr

/-- Where a thread's fault record stands (spec/05 R183, R672). -/
inductive RecState where
  | none
  | waiting
  | queued (task : Nat)
  | escalated
  | delivered
  deriving DecidableEq, Repr

/-- A hardware thread (spec/03 Table 3.2), with the pc of the instruction it issued last (THREAD_PC), the stores that a drain
timed out and that their targets may still perform (limbo), and the number of its STRONG accesses (spec/02 R60); 192 and 193 are the Puppeteer cores, with EVPEND and EVMASK (spec/04
Table 4.13). -/
structure Thread where
  life : Life
  saved : Life
  pc : Nat
  lastPc : Nat
  regs : Table Word
  acct : Nat
  selB : Bool
  setA : ProtSet
  setB : ProtSet
  posted : List Posted
  limbo : List Posted
  strongs : Nat
  perr : Option PErr
  tickets : List Ticket
  lostFail : Option Val
  cancel : Bool
  run : Nat
  group : Nat
  held : Option Nat
  epoch : Nat
  oldProg : Bool
  wait : Option Wait
  haltPend : Bool
  idleSeq : Nat
  getPc : Nat
  fault : Option FaultInfo
  record : RecState
  failed : Bool
  evpend : Nat
  evmask : Nat
  deriving DecidableEq, Repr

/-- A set that no region of it covers an address. -/
def ProtSet.none : ProtSet := ⟨0, 0, []⟩

/-- Thread `n` after PORST_n or SYSRST_n (spec/03 R80, R82): OFFLINE, registers zero, group 15 for local threads 3
and 19. -/
def Thread.init (n : Nat) : Thread where
  life := .offline
  saved := .running
  pc := if n < 192 then 0x10000000 + n / 32 * 0x100000 else 0x10000000
  lastPc := if n < 192 then 0x10000000 + n / 32 * 0x100000 else 0x10000000
  regs := []
  acct := 0
  selB := false
  setA := ProtSet.none
  setB := ProtSet.none
  posted := []
  limbo := []
  strongs := 0
  perr := none
  tickets := [.free, .free, .free, .free]
  lostFail := none
  cancel := false
  run := 0
  group := if n < 192 ∧ (n % 32 = 3 ∨ n % 32 = 19) then 15 else 0
  held := none
  epoch := 0
  oldProg := false
  wait := none
  haltPend := false
  idleSeq := 0
  getPc := 0
  fault := none
  record := .none
  failed := false
  evpend := 0
  evmask := 0

/-- A helper: waiting jobs, oldest first, and the job it serves with what that comes to (spec/03 R105 to R113). -/
structure Helper where
  queue : List Job
  busy : Option (Job × JobEnd)
  deriving DecidableEq, Repr

/-! ### Pools -/

/-- A pool layout (spec/06 R205): size in bytes, base, count, metadata base. -/
structure Layout where
  size : Nat
  base : Nat
  count : Nat
  meta_ : Nat
  deriving DecidableEq, Repr

/-- A pool as the pool manager holds it: the layout it was last built under, the layout being built, the head of
the free list (0xFFFF_FFFF when empty), whether a layout field has changed since the last build. -/
structure Pool where
  built : Option Layout
  building : Option Layout
  head : Nat
  dirty : Bool
  deriving DecidableEq, Repr

/-- A pool that has not been built since reset (spec/06 R210). -/
def Pool.unbuilt : Pool := ⟨none, none, 0xFFFFFFFF, true⟩

/-- The leak audit's timer: station time in ns of the next expiry while PERIOD_S is non-zero (spec/06 R236). -/
structure Audit where
  next : Option Nat
  deriving DecidableEq, Repr

/-! ### Tasks -/

/-- A frame that a task passed to XMIT and that waits for its domain (spec/09 R314). -/
structure TxFrame where
  handle : Word
  port : Nat
  len : Nat
  domain : Nat
  deriving DecidableEq, Repr

/-- Where a task stands (spec/09 R313, R314). -/
inductive Stage where
  | waiting
  | ready (seq : Nat)
  | delivered (thread : Nat)
  | completed (status thread : Nat)
  deriving DecidableEq, Repr

/-- A task in flight (spec/09 Tables 9.1 to 9.3): arrival order, domain (none for a fault record), priority, group,
source, the four words, the account, the version held, how many exchanges had been committed at its enqueue, the thread whose
fault it records, where it stands, the XMIT frames it holds. -/
structure Task where
  seq : Nat
  serial : Nat
  domain : Option Nat
  prio : Nat
  group : Nat
  source : Nat
  words : List Word
  acct : Nat
  vheld : Bool
  version : Nat
  commits : Nat
  faultOf : Option Nat
  stage : Stage
  frames : List TxFrame
  deriving DecidableEq, Repr

/-- The scheduler (spec/09): arrival counter, SERIAL of each descriptor number, completion records not yet stored, oldest
first; per tile the fault records that wait for SUPV_ESC_REC and the thread whose record it holds (spec/05 R192); how many
worker exchanges have been committed (spec/17 R623). -/
structure Sched where
  seq : Nat
  serials : Table Nat
  cpl : List Nat
  esc : Table (List (Nat × List Val))
  escHeld : OTable Nat
  commits : Nat
  deriving DecidableEq, Repr

/-! ### Recorder -/

/-- A Pewter record without its time (spec/17 Table 17.1). -/
structure Rec where
  source : Nat
  code : Nat
  data : Nat
  deriving DecidableEq, Repr

/-- A stored record with its time stamp, station time in ns [47:0]. -/
structure Stored where
  time : Nat
  body : Rec
  deriving DecidableEq, Repr

/-- The Pewter recorder (spec/17): offered records, stored records (oldest first), the post-trigger count once a trigger
has come, whether it is frozen. -/
structure Recorder where
  offered : List Rec
  stored : List Stored
  post : Option Nat
  frozen : Bool
  deriving DecidableEq, Repr

/-! ### Ports -/

/-- A 66-bit block of a ring port (spec/10 R340, R341): the start block 0x78 with frame bytes 0 to 6, a data block, the terminate
block behind up to seven bytes, with or without the error control character, the idle block 0x1E. -/
inductive Block where
  | start (bytes : List Byte)
  | data (bytes : List Byte)
  | terminate (bytes : List Byte) (err : Bool)
  | idle
  deriving DecidableEq, Repr

/-- What a cell link sends (spec/11 Table 11.3): the idle pairs IDLE_0 and IDLE_1, /S/, a data byte, /T/, /E/. -/
inductive CellChar where
  | idle0 | idle1 | start | byte (b : Byte) | stop | abort
  deriving DecidableEq, Repr

/-- A read of the boot flash (spec/16 R566): command, address bytes, dummy cycles, whether the data come in quad mode, the clock
in kHz, the flash address, how many bytes. -/
structure FlashRead where
  cmd : Nat
  addrBytes : Nat
  dummy : Nat
  quad : Bool
  khz : Nat
  addr : Nat
  len : Nat
  deriving DecidableEq, Repr

/-- What leaves the part at its balls or its test port. (log entry 188, DEDUCED). -/
inductive Output where
  /-- A frame sent on an uplink, an egress port of Table 4.8; `good` is false when it was aborted. -/
  | frame (port : Nat) (data : List Byte) (good : Bool)
  /-- A pause frame sent on uplink `u` (spec/11 R406). -/
  | pause (u quanta : Nat)
  /-- What cell link `n` sends (spec/11 Table 11.3). -/
  | cell (n : Nat) (chars : List CellChar)
  /-- A frame in blocks on the transmit pair of ring port `p` (0 East, 1 West). -/
  | ring (p : Nat) (blocks : List Block)
  /-- An ordered set on ring port `p` (spec/10 Table 10.1): D1, D2, D3. -/
  | oset (p d1 d2 d3 : Nat)
  /-- Bytes that the SPI host port or the debug port answers (spec/12 Table 12.10, spec/17). -/
  | reply (data : List Byte)
  /-- A byte that the UART has sent: its parity bit where it has one, and its stop bits (spec/18 R658). -/
  | uart (data : Byte) (parity : Option Bool) (stops : Nat)
  /-- A transfer that the I2C controller has made (spec/18 R659): the address, the bytes written, the number of bytes read, and
  whether a NACK ended it. -/
  | i2c (addr : Nat) (written : List Byte) (read : Nat) (nack : Bool)
  /-- Bytes that the recorder's flush programs at a flash address (spec/17 Table 17.3). -/
  | flash (addr : Nat) (data : List Byte)
  /-- A read that the boot ROM makes of the boot flash. -/
  | flashRead (r : FlashRead)
  /-- What a data register of the TAP shifts out: its width and its value (spec/16 Table 16.6). -/
  | tdo (width value : Nat)
  /-- The voltage that the PWR block requests over AVSBus, in mV; 0: it switches VCORE off over PMBus (spec/15). -/
  | vcore (mv : Nat)
  deriving DecidableEq, Repr

/-- A port's transmit queue and the frames that wait for a place in it, oldest first (spec/11 R421). -/
structure PortQ where
  queue : List TxFrame
  line : List TxFrame
  deriving DecidableEq, Repr

/-- An empty transmit queue. -/
def PortQ.empty : PortQ := ⟨[], []⟩
/-! ### Uplinks, ingress, the parser, the classifier (spec/07, spec/08, spec/11) -/

/-- A timestamp FIFO entry (spec/11 R411). -/
structure TsEntry where
  key : Nat
  seqId : Nat
  msgType : Nat
  domain : Nat
  ns : Nat
  frac : Nat
  deriving DecidableEq, Repr

/-- A frame that its port has accepted and the classifier has not taken (spec/07 R246, R250): its handle, ingress port,
length, ARRIVAL, RING_SRC, the bank that it is being parsed under, with its port's PRS_ROOT, once another bank is the active one (R265), whether its
record is written. -/
structure InFrame where
  handle : Word
  port : Nat
  len : Nat
  arrival : Nat
  ringSrc : Nat
  bank : Option (Nat × Nat)
  parsed : Bool
  deriving DecidableEq, Repr

/-- What becomes of a frame that the classifier does not drop (spec/08 R282, R296). -/
structure Outcome where
  drop : Bool
  prio : Nat
  group : Nat
  domain : Nat
  user : Nat
  deriving DecidableEq, Repr

/-- An entry of the follow table (spec/08 R296): its key (ingress port, K0 to K7), the first fragment's version, its winning
rule or a miss, its outcome, station time in ns of its making. -/
structure Follow where
  port : Nat
  keys : List Nat
  version : Nat
  rule : Option Nat
  outcome : Outcome
  made : Nat
  deriving DecidableEq, Repr

/-- The classifier beside its registers (spec/08): rule words by 16 × rule + word, follow entries (oldest first), whether a
flush is in progress, and (CUR, OLDEST) at the last sweep pass. -/
structure Cls where
  rules : Table (BitVec 32)
  follow : List Follow
  swept : Nat × Nat
  deriving DecidableEq, Repr

/-- The instruction that the TAP holds (spec/16 Table 16.6). -/
inductive TapInstr where
  | idcode | bypass | sample | extest | highz | clamp | dbgCmd | dbgData
  deriving DecidableEq, Repr

/-! ### Station time, timers, capture (spec/14) -/

/-- A timer (spec/14 R507 to R511): COUNT, the remainder R in units of 1 / (64 × 10⁹) ns, the compares in force, the staged
_LO halves, and for each armed compare that COUNT has reached the station time of its match. -/
structure Timer where
  count : Nat
  rem : Nat
  cmpA : Nat
  cmpB : Nat
  stageA : Nat
  stageB : Nat
  dueA : Option Nat
  dueB : Option Nat
  deriving DecidableEq, Repr

/-- A timer after the always-on reset. -/
def Timer.init : Timer := ⟨0, 0, 2 ^ 64 - 1, 2 ^ 64 - 1, 2 ^ 32 - 1, 2 ^ 32 - 1, none, none⟩

/-- A capture channel (spec/14 R515 to R518): the held rise with its epoch, the previous pulse's rise (none: the next pulse
is the first), the last change at the ball with its stamp, the time it was told with and its epoch, and whether that change
has counted as an edge. -/
structure Chan where
  rise : Option (Nat × Nat)
  prev : Option Nat
  changed : Nat
  asked : Nat
  epoch : Nat
  counted : Bool
  deriving DecidableEq, Repr

/-- A channel after the always-on reset: no change of its ball waits to count. -/
def Chan.init : Chan := ⟨none, none, 0, 0, 0, true⟩

/-- An event that waits for its enqueue as a task (spec/14 R520): of a capture channel or a timer, its number, for a
capture the SEQ of its pulse, words w1, w3 and w4, and its route. -/
structure TEvent where
  cap : Bool
  num : Nat
  seq : Nat
  w1 : Nat
  w3 : Nat
  w4 : Nat
  route : Nat
  deriving DecidableEq, Repr

/-- The time base beside its registers (spec/14 R504): since when both flags have been 1, and the end of the last crystal
window that was recorded; the changes of TMR_EPOCH, newest first, each with its time and the value before it (R518); when the
main domains were last released from reset (R522). -/
structure TimeBase where
  both : Option Nat
  xcal : Nat
  epochs : List (Nat × Nat)
  released : Nat
  deriving DecidableEq, Repr

/-! ### Reset, supply, standby (spec/15, spec/16) -/

/-- Where the main domains stand: a reset held, the boot ROM running (Sequence 16.2), firmware or SAFE, standby entry
(Sequence 15.1), standby. -/
inductive Phase where
  | held | boot | up | entering | standby
  deriving DecidableEq, Repr

/-- The supply loop beside its registers (spec/15 R541): the time of the last decision, the peaks of B and F since then,
the newest PMBus read-back in mV and that which the last
decision took, the thermal state of the device, whether the last sample was at or above THERM_EMERG, and
whether the data plane has been halted, which only PORST_n or SYSRST_n ends (R550). -/
structure Loop where
  last : Option Nat
  peakB : Nat
  peakF : Nat
  readback : Option Nat
  used : Option Nat
  zone : Nat
  hot : Bool
  halted : Bool
  deriving DecidableEq, Repr

/-- Standby (spec/15 Sequences 15.1 and 15.2): whether a STANDBY command has been answered OK (spec/12 R443), when the drain of tasks
and that of posted writes began, STBY_OUT and since when it is high, whether a wake is latched, whether the WAKE record is still to
be written. -/
structure Standby where
  asked : Bool
  drainAt : Option Nat
  posted : Option Nat
  out : Bool
  outAt : Nat
  wake : Bool
  waking : Bool
  deriving DecidableEq, Repr

/-- The supplies that the fuse controller and the bypass watch (spec/16 R576, spec/10 R344): PFAIL_n high, VSD, VIO18 and
VIO33 in their operating ranges, VIO18 at 1.75 V and VSD at 0.88 V or more. -/
structure Supply where
  pfailHigh : Bool
  vsd : Bool
  vio18 : Bool
  vio33 : Bool
  fuseOk : Bool
  deriving DecidableEq, Repr


/-- Boot, the fuses and the debug port beside their registers (spec/16): the fuse bits programmed since manufacture, the
word and the bits that an operation of SYS_OTP_OP programs, when a life-cycle command was accepted, whether a roll-forward
has recorded that it waits, whether P-core 0 is halted before the boot ROM, SEC_VERSION of the running image, the open
challenge (nonce, level), the wrong responses since PORST_n, whether P-core 1 has been released from its reset, whether the boot
ROM that found no image serves the SPI host port (R573): a reset of P-core 0 ends that (R679). -/
structure Boot where
  otp : Table (BitVec 32)
  otpOp : Option (Nat × BitVec 32)
  lcAt : Option Nat
  waited : Bool
  romHalt : Bool
  sec : Nat
  nonce : Option (Nat × Nat)
  wrong : Nat
  free1 : Bool
  serving : Bool
  deriving DecidableEq, Repr

/-- A part whose fuses hold the factory words only. -/
def Boot.init : Boot := ⟨[], none, none, false, false, 0, none, 0, false, false⟩

/-- A core self-test (spec/17 Sequence 17.2): when the present step began, and the threads that were IDLE at step 4. -/
structure CoreTest where
  began : Nat
  idle : List Nat
  deriving DecidableEq, Repr

/-- A lent buffer under test (spec/17 R614): its pool, its layout, its index. -/
structure Lent where
  pool : Nat
  layout : Layout
  index : Nat
  deriving DecidableEq, Repr

/-- The memory-test engine (spec/17 R614): the buffer it holds, the pool whose turn is next, the millisecond of the last
loan and the loans made in it. -/
structure MemTest where
  lent : Option Lent
  turn : Nat
  ms : Nat
  loans : Nat
  deriving DecidableEq, Repr

/-- An exchange of Puppeteer firmware between its check and its end (spec/17 R625): the core, ENTRY, the segments. -/
structure PcExch where
  target : Nat
  entry : Nat
  segs : List (Nat × List Byte)
  deriving DecidableEq, Repr

/-- The flush of the recorder (spec/17 Sequence 17.1): the records of its snapshot, newest first. -/
structure Flush where
  records : List Stored
  time : Nat
  lost : Nat
  deriving DecidableEq, Repr

/-- Self-test, exchange and flush in progress; the task entry registers of tile 4, which share their addresses with EXCH_PC_CTL
and EXCH_PC_STAT (spec/17 R627, log entry 240, DESIGN CHOICE). -/
structure Field where
  test : CoreTest
  mem : MemTest
  exch : Option PcExch
  flush : Option Flush
  task4Lo : BitVec 32
  task4Hi : BitVec 8
  deriving DecidableEq, Repr

/-- Nothing in progress. -/
def Field.init : Field := ⟨⟨0, []⟩, ⟨none, 0, 0, 0⟩, none, none, 0, 0⟩

/-- The host interface (spec/18 R658, R659; spec/12 R475): the UART FIFOs, oldest first; the transfer of the I2C controller
(address, bytes written, bytes to read); whether a read-back of the PWR block has waited for the controller's last transfer
(R660); the SPI commands passed to firmware. -/
structure HostIf where
  tx : List Byte
  rx : List Byte
  i2c : Option (Nat × List Byte × Nat)
  pmbDue : Bool
  spi : List (Nat × List Byte)
  deriving DecidableEq, Repr
/-! ### The ring (spec/10) -/

/-- A ring port beside its registers: block lock, whether LINK_ACK has come since the splice, whether PORT_DELAY is valid,
the ring cycle in which a removal of its neighbour took its lock (R383), station time in ns since it is DOWN, the reason its BREAK carries, when
LINK_ACK and BREAK were last sent, the cycle of its last LINK frame, T_TX of the peer's last LINK with its
receipt, and since when a splice has taken its lock (R380). -/
structure RPort where
  lock : Bool
  ack : Bool
  delayOk : Bool
  removed : Option Nat
  since : Nat
  reason : Nat
  ackAt : Option Nat
  breakAt : Option Nat
  linkAt : Option Nat
  echo : Option (Nat × Nat)
  lost : Option Nat
  deriving DecidableEq, Repr

/-- A ring port that has heard nothing. -/
def RPort.init : RPort := ⟨false, false, false, none, 0, 1, none, none, none, none, none⟩

/-- The ring node beside its registers: PERIOD_US, GAP_US and SPLICE_US in force (none: those of its own registers), when
STATE was entered, the CYCLE of the open window still to come and of the last one announced, the cycle of the splice that runs, CYCLE of the last SWEEP processed,
whether the master's SWEEP is out, claims sent, when a good SWEEP and a master TIME last came, whether a better master has
been heard, open windows still to pass before the next try, whether the insertion is that of R377, the last cycle
begun, the MGMT frames (DST, payload) that wait for the gap's end. -/
structure Ring where
  times : Option (Nat × Nat × Nat)
  since : Nat
  window : Option Nat
  opened : Option Nat
  splice : Nat
  processed : Option Nat
  sweepOut : Bool
  claims : Nat
  heard : Nat
  timeAt : Nat
  beaten : Bool
  skip : Nat
  direct : Bool
  cycle : Option Nat
  held : List (Nat × List Byte)
  ports : Table RPort
  deriving DecidableEq, Repr

/-- The ring node after reset. -/
def Ring.init : Ring := ⟨none, 0, none, none, 0, none, false, 0, 0, 0, false, 0, false, none, [], []⟩

/-! ### The dictionary engine (spec/12) -/

/-- An Efanha message that has reached the engine: its transport (1 ring, 2 UDP, 3 SPI), its peer (ring source node or UDP
context), whether it was broadcast, its bytes, and once it is accepted with a tag the key of its session (R458). -/
structure EfMsg where
  path : Nat
  peer : Nat
  bcast : Bool
  bytes : List Byte
  key : Option (List Byte)
  deriving DecidableEq, Repr

/-- A session (spec/12 R455 to R459): role, peer, key, last accepted COUNTER, whether it is open, station time in ns of OPEN
or of the last accepted request, AUTH results in a row. -/
structure Session where
  role : Nat
  path : Nat
  peer : Nat
  key : List Byte
  counter : Nat
  opened : Bool
  at_ : Nat
  fails : Nat
  deriving DecidableEq, Repr

/-- An item of the forward queue (spec/12 R462, R464, Table 12.11); a STATE notice carries no message. -/
structure FwdItem where
  slot : Nat
  serial : Nat
  service : Nat
  role : Nat
  index : Nat
  sub : Nat
  type : Nat
  len : Nat
  session : Nat
  offset : Nat
  msg : Option EfMsg
  at_ : Nat
  deriving DecidableEq, Repr

/-- What follows once a response has left (spec/12 R443, R454): nothing, the node reset of a KIND, standby entry. -/
inductive After where
  | nothing
  | reset (kind : Nat)
  | standby
  deriving DecidableEq, Repr

/-- A response that earlier responses on its transport hold back (spec/12 R444): its transport and peer, the forward slot that
it waits for, its bytes, what follows it. -/
structure Reply where
  path : Nat
  peer : Nat
  slot : Option Nat
  bytes : List Byte
  after : After
  deriving DecidableEq, Repr

/-- A response with a consequence that has been sent and has not left the node yet (spec/12 R443, R454): what follows it, its
transport (1 ring, 2 UDP, 3 SPI), and its place: its number among the ring's held frames or the SPI host's messages, counted from
1, or its reply slot. -/
structure Leaving where
  after : After
  path : Nat
  place : Nat
  deriving DecidableEq, Repr

/-- The last posted-write error (spec/12 Table 12.8). -/
structure PostErr where
  writer : Nat
  entry : Nat
  cause : Nat
  time : Nat
  count : Nat
  deriving DecidableEq, Repr

/-- The engine beside its registers: requests queued (oldest first), sessions by number, forward items (oldest first), next
serial of each slot, the responses held back, oldest first, DICT_FWD_TOTAL, the SPI pending queue, entry 0140, ARM and the bindings of the maps (key 64 × tx + m),
receive maps that have flipped and are not applied, the cycle each transmit map was last sampled for, and the accepted node
resets (KIND, station time at which the response left), oldest first. -/
structure Dict where
  inbox : List EfMsg
  sessions : OTable Session
  fwd : List FwdItem
  serials : Table Nat
  replies : List Reply
  total : Nat
  pending : List (List Byte)
  postErr : PostErr
  armed : Table Bool
  binds : Table Nat
  flipped : Table Bool
  sampled : Table Nat
  reset : List (Nat × Nat)
  leaving : List Leaving
  deriving DecidableEq, Repr

/-- The engine after reset. -/
def Dict.init : Dict := ⟨[], [], [], [], [], 0, [], ⟨0, 0, 0, 0, 0⟩, [], [], [], [], [], []⟩


/-! ### The whole machine -/

/-- The state of the 4872. -/
structure State where
  pending : List Instr
  regs : Table (BitVec 32)
  mem : Table Word
  bad : Table Ecc
  caches : Table CacheSet
  icache : Table (OTable Word)
  scrub : Scrub
  patrols : Table Patrol
  ceLast : Table Nat
  sdcInit : Table Bool
  sdcDead : Table Bool
  threads : Table Thread
  helpers : Table Helper
  taskEntry : Table Nat
  pools : Table Pool
  audit : Audit
  tasks : OTable Task
  sched : Sched
  txq : Table PortQ
  out : List Output
  pauseAt : Table Nat
  pauseSent : Table Nat
  pauseEnd : Table Nat
  hiBer : Table Bool
  ts : Table (List TsEntry)
  frames : List InFrame
  prsNodes : Table (BitVec 32)
  cls : Cls
  tap : TapInstr
  ring : Ring
  dict : Dict
  recorder : Recorder
  acc : Nat
  timers : Table Timer
  chans : Table Chan
  events : List TEvent
  timeBase : TimeBase
  sioIn : Table Bool
  ringRate : Int
  phase : Phase
  vcoreOn : Bool
  loop : Loop
  standby : Standby
  supply : Supply
  wdt : Nat
  kick : Bool
  boot : Boot
  field : Field
  host : HostIf
  freeCount : Nat
  deriving DecidableEq, Repr

/-- The machine right after the always-on reset, with PORST_n low and VCORE off (spec/16 Sequence 16.1, R558): every register
at its Reset column (the register file lists nothing), every memory word 0 with tag DATA, every thread OFFLINE, no task, no
command waiting. PORST_N_RELEASE starts the boot sequence. (log entries 2, DESIGN CHOICE; 11, DESIGN CHOICE). -/
def State.reset : State where
  pending := []
  regs := []
  mem := []
  bad := []
  caches := []
  icache := []
  scrub := ⟨false, 0, 0⟩
  patrols := []
  ceLast := []
  sdcInit := []
  sdcDead := []
  threads := []
  helpers := []
  taskEntry := []
  pools := []
  audit := ⟨none⟩
  tasks := []
  sched := ⟨0, [], [], [], [], 0⟩
  txq := []
  out := []
  pauseAt := []
  pauseSent := []
  pauseEnd := []
  hiBer := []
  ts := []
  frames := []
  prsNodes := []
  cls := ⟨[], [], (0, 0)⟩
  tap := .idcode
  ring := Ring.init
  dict := Dict.init
  recorder := ⟨[], [], none, false⟩
  acc := 0
  timers := []
  chans := []
  events := []
  timeBase := ⟨none, 0, [], 0⟩
  sioIn := []
  ringRate := 0
  phase := .held
  vcoreOn := false
  loop := ⟨none, 0, 0, none, none, 0, false, false⟩
  standby := ⟨false, none, none, false, 0, false, false⟩
  supply := ⟨true, true, true, true, true⟩
  wdt := 0
  kick := false
  boot := Boot.init
  field := Field.init
  host := ⟨[], [], none, false, []⟩
  freeCount := 0

end Sys2Proof.Machine
end

