-- ==== Sys2Proof/Machine/Ops.lean ====
section
/-! DEFINITION. The named operations over the state: register fields, station time, recorder offers, Puppeteer events, memory
words with their ECC, the tile caches, target locations, and raising a fault. -/

namespace Sys2Proof.Machine

/-! ### The register file -/

/-- The stored word of the register at an M-bus address. -/
def State.reg (s : State) (a : Nat) : BitVec 32 := tget regReset s.regs a

/-- Store a register word. -/
def State.setReg (s : State) (a : Nat) (v : BitVec 32) : State := { s with regs := tset regReset s.regs a v }

/-- Replace bits [lo + n − 1 : lo] of a word. -/
def putBits (x lo n v : Nat) : Nat := x - bits x lo n * 2 ^ lo + (v % 2 ^ n) * 2 ^ lo

/-- The value of a register field. -/
def State.rd (s : State) (f : Fld) : Nat := bits (s.reg f.addr).toNat f.lo f.width

/-- Whether a one-bit field is 1. -/
def State.is (s : State) (f : Fld) : Bool := s.rd f != 0

/-- Set a register field. -/
def State.wr (s : State) (f : Fld) (v : Nat) : State :=
  s.setReg f.addr (BitVec.ofNat 32 (putBits (s.reg f.addr).toNat f.lo f.width v))

/-- Add to a saturating counter. -/
def State.bumpBy (s : State) (f : Fld) (n : Nat) : State := s.wr f (satTo (2 ^ f.width - 1) (s.rd f + n))

/-- Add one to a saturating counter. -/
def State.bump (s : State) (f : Fld) : State := s.bumpBy f 1

/-- Subtract one from a count. -/
def State.drop (s : State) (f : Fld) : State := s.wr f (s.rd f - 1)

/-- A 64-bit or 40-bit quantity in a _LO/_HI pair (spec/00 R8). -/
def State.pair (s : State) (lo hi : Fld) : Nat := s.rd lo + s.rd hi * 2 ^ 32

/-- Write a _LO/_HI pair (spec/00 R8). -/
def State.wrPair (s : State) (lo hi : Fld) (v : Nat) : State := (s.wr lo v).wr hi (v / 2 ^ 32)

/-- A value outside a field's range acts as the nearer end of it (spec/00 R665). -/
def clampTo (lo hi x : Nat) : Nat := if x < lo then lo else if x > hi then hi else x

/-! ### Device state and station time -/

/-- The device state of Table 12.3. -/
def State.devState (s : State) : Nat := s.rd F.DICT_STATE_STATE

/-- Whether the device is in CONFIG (spec/12 Table 12.3). -/
def State.inConfig (s : State) : Bool := s.devState == 1

/-- Units of the station-time accumulator in one nanosecond: both steps of spec/14 R501 and R502 are whole numbers of
1 / (64 × 10⁹) ns. -/
def tUnit : Nat := 64000000000

/-- Station time in ns (spec/14 R500). -/
def State.nowNs (s : State) : Nat := s.acc / tUnit % 2 ^ 64

/-- The 32-bit fraction of station time. -/
def State.nowFrac (s : State) : Nat := s.acc % tUnit * 2 ^ 32 / tUnit

/-- Station time in ms. -/
def State.nowMs (s : State) : Nat := s.nowNs / 1000000

/-- Whether the main domains run (spec/16 Table 16.1, spec/15 Standby). -/
def State.mainOn (s : State) : Bool :=
  match s.phase with
  | .boot | .up | .entering => true
  | .held | .standby => false

/-- Whether firmware can write registers: the main domains run. (log entry 15, DEDUCED). -/
def State.whenOn (s : State) (f : State → State) : State := if s.mainOn then f s else s

/-! ### Recorder offers, events, free values -/

/-- Offer a record to the Pewter recorder: to a full queue of 64, or while it is frozen, it is dropped and counted
(spec/17 R595). -/
def State.offer (s : State) (source code data : Nat) : State :=
  if s.recorder.frozen || s.recorder.offered.length ≥ 64 then s.bump F.REC_LOST_COUNT
  else { s with recorder := { s.recorder with
    offered := s.recorder.offered ++ [⟨source, code, data % 2 ^ 64⟩] } }

/-- Take the next number of the counter that free values are applied to. (log entry 8, DESIGN CHOICE). -/
def State.fresh (s : State) : Nat × State := (s.freeCount, { s with freeCount := s.freeCount + 1 })

/-! ### Threads -/

/-- Thread `t`. -/
def State.th (s : State) (t : Nat) : Thread := tget Thread.init s.threads t

/-- Replace thread `t`. -/
def State.setTh (s : State) (t : Nat) (x : Thread) : State :=
  { s with threads := tset Thread.init s.threads t x }

/-- Change thread `t`. -/
def State.modTh (s : State) (t : Nat) (f : Thread → Thread) : State := s.setTh t (f (s.th t))

/-- Register `r` of a thread; w0 reads as zero DATA (spec/02 R36). -/
def Thread.reg (x : Thread) (r : Nat) : Word := if r = 0 then Word.zero else tget (fun _ => Word.zero) x.regs r

/-- Write register `r` of a thread; a write to w0 has no effect (spec/02 R36). -/
def Thread.setReg (x : Thread) (r : Nat) (w : Word) : Thread :=
  if r = 0 then x else { x with regs := tset (fun _ => Word.zero) x.regs r w }

/-- Register `r` of thread `t`. -/
def State.w (s : State) (t r : Nat) : Word := (s.th t).reg r

/-- Write register `r` of thread `t`. -/
def State.setW (s : State) (t r : Nat) (w : Word) : State := s.modTh t (fun x => x.setReg r w)

/-- Whether `t` is a Puppeteer core (spec/04 R159). -/
def isPcore (t : Nat) : Bool := t ≥ 192

/-- The tile of a worker thread. -/
def tileOf (t : Nat) : Nat := t / 32

/-- The local number of a worker thread in its tile. -/
def localOf (t : Nat) : Nat := t % 32

/-- The core of a worker thread. -/
def coreOf (t : Nat) : Nat := t / 4

/-- THREAD_CFG.PRIV, and always on a Puppeteer core (spec/03 R78, R89). -/
def State.priv (s : State) (t : Nat) : Bool := isPcore t || s.is (F.THREAD_CFG_PRIV (tileOf t) (localOf t))

/-- The active set of a thread (spec/05 R161). -/
def Thread.set (x : Thread) : ProtSet := if x.selB then x.setB else x.setA

/-- A thread goes on at the next instruction. -/
def Thread.next (x : Thread) : Thread := { x with pc := (x.pc + 4) % 2 ^ 40 }

/-- A waiting thread whose wait has ended goes on at the next instruction. -/
def Thread.unblock (x : Thread) : Thread := { x with life := .running, wait := none, pc := (x.pc + 4) % 2 ^ 40 }

/-- The active supervisor of a tile, as a global thread number (spec/03 R87). -/
def State.activeSup (s : State) (tile : Nat) : Nat :=
  32 * tile + (if s.is (F.TILE_SUPV_ACTIVE tile) then s.rd (F.TILE_SUPV_ALTERNATE tile)
    else s.rd (F.TILE_SUPV_PRIMARY tile))

/-- The other supervisor of a tile. -/
def State.otherSup (s : State) (tile : Nat) : Nat :=
  32 * tile + (if s.is (F.TILE_SUPV_ACTIVE tile) then s.rd (F.TILE_SUPV_PRIMARY tile)
    else s.rd (F.TILE_SUPV_ALTERNATE tile))

/-- Whether a supervisor can take records: IDLE, RUNNING or BLOCKED (spec/05 R189). -/
def State.available (s : State) (t : Nat) : Bool :=
  match (s.th t).life with
  | .idle | .running | .blocked => true
  | _ => false

/-- The budget counter of a thread in whole microseconds of station time (spec/03 R100); past its 20 bits it begins again at 0.
(log entries 49, DEDUCED; 194, DESIGN CHOICE). -/
def Thread.used (x : Thread) : Nat := x.run / (1000 * tUnit) % 2 ^ 20

/-- Bits of EVPEND (spec/04 Table 4.14). -/
inductive Ev where
  | dictFwd | supvEsc | ringCycle | ringState | mailbox | host | timer | therm | pfail | recFreeze | selftest | exchange
  deriving DecidableEq, Repr

/-- The bit of an event. -/
def Ev.mask : Ev → Nat
  | .dictFwd => 0x1 | .supvEsc => 0x2 | .ringCycle => 0x4 | .ringState => 0x8 | .mailbox => 0x10 | .host => 0x20
  | .timer => 0x40 | .therm => 0x80 | .pfail => 0x100 | .recFreeze => 0x200 | .selftest => 0x400 | .exchange => 0x800

/-- A thread in WAITEV goes on when EVPEND AND EVMASK is non-zero, with that value (spec/04 Table 4.11). -/
def Thread.pokeEv (x : Thread) : Thread :=
  match x.life, x.wait with
  | .blocked, some (.waitev rd) =>
    let v := Nat.land x.evpend x.evmask
    if v = 0 then x else (x.setReg rd.val (Word.data (BitVec.ofNat 64 v))).unblock
  | _, _ => x

/-- Set an event in Puppeteer core `c` (spec/04 Table 4.14); a core in WAITEV on it goes on. -/
def State.event (s : State) (c : Nat) (e : Ev) : State :=
  s.modTh (192 + c) (fun x => { x with evpend := Nat.lor x.evpend e.mask }.pokeEv)

/-- Set an event in both Puppeteer cores. -/
def State.eventBoth (s : State) (e : Ev) : State := (s.event 0 e).event 1 e

/-! ### Raising a fault -/

/-- Whether the budget counter of a thread that holds a task has reached its group's LIMIT (spec/03 R102). -/
def State.budgetDue (s : State) (t : Nat) : Bool :=
  let x := s.th t
  !isPcore t && x.held.isSome && s.rd (F.GRP_BUDGET_LIMIT x.group) != 0
    && decide (s.rd (F.GRP_BUDGET_LIMIT x.group) ≤ x.used)

/-! ### Memories and locations -/

/-- The memories (spec/02 Tables 2.5 to 2.8). -/
inductive MemId where
  | ingot | tile (t : Nat) | scratch (n : Nat) | sdram (c : Nat) | mgmt | rom
  deriving DecidableEq, Repr

/-- Where an access goes: a byte of a memory, a register of an M-bus block, or nowhere, with the status of Table 2.4.
Memory bytes are named by their data-plane address; management memory and the boot ROM by their address in the M-bus
window. -/
inductive Loc where
  | cell (m : MemId) (key : Nat)
  | mbus (a : Nat)
  | fail (status : Nat)
  deriving DecidableEq, Repr

/-- The M-bus window of Table 2.5. -/
def mbusWindow : Nat := 0xF000000000

/-- Data rates of SDC_CTRL.RATE do not matter to contents; the capacity is 8 × density × ranks (spec/02 R64, R68). The
reserved DENSITY code 3 gives no populated word. -/
def State.sdCapacity (s : State) (c : Nat) : Nat :=
  if s.is (F.SDC_CTRL_POPULATED c) then
    (match s.rd (F.SDC_CTRL_DENSITY c) with | 0 => 0x100000000 | 1 => 0x200000000 | 2 => 0x400000000 | _ => 0)
      * (s.rd (F.SDC_CTRL_RANKS c) + 1)
  else 0

/-- The location of an M-bus address (spec/02 Table 2.7). -/
def locMbus (a : Nat) : Loc :=
  if a < 0x80000 then .cell .mgmt (mbusWindow + a)
  else if 0x10000000 ≤ a ∧ a < 0x10010000 then .cell .rom (mbusWindow + a)
  else if inRegBlock a then .mbus a
  else .fail 1

/-- Whether an SDRAM channel answers: its fill is done and the 25 MHz reference runs (spec/02 R66, spec/15 R531). -/
def State.sdReady (s : State) (c : Nat) : Bool := s.is (F.SDC_STATUS_FILL_DONE c) && s.is F.TMR_REF_REF25_OK

/-- The location of a data-plane address that is no M-bus window address (spec/02 Table 2.5, R40, R66, R68). `own`: the
issuing core, for the scratch alias. -/
def State.locData (s : State) (own : Option Nat) (a : Nat) : Loc :=
  if a < 0x1000000 then .cell .ingot a
  else if 0x10000000 ≤ a ∧ a < 0x10600000 then .cell (.tile ((a - 0x10000000) / 0x100000)) a
  else if 0x20000000 ≤ a ∧ a < 0x20300000 then
    if (a - 0x20000000) % 0x10000 < 0x8000 then .cell (.scratch ((a - 0x20000000) / 0x10000)) a else .fail 1
  else if 0x30000000 ≤ a ∧ a < 0x30008000 then
    match own with
    | some n => .cell (.scratch n) (0x20000000 + n * 0x10000 + (a - 0x30000000))
    | none => .fail 1
  else if 0x1000000000 ≤ a ∧ a < 0x2000000000 then
    let c := (a - 0x1000000000) / 0x800000000
    if (a - 0x1000000000) % 0x800000000 < s.sdCapacity c then
      if s.sdReady c then .cell (.sdram c) a else .fail 3
    else .fail 1
  else .fail 1

/-- The location that thread `t` reaches at a 64-bit address (spec/02 Tables 2.5 and 2.6, spec/04 R131). -/
def State.locate (s : State) (t : Nat) (a : Nat) : Loc :=
  if mbusWindow ≤ a ∧ a < mbusWindow + 0x100000000 then locMbus (a - mbusWindow)
  else if isPcore t then
    if a < 0x100000000 then locMbus a
    else if 0x100000000 ≤ a ∧ a < 0x130000000 then s.locData none (a - 0x100000000)
    else if 0x1000000000 ≤ a then s.locData none a
    else .fail 1
  else s.locData (some (coreOf t)) a

/-- Whether an address lies in the M-bus window (spec/02 Table 2.5). -/
def inWindow (a : Nat) : Bool := mbusWindow ≤ a && a < mbusWindow + 0x100000000

/-! ### Words and ECC -/

/-- What an unlisted word reads as: value 0, tag DATA, after the fills of R50 and Sequence 2.1 (spec/02). (log entry 12,
DESIGN CHOICE). -/
def wordDefault (_ : Nat) : Word := Word.zero

/-- The canonical form of memory: word addresses strictly rising, no listed word equal to what an unlisted one reads as. -/
def Memory.wf (m : Table Word) : Bool := twf wordDefault m

/-- No word holds a latent error. -/
def eccDefault (_ : Nat) : Ecc := .good

/-- The stored word at a word address; the boot ROM's image belongs to the part. -/
def State.word (s : State) (k : Nat) : Word :=
  if mbusWindow + 0x10000000 ≤ k ∧ k < mbusWindow + 0x10010000 then Config.romWord ((k - mbusWindow - 0x10000000) / 8)
  else tget wordDefault s.mem k

/-- Store a whole word: a write carries fresh check bits, so a latent error ends. -/
def State.setWord (s : State) (k : Nat) (w : Word) : State :=
  { s with mem := tset wordDefault s.mem k w, bad := tset eccDefault s.bad k .good }

/-- The address that an ECC report or an ECC POISON word carries: the data-plane address, or A for management memory
(spec/02 Table 2.15, R37). (log entry 221, DEDUCED). -/
def reportAddr (m : MemId) (k : Nat) : Nat :=
  match m with
  | .mgmt | .rom => k - mbusWindow
  | _ => k

/-- The POISON cause of an uncorrectable error (spec/02 Table 2.3); the boot ROM, which the table does not name, has that of
management memory. (log entry 189, DESIGN CHOICE). -/
def MemId.cause : MemId → Nat
  | .ingot => 0x10 | .tile _ => 0x11 | .scratch _ => 0x12 | .mgmt => 0x13 | .rom => 0x13
  | .sdram c => 0x14 + c % 2

/-- The number of an on-chip memory in MEMECC_STATUS (spec/02 Table 2.19); an error of the boot ROM sets the bits of management
memory. (log entry 189, DESIGN CHOICE). -/
def MemId.num : MemId → Nat
  | .ingot => 0 | .tile _ => 1 | .scratch _ => 2 | .mgmt => 3 | .rom => 3 | .sdram _ => 4

/-- The CE or UE bit of an on-chip memory. -/
def memeccBit (ue : Bool) (n : Nat) : Fld := ⟨A.MEMECC_STATUS, n + (if ue then 0 else 8), 1⟩

/-- A built pool whose area holds an address, with the buffer's index (spec/06 R240). -/
def State.poolAt (s : State) (k : Nat) : Option (Nat × Layout × Nat) :=
  s.pools.findSome? (fun (p, q) => match q.built with
    | some l => if l.base ≤ k ∧ k < l.base + l.count * l.size then some (p, l, (k - l.base) / l.size) else none
    | none => none)

/-- A memory meets a correctable error in a word: it corrects it, counts it, sets the CE bit, and writes at most one recorder
entry per memory per ms (spec/02 R48, R73). (log entry 33, DESIGN CHOICE). -/
def State.correct (s : State) (m : MemId) (k : Nat) : State :=
  let s := { s with bad := tset eccDefault s.bad k .good }
  match m with
  | .sdram c => s.bump (F.SDC_CE_COUNT_COUNT c)
  | _ =>
    let s := (s.bump F.MEMECC_CE_COUNT_COUNT).wr (memeccBit false m.num) 1
    let last := tget (fun _ => 0) s.ceLast m.num
    if last ≠ 0 ∧ s.nowNs + 1 < last + 1000000 then s
    else
      { s with ceLast := tset (fun _ => 0) s.ceLast m.num (s.nowNs + 1) }.offer 0x00 (0x20 + m.num) (reportAddr m k)

/-- A memory meets an uncorrectable error in a word: it rewrites it as POISON and records the address (spec/02 R49, R71,
R73). -/
def State.poisonWord (s : State) (m : MemId) (k : Nat) : State :=
  let s := s.setWord k ⟨Tag.ofCause m.cause, BitVec.ofNat 64 (reportAddr m k)⟩
  match m with
  | .sdram c =>
    let s := if s.rd (F.SDC_UE_COUNT_COUNT c) = 0
      then s.wrPair (F.SDC_UE_ADDR_LO_ADDR c) (F.SDC_UE_ADDR_HI_ADDR c) k else s
    s.bump (F.SDC_UE_COUNT_COUNT c)
  | _ =>
    let s := if bits (s.reg A.MEMECC_STATUS).toNat 0 4 = 0
      then s.wrPair F.MEMECC_UE_ADDR_LO_ADDR F.MEMECC_UE_ADDR_HI_ADDR (reportAddr m k) else s
    s.wr (memeccBit true m.num) 1

/-- The pool manager reads the metadata word at an address: its memory corrects or reports what it meets (spec/02 R48, R49,
R73); of a word with an uncorrectable error the manager takes the bits of the POISON word that replaces it. No metadata word
lies in a built pool's area (spec/06 Table 6.1), so no buffer is marked. (log entry 190, DESIGN CHOICE). -/
def State.touchMeta (s : State) (k : Nat) : State :=
  match s.locData none k, tget eccDefault s.bad k with
  | .cell m _, .correctable => s.correct m k
  | .cell m _, .uncorrectable => s.poisonWord m k
  | _, _ => s

/-- Set a bit of a metadata word (spec/06 Table 6.2), which the pool manager writes with tag DATA (R213). -/
def State.orMeta (s : State) (k : Nat) (bit : Nat) : State :=
  let s := s.touchMeta k
  s.setWord k (Word.data (BitVec.ofNat 64 (Nat.lor (s.word k).val.toNat (2 ^ bit))))

/-- An uncorrectable error inside a built pool's area sets RETIRE on its buffer (spec/06 R240). -/
def State.markRetire (s : State) (k : Nat) : State :=
  match s.poolAt k with
  | some (_, l, i) => s.orMeta (l.meta_ + 8 * i) 46
  | none => s

/-- A memory meets an uncorrectable error in a word: it rewrites it as POISON, records the address, and marks the buffer
that holds it (spec/02 R49, R71, R73, spec/06 R240). -/
def State.uncorrectable (s : State) (m : MemId) (k : Nat) : State := (s.poisonWord m k).markRetire k

/-- Read the word at a word address as it is stored, and whether the read met an uncorrectable error (spec/02 R48, R49). -/
def State.readStored (s : State) (m : MemId) (k : Nat) : State × Word × Bool :=
  match tget eccDefault s.bad k with
  | .good => (s, s.word k, false)
  | .correctable => (s.correct m k, s.word k, false)
  | .uncorrectable =>
    let s' := s.uncorrectable m k
    (s', s'.word k, true)

/-- Read the word at a word address: the word as a reader takes it (spec/02 R30), and whether the read met an
uncorrectable error (spec/02 R49). -/
def State.readWord (s : State) (m : MemId) (k : Nat) : State × Word × Bool :=
  let (s, w, ue) := s.readStored m k
  (s, w.readAs, ue)

/-- Whether a memory belongs to the data plane, which is dark while VCORE is off (spec/15 R549). -/
def MemId.dark (m : MemId) (on : Bool) : Bool := !on && (match m with | .mgmt | .rom => false | _ => true)

/-- Replace `size` bytes at byte offset `off` of a value by the low bytes of another (spec/02 R31, R33). -/
def insertBytes (old : Val) (off size : Nat) (v : Val) : Val :=
  BitVec.ofNat 64 (putBits old.toNat (8 * (8 - off - size)) (8 * size) v.toNat)

/-- The `size` bytes at byte offset `off` of a value, in the low bits (spec/02 R33). -/
def extractBytes (v : Val) (off size : Nat) : Nat := bits v.toNat (8 * (8 - off - size)) (8 * size)

/-- The word address of a byte address. -/
def wordKey (k : Nat) : Nat := k / 8 * 8

/-- Store into memory (spec/02 Table 2.2, Table 2.14): 8 bytes replace the word; fewer read it first and make it DATA. The
status is that of Table 2.4. A word with a reserved tag counts as a POISON word here too, which R30 says of loads, fetches and
helper reads only. (log entry 191, DESIGN CHOICE). -/
def State.memStore (s : State) (m : MemId) (k size : Nat) (w : Word) : State × Nat :=
  if m = .rom then (s, 5)
  else if size = 8 then (s.setWord (wordKey k) w, 0)
  else
    let (s, old, ue) := s.readWord m (wordKey k)
    if ue then (s, 2)
    else if old.kind = .poison then (s, 4)
    else (s.setWord (wordKey k) ⟨0, insertBytes old.val (k % 8) size w.val⟩, 0)

/-! ### Tile caches -/

/-- Set or clear bit `i` of a number. -/
def setBitTo (x i : Nat) (b : Bool) : Nat := putBits x i 1 (if b then 1 else 0)

/-- Mark a way as most recently used along the tree (spec/02 R667). -/
def plruTouch (p w : Nat) : Nat :=
  let p := setBitTo p 0 (w / 4 % 2 = 0)
  let p := setBitTo p (1 + w / 4 % 2) (w / 2 % 2 = 0)
  setBitTo p (3 + w / 2 % 4) (w % 2 = 0)

/-- The way that the tree names (spec/02 R667). -/
def plruVictim (p : Nat) : Nat :=
  let a := bits p 0 1
  let b := bits p (1 + a) 1
  4 * a + 2 * b + bits p (3 + 2 * a + b) 1

/-- The key of the set that an address maps to in tile `t`'s cache: 256 sets of 64-byte lines. (log entry 22, DEDUCED). -/
def setKey (t k : Nat) : Nat := t * 256 + k / 64 % 256

/-- A set of a tile cache. -/
def State.cset (s : State) (i : Nat) : CacheSet := tget (fun _ => CacheSet.empty) s.caches i

/-- Replace a set. -/
def State.setCset (s : State) (i : Nat) (c : CacheSet) : State :=
  { s with caches := tset (fun _ => CacheSet.empty) s.caches i c }

/-- The way that holds a line. -/
def CacheSet.wayOf (c : CacheSet) (tag : Nat) : Option Nat :=
  c.ways.findIdx? (fun w => match w with | some l => l.tag == tag | none => false)

/-- A line in a way. -/
def CacheSet.line (c : CacheSet) (w : Nat) : Option Line := (c.ways[w]?).join

/-- Whether a line's memory takes a write-back: no SDRAM channel that answers NOT_READY (spec/15 R531). -/
def State.lineReady (s : State) (l : Line) : Bool :=
  match s.locData none (l.tag * 64) with
  | .cell _ _ => true
  | _ => false

/-- Write a dirty line back to memory (spec/02 Table 2.10); a channel that answers NOT_READY takes nothing. (log entry 228,
DESIGN CHOICE). -/
def State.writeBack (s : State) (l : Line) : State :=
  if l.dirty && s.lineReady l then
    ((List.range 8).zip l.words).foldl (fun s (i, w) => s.setWord (l.tag * 64 + 8 * i) w) s
  else s

/-- Read a line's eight words from memory, as they are stored (spec/02 R30: a line that is written back rewrites no tag that no
store replaced); whether the word at index `want` met an uncorrectable error (spec/02 Table 2.14). -/
def State.fillWords (s : State) (m : MemId) (base want : Nat) : State × List Word × Bool :=
  (List.range 8).foldl (fun (acc : State × List Word × Bool) i =>
    let (s, ws, ue) := acc
    let (s, w, u) := s.readStored m (base + 8 * i)
    (s, ws ++ [w], ue || (u && i == want))) (s, [], false)

/-- Bring the line of an address into tile `t`'s cache unless it is there (spec/02 R667): the lowest-numbered invalid way
first, else the way the tree names, written back when dirty. The way that holds it, and whether the requested word met an
uncorrectable error. (log entry 242, DESIGN CHOICE). -/
def State.fillLine (s : State) (t : Nat) (m : MemId) (k : Nat) : State × Nat × Bool :=
  let i := setKey t k
  let c := s.cset i
  match c.wayOf (k / 64) with
  | some w => (s.setCset i { c with plru := plruTouch c.plru w }, w, false)
  | none =>
    let w := match c.ways.findIdx? Option.isNone with
      | some w => w
      | none => plruVictim c.plru
    let s := match c.line w with
      | some l => s.writeBack l
      | none => s
    let (s, ws, ue) := s.fillWords m (k / 64 * 64) (k % 64 / 8)
    (s.setCset i ⟨c.ways.set w (some ⟨k / 64, false, ws⟩), plruTouch c.plru w⟩, w, ue)

/-- Read the word of an address as tile `t` under a cacheability (spec/02 Table 2.10): 0 NC, 1 WT, 2 WB. -/
def State.cachedRead (s : State) (t cache : Nat) (m : MemId) (k : Nat) : State × Word × Bool :=
  if cache = 0 then s.readWord m (wordKey k)
  else
    let (s, w, ue) := s.fillLine t m k
    match (s.cset (setKey t k)).line w with
    | some l => (s, ((l.words[k % 64 / 8]?).getD Word.zero).readAs, ue)
    | none => (s, Word.zero, ue)

/-- Replace a word of a cached line. -/
def CacheSet.putWord (c : CacheSet) (w : Nat) (k : Nat) (x : Word) (dirty : Bool) : CacheSet :=
  match c.line w with
  | some l => { c with ways := c.ways.set w (some { l with words := l.words.set (k % 64 / 8) x, dirty := l.dirty || dirty }) }
  | none => c

/-- Store as tile `t` under a cacheability (spec/02 Table 2.10): NC to memory; WT to memory and to the cached line if
present; WB to the tile cache only. A WB store of 8 bytes whose line fill meets the uncorrectable error in its own word ends
OK, for the store replaces the word; a narrow WT store takes POISON from memory's word, and where the cached word alone is
POISON the line takes memory's new word. (log entries 192, DESIGN CHOICE; 193, DESIGN CHOICE). -/
def State.cachedStore (s : State) (t cache : Nat) (m : MemId) (k size : Nat) (w : Word) : State × Nat :=
  if cache = 2 then
    let (s, way, ue) := s.fillLine t m k
    let c := s.cset (setKey t k)
    match c.line way with
    | none => (s, 0)
    | some l =>
      let old := ((l.words[k % 64 / 8]?).getD Word.zero).readAs
      if size = 8 then (s.setCset (setKey t k) (c.putWord way k w true), 0)
      else if ue then (s, 2)
      else if old.kind = .poison then (s, 4)
      else (s.setCset (setKey t k) (c.putWord way k ⟨0, insertBytes old.val (k % 8) size w.val⟩ true), 0)
  else
    let (s, st) := s.memStore m k size w
    if cache = 1 ∧ st = 0 then
      let c := s.cset (setKey t k)
      match c.wayOf (k / 64) with
      | some way =>
        let old := (((c.line way).bind (fun l => l.words[k % 64 / 8]?)).getD Word.zero).readAs
        let new : Word := if size = 8 then w else if old.kind = .poison then s.word (wordKey k)
          else ⟨0, insertBytes old.val (k % 8) size w.val⟩
        (s.setCset (setKey t k) { (c.putWord way k new false) with plru := plruTouch c.plru way }, st)
      | none => (s, st)
    else (s, st)

/-- Write back the line of an address in tile `t`'s cache; with `inval`, invalidate it after (spec/04 Table 4.9). -/
def State.cleanLine (s : State) (t k : Nat) (inval : Bool) : State :=
  let i := setKey t k
  let c := s.cset i
  match c.wayOf (k / 64) with
  | none => s
  | some w => match c.line w with
    | none => s
    | some l =>
      let s := s.writeBack l
      s.setCset i { c with ways := c.ways.set w (if inval then none else some { l with dirty := l.dirty && !s.lineReady l }) }

/-- Before a returned buffer can be allocated again, its dirty lines are written back and its lines invalidated in all six
tile caches (spec/02 R55). (log entry 74, DEDUCED). -/
def State.flushRange (s : State) (base size : Nat) : State :=
  s.caches.foldl (fun s (i, c) =>
    let hit := fun (w : Option Line) => match w with
      | some l => decide (l.tag * 64 < base + size ∧ base < l.tag * 64 + 64)
      | none => false
    if c.ways.any hit then
      let s := c.ways.foldl (fun s w => if hit w then (match w with | some l => s.writeBack l | none => s) else s) s
      s.setCset i { c with ways := c.ways.map (fun w => if hit w then none else w) }
    else s) s

end Sys2Proof.Machine
end

