-- ==== Sys2Proof/Machine/Tasks.lean ====
section
/-! DEFINITION. Tasks in flight: descriptor shares, arrival and SEND (spec/03, spec/09), the escalation of fault records, and the
raising of a fault (spec/05). -/

namespace Sys2Proof.Machine

/-! ### Descriptor shares (spec/03 R90 to R94) -/

/-- Descriptors counted against group `g`. -/
def State.grpInUse (s : State) (g : Nat) : Nat := (s.tasks.filter (fun e => e.2.group == g)).length

/-- The groups' granted minima, in ascending group number (spec/03 R92). -/
def State.grpGrants (s : State) : List Nat :=
  ((List.range 16).foldl (fun (acc : List Nat × Nat) g =>
    let m := min (s.rd (F.GRP_MIN_MIN g)) acc.2
    (acc.1 ++ [m], acc.2 - m)) ([], 65536)).1

/-- Whether group `g` may take one more descriptor (spec/03 R90, R91, R94). (log entry 51, DEDUCED). -/
def State.admits (s : State) (g : Nat) : Bool :=
  let gr := s.grpGrants
  let m := gr.getD g 0
  let u := s.grpInUse g
  if u < m then true
  else if s.is (F.GRP_MIN_DYNAMIC g) then
    let used := ((List.range 16).map (fun h => s.grpInUse h - gr.getD h 0)).sum
    decide (u < max (s.rd (F.GRP_MAX_MAX g)) (s.rd (F.GRP_MIN_MIN g))) && decide (used + gr.sum < 65536)
  else false

/-! ### Tasks -/

/-- A task in flight. -/
def State.task (s : State) (n : Nat) : Option Task := oget s.tasks n

/-- Replace a task. -/
def State.setTask (s : State) (n : Nat) (x : Task) : State := { s with tasks := oput n x s.tasks }

/-- The type of an order domain (spec/09 Table 9.5); the reserved code 3 acts as ORDERED. (log entry 63, DEDUCED). -/
def State.domType (s : State) (d : Nat) : Nat :=
  let v := bits (s.reg (A.SCH_DOM_TYPE (d / 16 % 256))).toNat (2 * (d % 16)) 2
  if v = 3 then 0 else v

/-- Where frames and tasks go that take the slow path: group, priority, domain (spec/09 R309). -/
def State.slowTarget (s : State) : Nat × Nat × Nat :=
  let g := s.rd F.CLS_SLOW_GROUP
  (if g = 15 then 14 else g, s.rd F.CLS_SLOW_PRIO, s.rd F.CLS_SLOW_DOMAIN)

/-- The header word (spec/09 Table 9.2). -/
def Task.header (x : Task) (n : Nat) (pre : Bool) : Word :=
  Word.data (BitVec.ofNat 64 (n % 65536 * 2 ^ 48 + x.serial % 256 * 2 ^ 40 + x.domain.getD 0 % 4096 * 2 ^ 28
    + x.prio % 8 * 2 ^ 25 + x.group % 16 * 2 ^ 21 + x.source % 16 * 2 ^ 17 + (if pre then 2 ^ 16 else 0)
    + (if x.vheld then 2 ^ 15 + x.version % 256 * 2 ^ 7 else 0)))

/-- The `n`-th number that is no key of a rising list, counting from 0. -/
def nthFree : List Nat → Nat → Nat
  | [], n => n
  | k :: ks, n => if n < k then n else nthFree ks (n + 1)

/-- The exchange epoch of the running program (spec/17 R619). -/
def State.epoch (s : State) : Nat := s.rd F.EXCH_STATUS_EPOCH

/-- What an enqueue asks for. -/
structure Ask where
  domain : Option Nat
  prio : Nat
  group : Nat
  source : Nat
  words : List Word
  acct : Nat
  vheld : Bool
  version : Nat
  faultOf : Option Nat
  deriving DecidableEq, Repr

/-- Insert a task into a list in arrival order. -/
def insertTask (e : Nat × Task) : List (Nat × Task) → List (Nat × Task)
  | [] => [e]
  | f :: r => if e.2.seq < f.2.seq then e :: f :: r else f :: insertTask e r

/-- The tasks of a domain in arrival order, with their descriptor numbers. -/
def State.domTasks (s : State) (d : Nat) : List (Nat × Task) :=
  (s.tasks.filter (fun e => e.2.domain == some d)).foldr insertTask []

/-- Whether every task that arrived earlier in a domain has retired or been voided (spec/09 Table 9.5). -/
def State.earliest (s : State) (x : Task) : Bool :=
  match x.domain with
  | none => true
  | some d => !(s.tasks.any (fun e => e.2.domain == some d && decide (e.2.seq < x.seq)))

/-- The ready tasks that are not yet delivered, over all groups (spec/15 R541). -/
def State.backlog (s : State) : Nat :=
  (s.tasks.filter (fun e => match e.2.stage with | .ready _ => true | _ => false)).length

/-- The peak of B since the last decision of the supply loop (spec/15 R541). -/
def State.noteB (s : State) : State := { s with loop := { s.loop with peakB := max s.loop.peakB s.backlog } }

/-- A task arrives (spec/09 R307, R312, R314): it takes a free descriptor number and the next SERIAL of it; in an ATOMIC
domain it waits for the tasks before it. None: refused, the group's share is used up (spec/03 R93). (log entries 61, DESIGN
CHOICE; 62, DESIGN CHOICE). -/
def State.arrive (s : State) (a : Ask) : State × Option Nat :=
  if !s.admits a.group || s.tasks.length ≥ 65536 then (s, none)
  else
    let (k, s) := s.fresh
    let n := nthFree (s.tasks.map (·.1)) (Config.descPick k % (65536 - s.tasks.length))
    let ser := (tget (fun _ => 0) s.sched.serials n + 1) % 256
    let q := s.sched.seq
    let x : Task := ⟨q, ser, a.domain, a.prio, a.group, a.source, a.words, a.acct, a.vheld, a.version, s.sched.commits, a.faultOf,
      .waiting, []⟩
    let wait := match a.domain with | some d => s.domType d = 1 && !s.earliest x | none => false
    let s := { s with sched := { s.sched with seq := q + 1, serials := tset (fun _ => 0) s.sched.serials n ser } }
    ((s.setTask n { x with stage := if wait then .waiting else .ready q }).noteB, some n)

/-! ### SEND (spec/09 R308 to R311) -/

/-- The task that SEND enqueues: header fields from w[rs1 + 1]; GROUP 15 takes the slow target (spec/09 R309, R310). -/
def State.sendAsk (s : State) (t rs1 : Nat) : Ask :=
  let h := (s.w t (rs1 + 1)).val.toNat
  let (g, p, d) := if bits h 21 4 = 15 then s.slowTarget else (bits h 21 4, bits h 25 3, bits h 28 12)
  let w1 := s.w t rs1
  ⟨some d, p, g, if isPcore t then 2 else 1, [w1, s.w t (rs1 + 1), s.w t (rs1 + 2), s.w t (rs1 + 3)],
    if w1.kind = .handle then Tag.low6 w1.tag else if isPcore t then 0 else (s.th t).acct, false, 0, none⟩

/-- SEND takes effect: the header of the new task goes into w[rs1 + 1] (spec/09 R308); none: refused. -/
def State.sendNow (s : State) (t rs1 : Nat) : Option State :=
  match s.arrive (s.sendAsk t rs1) with
  | (s, some n) => match s.task n with
    | some x => some (s.setW t (rs1 + 1) (x.header n false))
    | none => none
  | (_, none) => none

/-- A Puppeteer core that waits in SEND goes on when the share admits its task (spec/09 Table 9.4); of two that wait, P-core 0 is
tried first. (log entry 230, DESIGN CHOICE). -/
def State.pokeSend (s : State) : State :=
  [192, 193].foldl (fun s t => match (s.th t).life, (s.th t).wait with
    | .blocked, some (.send r) => match s.sendNow t r.val with
      | some s => s.modTh t Thread.unblock
      | none => s
    | _, _ => s) s

/-! ### Fault records for P-core 0 (spec/05 R188, R191, R192) -/

/-- Put a record into SUPV_ESC_REC of a tile (spec/05 Table 5.5, R192). -/
def State.loadEsc (s : State) (tile : Nat) (t : Nat) (ws : List Val) : State :=
  let s := (List.range 4).foldl (fun s k =>
    let v := ((ws[k]?).getD 0).toNat
    (s.wr (F.SUPV_ESC_REC_WORD tile (2 * k)) v).wr (F.SUPV_ESC_REC_WORD tile (2 * k + 1)) (v / 2 ^ 32)) s
  let s := s.wr (F.SUPV_ESC_STAT_PENDING tile) 1
  let s := { s with sched := { s.sched with escHeld := oput tile t s.sched.escHeld } }
  (s.modTh t (fun x => { x with record := .delivered })).event 0 .supvEsc

/-- The records of a tile that wait for SUPV_ESC_REC. -/
def State.escQueue (s : State) (tile : Nat) : List (Nat × List Val) := tget (fun _ => []) s.sched.esc tile

/-- Replace that queue. -/
def State.setEsc (s : State) (tile : Nat) (l : List (Nat × List Val)) : State :=
  { s with sched := { s.sched with esc := tset (fun _ => []) s.sched.esc tile l } }

/-- The oldest waiting record is loaded once SUPV_ESC_REC is free (spec/05 R192). -/
def State.escNext (s : State) (tile : Nat) : State :=
  if s.is (F.SUPV_ESC_STAT_PENDING tile) then s
  else match s.escQueue tile with
    | [] => s
    | (t, ws) :: r => (s.setEsc tile r).loadEsc tile t ws

/-- A record goes to P-core 0 (spec/05 R188, R191). -/
def State.escalate (s : State) (tile t : Nat) (ws : List Val) : State :=
  let s := s.modTh t (fun x => { x with record := .escalated })
  let idle := !s.is (F.SUPV_ESC_STAT_PENDING tile) && (s.escQueue tile).isEmpty
  let s := s.setEsc tile (s.escQueue tile ++ [(t, ws)])
  if idle then s.escNext tile else s

/-- Neither supervisor of a tile can take records: those queued go to P-core 0 in their queue order (spec/05 R191); their
descriptors return to group 15's share (spec/09 Table 9.4). -/
def State.escalateQueued (s : State) (tile : Nat) : State :=
  let q := (s.tasks.filter (fun e => (e.2.faultOf.map tileOf) == some tile &&
    (match e.2.stage with | .ready _ => true | _ => false))).foldr insertTask []
  if s.available (s.activeSup tile) || s.available (s.otherSup tile) || q.isEmpty then s
  else
    (q.foldl (fun (s : State) (e : Nat × Task) => match e.2.faultOf with
      | some f => { s with tasks := odel e.1 s.tasks }.escalate tile f ((e.2 : Task).words.map Word.val)
      | none => s) s).pokeSend

/-! ### Raising a fault -/

/-- A thread raises a fault (spec/05 R178, R181, R182): a worker thread enters FAULTED with its record due, a Puppeteer core
stops in FAULTED and writes a recorder entry; P-core 0 loses READY (spec/12 R461). A thread whose budget has run out raises
BUDGET in place of any other fault (spec/03 R103). With the last supervisor of its tile that can take records the queued ones go
to P-core 0 (spec/05 R191). -/
def State.raise (s : State) (t code : Nat) (info : Val) (fetch : Bool := false) (drain : Option DrainKind := none) :
    State :=
  let x := s.th t
  let due := s.budgetDue t
  let code := if due then 0x0E else code
  let info := if due then BitVec.ofNat 64 (s.rd (F.GRP_BUDGET_LIMIT x.group)) else info
  let s := s.setTh t { x with
    life := .faulted
    wait := none
    fault := some ⟨code, info, x.pc, x.used, fetch, drain, !isPcore t && t == s.activeSup (tileOf t)⟩
    record := if isPcore t then .none else .waiting }
  if isPcore t then
    let s := s.offer (0x20 + (t - 192)) code x.pc
    if t = 192 then s.wr F.DICT_FW_CTL_READY 0 else s
  else (s.bump (F.TILE_FAULT_STAT_FAULTS (tileOf t))).escalateQueued (tileOf t)


end Sys2Proof.Machine
end

