-- ==== Sys2Proof/Machine/Operands.lean ====
section
/-! DEFINITION. Issuing an instruction: when a thread can issue, the checks of the fetch, reading operands with their tags
(spec/04 R124, R126), and writing results. -/

namespace Sys2Proof.Machine

/-- The two pipes of a core (spec/03 Table 3.1). -/
inductive Pipe where
  | a | m
  deriving DecidableEq, Repr

/-- The registers and the pc at the issue of the RELAXED load or store that a BLOCKED thread waits for, if any. -/
def Thread.snapshot (x : Thread) : Option (Table Word × Nat) :=
  match x.wait with
  | some (.load p) => if p.relaxed then some (p.snapRegs, p.snapPc) else none
  | some (.relaxedStore _ regs pc) => some (regs, pc)
  | _ => none

/-- A RELAXED access has failed, or BUDGET comes at it: the results of the instructions that ran past it are discarded (spec/02
Table 2.11). -/
def Thread.rewind (x : Thread) : Thread :=
  match x.snapshot with
  | some (regs, pc) => { x with regs := regs, pc := pc }
  | none => x

/-- Whether a thread can issue an instruction that reads `reads`: a RUNNING thread can; past an outstanding RELAXED load go
the A-pipe instructions that do not read its destination, past a RELAXED store all A-pipe instructions (spec/02 Table
2.11). -/
def Thread.canIssue (x : Thread) (pipe : Pipe) (reads : List Reg) : Bool :=
  match x.life with
  | .running => true
  | .blocked => match x.wait with
    | some (.load p) => p.relaxed && pipe == .a && (p.rd == 0 || !(reads.contains p.rd))
    | some (.relaxedStore _ _ _) => pipe == .a
    | _ => false
  | _ => false

/-- Whether a region decides an access of a thread (spec/05 R161, R162). -/
def Region.covers (r : Region) (priv : Bool) (a : Nat) : Bool :=
  r.en && (priv || !r.privOnly) && decide (r.base ≤ a / 64) && decide (a / 64 ≤ r.limit)

/-- The deciding region: the lowest-numbered enabled one that covers the address (spec/05 R162). -/
def deciding (rs : List Region) (priv : Bool) (a : Nat) : Option Region := rs.find? (fun r => r.covers priv a)

/-- The instruction cache of a worker core: the words it has fetched and may still hold, by address (spec/03 Table 3.1). -/
def State.icacheOf (s : State) (core : Nat) : OTable Word := tget (fun _ => []) s.icache core

/-- Replace it. -/
def State.setIcache (s : State) (core : Nat) (c : OTable Word) : State :=
  { s with icache := tset (fun _ => []) s.icache core c }

/-- Whether a thread's fetch of the word at an address is served by its core's instruction cache, which no store updates
(spec/02 R58); a Puppeteer core has none. (log entry 195, DESIGN CHOICE). -/
def State.icacheHit (s : State) (t k : Nat) : Bool :=
  !isPcore t && (oget (s.icacheOf (coreOf t)) k).isSome && Config.icacheKeeps (coreOf t) k s.acc

/-- A worker core keeps a word that it has fetched from memory. -/
def State.icacheFill (s : State) (t k : Nat) (w : Word) : State :=
  if isPcore t then s else s.setIcache (coreOf t) (oput k w (s.icacheOf (coreOf t)))

/-- The fetch at a thread's pc: the state after it and the fault it meets, if any (spec/05 R163, spec/02 R42, R58, Table 2.14).
(log entry 31, DEDUCED). -/
def State.fetch (s : State) (t : Nat) : State × Option (Nat × Val) :=
  let a := (s.th t).pc
  let ok := isPcore t || (match deciding (s.th t).set.regions (s.priv t) a with
    | some r => r.x
    | none => false)
  let exec : State × Option (Nat × Val) := (s, some (0x06, BitVec.ofNat 64 a))
  if !ok then exec
  else match s.locate t a with
    | .cell m k =>
      if m = .ingot || inWindow a then exec
      else match m with
        | .scratch _ => exec
        | _ =>
          if s.icacheHit t (wordKey k) then (s, none)
          else
            let (s, w, ue) := s.readWord m (wordKey k)
            if ue then (s, some (0x0C, BitVec.ofNat 64 a))
            else if w.kind = .poison then (s, some (0x0B, w.val))
            else (s.icacheFill t (wordKey k) w, none)
    | _ => exec

/-- What an instruction body comes to: it goes on, or it raises a fault with INFO. -/
inductive Act where
  | go (s : State)
  | flt (s : State) (code : Nat) (info : Val)

/-- Issue an instruction of thread `t`: nothing happens where it cannot issue; an instruction that runs past a RELAXED
access and would fault waits for it (spec/05 R176). The pc is kept as that of the last instruction issued (THREAD_PC). (log
entries 3, DESIGN CHOICE; 5, DESIGN CHOICE; 47, DEDUCED). -/
def State.issue (s : State) (t : Nat) (pipe : Pipe) (reads : List Reg) (body : State → Act) : State :=
  if !(s.th t).canIssue pipe reads then s
  else
    let past := (s.th t).life = .blocked
    match s.fetch t with
    | (s', some (c, i)) => if past then s else s'.raise t c i true
    | (s', none) => match body (s'.modTh t (fun x => { x with lastPc := x.pc })) with
      | .go s'' => s''
      | .flt s'' c i => if past then s else s''.raise t c i

/-- The first POISON operand, taken in order (spec/04 R124, R126). -/
def State.poisonIn (s : State) (t : Nat) : List Reg → Option Word
  | [] => none
  | r :: rs => if (s.w t r.val).kind = .poison then some (s.w t r.val) else s.poisonIn t rs

/-- Write a result register; past a RELAXED load to the same register, the load's later value is discarded in program
order. -/
def Thread.result (x : Thread) (rd : Reg) (w : Word) : Thread :=
  let x := x.setReg rd.val w
  match x.wait with
  | some (.load p) => if p.rd = rd then { x with wait := some (.load { p with stale := true }) } else x
  | _ => x

/-- Write a result and go on at the next instruction. -/
def State.finish (s : State) (t : Nat) (rd : Reg) (w : Word) : State := s.modTh t (fun x => (x.result rd w).next)

/-- Go on at the next instruction without a result. -/
def State.step1 (s : State) (t : Nat) : State := s.modTh t Thread.next

/-- Go on at another address. -/
def State.jump (s : State) (t : Nat) (a : Nat) : State := s.modTh t (fun x => { x with pc := a % 2 ^ 40 })

/-- Raise POISON_USE for the first POISON operand, else go on with the body (spec/04 R124). -/
def State.noPoison (s : State) (t : Nat) (rs : List Reg) (body : State → Act) : Act :=
  match s.poisonIn t rs with
  | some w => .flt s 0x0B w.val
  | none => body s

/-- ILLEGAL carries the instruction word (spec/05 Table 5.2). -/
def State.illegal (s : State) (i : Instr) : Act := .flt s 0x01 ((wordOf i).setWidth 64)

/-- PRIVILEGE carries the instruction word (spec/05 Table 5.2). -/
def State.privilege (s : State) (i : Instr) : Act := .flt s 0x02 ((wordOf i).setWidth 64)

/-- TAG_KIND carries the tag of the offending operand (spec/05 Table 5.2). -/
def State.tagKind (s : State) (w : Word) : Act := .flt s 0x12 (w.tag.setWidth 64)

end Sys2Proof.Machine
end

