-- ==== Sys2Proof/Machine/Alu.lean ====
section
/-! DEFINITION. The A-pipe: the integer and copy group, the immediate instructions, branches and jumps, TAGSET, MFSR and
MTSR (spec/04). -/

namespace Sys2Proof.Machine

/-- The outcome of a meaning that gives a next state. -/
abbrev Out := Host.Outcome State Fault Refusal

/-- An instruction of the arithmetic class with two register operands: the result is DATA (spec/04 R128). -/
def State.alu2 (s : State) (t : Tid) (rd rs1 rs2 : Reg) (f : Val → Val → Val) : State :=
  s.issue t.val .a [rs1, rs2] (fun s => s.noPoison t.val [rs1, rs2] (fun s =>
    .go (s.finish t.val rd (Word.data (f (s.w t.val rs1.val).val (s.w t.val rs2.val).val)))))

/-- An instruction of the arithmetic class with one register operand. -/
def State.alu1 (s : State) (t : Tid) (rd rs1 : Reg) (f : Val → Val) : State :=
  s.issue t.val .a [rs1] (fun s => s.noPoison t.val [rs1] (fun s =>
    .go (s.finish t.val rd (Word.data (f (s.w t.val rs1.val).val)))))

/-- A division: a divisor of 0 raises DIVIDE_ZERO with the value of rs1 (spec/04 Table 4.3, spec/05 Table 5.2). -/
def State.divide (s : State) (t : Tid) (rd rs1 rs2 : Reg) (f : Val → Val → Val) : State :=
  s.issue t.val .a [rs1, rs2] (fun s => s.noPoison t.val [rs1, rs2] (fun s =>
    let a := (s.w t.val rs1.val).val
    let b := (s.w t.val rs2.val).val
    if b = 0 then .flt s 0x11 a else .go (s.finish t.val rd (Word.data (f a b)))))

/-- A register copy: no fault for a POISON source (spec/02 Table 2.2). -/
def State.copy (s : State) (t : Tid) (rd rs1 : Reg) (f : Word → Word) : State :=
  s.issue t.val .a [rs1] (fun s => .go (s.finish t.val rd (f (s.w t.val rs1.val))))

/-- ADD (spec/04 Table 4.3). -/
def execAdd (t : Tid) (rd rs1 rs2 : Reg) (s : State) : Out := .next (s.alu2 t rd rs1 rs2 aluAdd)

/-- SUB (spec/04 Table 4.3). -/
def execSub (t : Tid) (rd rs1 rs2 : Reg) (s : State) : Out := .next (s.alu2 t rd rs1 rs2 aluSub)

/-- AND (spec/04 Table 4.3). -/
def execAnd (t : Tid) (rd rs1 rs2 : Reg) (s : State) : Out := .next (s.alu2 t rd rs1 rs2 aluAnd)

/-- OR (spec/04 Table 4.3). -/
def execOr (t : Tid) (rd rs1 rs2 : Reg) (s : State) : Out := .next (s.alu2 t rd rs1 rs2 aluOr)

/-- XOR (spec/04 Table 4.3). -/
def execXor (t : Tid) (rd rs1 rs2 : Reg) (s : State) : Out := .next (s.alu2 t rd rs1 rs2 aluXor)

/-- SLL (spec/04 Table 4.3). -/
def execSll (t : Tid) (rd rs1 rs2 : Reg) (s : State) : Out := .next (s.alu2 t rd rs1 rs2 aluSll)

/-- SRL (spec/04 Table 4.3). -/
def execSrl (t : Tid) (rd rs1 rs2 : Reg) (s : State) : Out := .next (s.alu2 t rd rs1 rs2 aluSrl)

/-- SRA (spec/04 Table 4.3). -/
def execSra (t : Tid) (rd rs1 rs2 : Reg) (s : State) : Out := .next (s.alu2 t rd rs1 rs2 aluSra)

/-- SLT (spec/04 Table 4.3). -/
def execSlt (t : Tid) (rd rs1 rs2 : Reg) (s : State) : Out := .next (s.alu2 t rd rs1 rs2 aluSlt)

/-- SLTU (spec/04 Table 4.3). -/
def execSltu (t : Tid) (rd rs1 rs2 : Reg) (s : State) : Out := .next (s.alu2 t rd rs1 rs2 aluSltu)

/-- MUL (spec/04 Table 4.3). -/
def execMul (t : Tid) (rd rs1 rs2 : Reg) (s : State) : Out := .next (s.alu2 t rd rs1 rs2 aluMul)

/-- MULH (spec/04 Table 4.3). -/
def execMulh (t : Tid) (rd rs1 rs2 : Reg) (s : State) : Out := .next (s.alu2 t rd rs1 rs2 aluMulh)

/-- MULHU (spec/04 Table 4.3). -/
def execMulhu (t : Tid) (rd rs1 rs2 : Reg) (s : State) : Out := .next (s.alu2 t rd rs1 rs2 aluMulhu)

/-- MIN (spec/04 Table 4.3). -/
def execMin (t : Tid) (rd rs1 rs2 : Reg) (s : State) : Out := .next (s.alu2 t rd rs1 rs2 aluMin)

/-- MAX (spec/04 Table 4.3). -/
def execMax (t : Tid) (rd rs1 rs2 : Reg) (s : State) : Out := .next (s.alu2 t rd rs1 rs2 aluMax)

/-- DIV (spec/04 Table 4.3, R129). -/
def execDiv (t : Tid) (rd rs1 rs2 : Reg) (s : State) : Out := .next (s.divide t rd rs1 rs2 aluDiv)

/-- DIVU (spec/04 Table 4.3, R129). -/
def execDivu (t : Tid) (rd rs1 rs2 : Reg) (s : State) : Out := .next (s.divide t rd rs1 rs2 aluDivu)

/-- REM (spec/04 Table 4.3, R129). -/
def execRem (t : Tid) (rd rs1 rs2 : Reg) (s : State) : Out := .next (s.divide t rd rs1 rs2 aluRem)

/-- REMU (spec/04 Table 4.3, R129). -/
def execRemu (t : Tid) (rd rs1 rs2 : Reg) (s : State) : Out := .next (s.divide t rd rs1 rs2 aluRemu)

/-- CLZ (spec/04 Table 4.3). -/
def execClz (t : Tid) (rd rs1 : Reg) (s : State) : Out := .next (s.alu1 t rd rs1 aluClz)

/-- POPC (spec/04 Table 4.3). -/
def execPopc (t : Tid) (rd rs1 : Reg) (s : State) : Out := .next (s.alu1 t rd rs1 aluPopc)

/-- MOV: value and tag (spec/04 Table 4.3). -/
def execMov (t : Tid) (rd rs1 : Reg) (s : State) : Out := .next (s.copy t rd rs1 id)

/-- TAGGET: the tag as a DATA value (spec/04 Table 4.3). -/
def execTagget (t : Tid) (rd rs1 : Reg) (s : State) : Out :=
  .next (s.copy t rd rs1 (fun w => Word.data (w.tag.setWidth 64)))

/-- ADDI (spec/04 R130). -/
def execAddi (t : Tid) (rd rs1 : Reg) (imm : BitVec 16) (s : State) : Out :=
  .next (s.alu1 t rd rs1 (fun a => aluAdd a (sext16 imm)))

/-- ANDI (spec/04 R130). -/
def execAndi (t : Tid) (rd rs1 : Reg) (imm : BitVec 16) (s : State) : Out :=
  .next (s.alu1 t rd rs1 (fun a => aluAnd a (zext16 imm)))

/-- ORI (spec/04 R130). -/
def execOri (t : Tid) (rd rs1 : Reg) (imm : BitVec 16) (s : State) : Out :=
  .next (s.alu1 t rd rs1 (fun a => aluOr a (zext16 imm)))

/-- XORI (spec/04 R130). -/
def execXori (t : Tid) (rd rs1 : Reg) (imm : BitVec 16) (s : State) : Out :=
  .next (s.alu1 t rd rs1 (fun a => aluXor a (zext16 imm)))

/-- SLTI (spec/04 R130). -/
def execSlti (t : Tid) (rd rs1 : Reg) (imm : BitVec 16) (s : State) : Out :=
  .next (s.alu1 t rd rs1 (fun a => aluSlt a (sext16 imm)))

/-- SLTIU (spec/04 R130). -/
def execSltiu (t : Tid) (rd rs1 : Reg) (imm : BitVec 16) (s : State) : Out :=
  .next (s.alu1 t rd rs1 (fun a => aluSltu a (sext16 imm)))

/-- SHI SLL (spec/04 Table 4.2). -/
def execShiSll (t : Tid) (rd rs1 : Reg) (sh : BitVec 6) (s : State) : Out :=
  .next (s.alu1 t rd rs1 (fun a => aluSll a (sh.setWidth 64)))

/-- SHI SRL (spec/04 Table 4.2). -/
def execShiSrl (t : Tid) (rd rs1 : Reg) (sh : BitVec 6) (s : State) : Out :=
  .next (s.alu1 t rd rs1 (fun a => aluSrl a (sh.setWidth 64)))

/-- SHI SRA (spec/04 Table 4.2). -/
def execShiSra (t : Tid) (rd rs1 : Reg) (sh : BitVec 6) (s : State) : Out :=
  .next (s.alu1 t rd rs1 (fun a => aluSra a (sh.setWidth 64)))

/-- SHI ROR (spec/04 Table 4.2). -/
def execShiRor (t : Tid) (rd rs1 : Reg) (sh : BitVec 6) (s : State) : Out :=
  .next (s.alu1 t rd rs1 (fun a => aluRor a (sh.setWidth 64)))

/-- EXT: a field beyond bit 63 raises ILLEGAL (spec/04 R130). -/
def execExt (t : Tid) (rd rs1 : Reg) (pos lenM1 : BitVec 6) (s : State) : Out :=
  .next (s.issue t.val .a [rs1] (fun s =>
    if pos.toNat + lenM1.toNat + 1 > 64 then s.illegal (.ext t rd rs1 pos lenM1)
    else s.noPoison t.val [rs1] (fun s =>
      .go (s.finish t.val rd (Word.data (aluExt (s.w t.val rs1.val).val pos.toNat lenM1.toNat))))))

/-- INS: reads rd as a source; a field beyond bit 63 raises ILLEGAL (spec/04 R130). -/
def execIns (t : Tid) (rd rs1 : Reg) (pos lenM1 : BitVec 6) (s : State) : Out :=
  .next (s.issue t.val .a [rs1, rd] (fun s =>
    if pos.toNat + lenM1.toNat + 1 > 64 then s.illegal (.ins t rd rs1 pos lenM1)
    else s.noPoison t.val [rs1, rd] (fun s =>
      .go (s.finish t.val rd
        (Word.data (aluIns (s.w t.val rd.val).val (s.w t.val rs1.val).val pos.toNat lenM1.toNat))))))

/-- MOVZ: imm16 × 2^(16h) (spec/04 R130). -/
def execMovz (t : Tid) (rd : Reg) (h : BitVec 2) (imm : BitVec 16) (s : State) : Out :=
  .next (s.issue t.val .a [] (fun s => .go (s.finish t.val rd (Word.data (zext16 imm <<< (16 * h.toNat))))))

/-- MOVK: bits [16h + 15 : 16h] of rd replaced; reads rd as a source (spec/04 R130). -/
def execMovk (t : Tid) (rd : Reg) (h : BitVec 2) (imm : BitVec 16) (s : State) : Out :=
  .next (s.issue t.val .a [rd] (fun s => s.noPoison t.val [rd] (fun s =>
    .go (s.finish t.val rd (Word.data (aluIns (s.w t.val rd.val).val (zext16 imm) (16 * h.toNat) 15))))))

/-- The target of a branch or jump, wrapping in the 40-bit PC. -/
def State.target (s : State) (t : Nat) (off : Int) : Nat :=
  ((((s.th t).pc : Int) + 4 * off) % 2 ^ 40).toNat

/-- A compare branch: values only (spec/04 Table 4.5). -/
def State.branch (s : State) (t : Tid) (rs1 rs2 : Reg) (off : BitVec 16) (p : Val → Val → Bool) : State :=
  s.issue t.val .a [rs1, rs2] (fun s => s.noPoison t.val [rs1, rs2] (fun s =>
    if p (s.w t.val rs1.val).val (s.w t.val rs2.val).val then .go (s.jump t.val (s.target t.val off.toInt))
    else .go (s.step1 t.val)))

/-- BEQ (spec/04 Table 4.5). -/
def execBeq (t : Tid) (rs1 rs2 : Reg) (off : BitVec 16) (s : State) : Out :=
  .next (s.branch t rs1 rs2 off (fun a b => a == b))

/-- BNE (spec/04 Table 4.5). -/
def execBne (t : Tid) (rs1 rs2 : Reg) (off : BitVec 16) (s : State) : Out :=
  .next (s.branch t rs1 rs2 off (fun a b => a != b))

/-- BLT (spec/04 Table 4.5). -/
def execBlt (t : Tid) (rs1 rs2 : Reg) (off : BitVec 16) (s : State) : Out :=
  .next (s.branch t rs1 rs2 off sLess)

/-- BGE (spec/04 Table 4.5). -/
def execBge (t : Tid) (rs1 rs2 : Reg) (off : BitVec 16) (s : State) : Out :=
  .next (s.branch t rs1 rs2 off (fun a b => !sLess a b))

/-- BLTU (spec/04 Table 4.5). -/
def execBltu (t : Tid) (rs1 rs2 : Reg) (off : BitVec 16) (s : State) : Out :=
  .next (s.branch t rs1 rs2 off uLess)

/-- BGEU (spec/04 Table 4.5). -/
def execBgeu (t : Tid) (rs1 rs2 : Reg) (off : BitVec 16) (s : State) : Out :=
  .next (s.branch t rs1 rs2 off (fun a b => !uLess a b))

/-- The kind that a kind field names (spec/02 Table 2.1). -/
def kindOf (k : BitVec 2) : TagKind :=
  match k.toNat with
  | 0 => .data
  | 1 => .handle
  | 2 => .code
  | _ => .poison

/-- BTAG: branch on the tag kind; a POISON source raises no fault (spec/04 Table 4.5). -/
def execBtag (t : Tid) (rs1 : Reg) (kind : BitVec 2) (neg : Bool) (off : BitVec 16) (s : State) : Out :=
  .next (s.issue t.val .a [rs1] (fun s =>
    if ((s.w t.val rs1.val).kind == kindOf kind) != neg then .go (s.jump t.val (s.target t.val off.toInt))
    else .go (s.step1 t.val)))

/-- J (spec/04 Table 4.5). -/
def execJ (t : Tid) (off : BitVec 21) (s : State) : Out :=
  .next (s.issue t.val .a [] (fun s => .go (s.jump t.val (s.target t.val off.toInt))))

/-- The return link: PC + 4 with tag CODE (spec/04 Table 4.5, R137). -/
def State.link (s : State) (t : Nat) : Word := ⟨Tag.codeTag, BitVec.ofNat 64 (((s.th t).pc + 4) % 2 ^ 40)⟩

/-- Write a link register and jump; the PC takes the low 40 bits of the target (spec/03 Table 3.2, spec/04 R136). (log entry
222, DESIGN CHOICE). -/
def State.linkJump (s : State) (t : Nat) (rd : Reg) (a : Nat) : State :=
  s.modTh t (fun x => { x.result rd (s.link t) with pc := a % 2 ^ 40 })

/-- JAL (spec/04 Table 4.5). -/
def execJal (t : Tid) (rd : Reg) (off : BitVec 21) (s : State) : Out :=
  .next (s.issue t.val .a [] (fun s => .go (s.linkJump t.val rd (s.target t.val off.toInt))))

/-- JALR: unprivileged it needs a CODE operand, privileged DATA or CODE; a target off a word raises ALIGN (spec/04 R136). -/
def execJalr (t : Tid) (rd rs1 : Reg) (imm : BitVec 16) (s : State) : Out :=
  .next (s.issue t.val .a [rs1] (fun s => s.noPoison t.val [rs1] (fun s =>
    let w := s.w t.val rs1.val
    let a := w.val + sext16 imm
    if w.kind ≠ .code ∧ ¬ (w.kind = .data ∧ s.priv t.val) then s.tagKind w
    else if a.toNat % 4 ≠ 0 then .flt s 0x03 a
    else .go (s.linkJump t.val rd a.toNat))))

/-- TAGSET: a reserved tag, or a POISON tag whose cause is outside 0x20 to 0x3E, raises ILLEGAL (spec/04 R149). -/
def execTagset (t : Tid) (rd rs1 : Reg) (tag : BitVec 8) (s : State) : Out :=
  .next (s.issue t.val .a [rs1] (fun s =>
    if Tag.reserved tag || (Tag.kind tag == .poison && !(0x20 ≤ Tag.low6 tag && Tag.low6 tag ≤ 0x3E)) then
      s.illegal (.tagset t rd rs1 tag)
    else if !s.priv t.val then s.privilege (.tagset t rd rs1 tag)
    else .go (s.finish t.val rd ⟨tag, (s.w t.val rs1.val).val⟩)))

/-- The value MFSR reads (spec/04 Table 4.13); none: ILLEGAL (R159, R160); EPOCH of a Puppeteer core is 0. (log entry 244, DESIGN
CHOICE). -/
def State.sysReg (s : State) (t n : Nat) : Option Nat :=
  let x := s.th t
  match n with
  | 0x00 => some t
  | 0x01 => some x.acct
  | 0x02 => some x.epoch
  | 0x03 => some ((if x.held.isSome then 1 else 0) + (if s.priv t then 2 else 0))
  | 0x08 => if isPcore t then some x.evpend else none
  | 0x09 => if isPcore t then some x.evmask else none
  | 0x0A => if isPcore t then some 0 else none
  | _ => none

/-- MFSR (spec/04 R159, R160). -/
def execMfsr (t : Tid) (rd : Reg) (n : BitVec 5) (s : State) : Out :=
  .next (s.issue t.val .a [] (fun s =>
    match s.sysReg t.val n.toNat with
    | none => s.illegal (.mfsr t rd n)
    | some v => .go (s.finish t.val rd (Word.data (BitVec.ofNat 64 v)))))

/-- The events of P-core 0 whose cause stands: an item in the forward queue, a received UART byte (spec/12 R461, spec/18
R658). -/
def State.standing (s : State) (t : Nat) : Nat :=
  if t = 192 then (if s.dict.fwd.isEmpty then 0 else Ev.dictFwd.mask) + (if s.host.rx.isEmpty then 0 else Ev.host.mask) else 0

/-- The effect of MTSR on a Puppeteer core (spec/04 R159, Table 4.13): EVPEND clears the bits written as 1 but those whose
cause stands, EVMASK is written, MAILBOX sets MAILBOX in the other core. -/
def State.writeSys (s : State) (t n : Nat) (v : Val) : State :=
  match n with
  | 0x08 => s.modTh t (fun x => { x with evpend := Nat.lor (x.evpend - Nat.land x.evpend v.toNat) (s.standing t) })
  | 0x09 => s.modTh t (fun x => { x with evmask := v.toNat % 2 ^ 12 })
  | _ => if v.toNat % 2 = 1 then s.event (193 - t) .mailbox else s

/-- MTSR: only a Puppeteer core has a writable system register (spec/04 R159, R160). -/
def execMtsr (t : Tid) (rs1 : Reg) (n : BitVec 5) (s : State) : Out :=
  .next (s.issue t.val .a [rs1] (fun s =>
    if !(isPcore t.val && (n.toNat == 0x08 || n.toNat == 0x09 || n.toNat == 0x0A)) then s.illegal (.mtsr t rs1 n)
    else s.noPoison t.val [rs1] (fun s =>
      .go ((s.writeSys t.val n.toNat (s.w t.val rs1.val).val).step1 t.val))))

/-- TRAP: raises TRAP, the code in INFO (spec/04 Table 4.9, spec/05 Table 5.2). -/
def execTrap (t : Tid) (code : BitVec 5) (s : State) : Out :=
  .next (s.issue t.val .a [] (fun s => .flt s 0x10 (code.setWidth 64)))

/-- A word that decodes to no instruction raises ILLEGAL (spec/04 R122); a command that names a word that does decode is
not one of this row's. -/
def execReservedOpcode (t : Tid) (w : BitVec 32) (s : State) : Out :=
  if (decodeIsa t w).isSome then .fault .illFormed
  else .next (s.issue t.val .a [] (fun s => s.illegal (.reservedOpcode t w)))

end Sys2Proof.Machine
end

