-- ==== Sys2Proof/Machine/Pools.lean ====
section
/-! DEFINITION. The pool manager (spec/06): builds, allocation and return, the handle checks, lending, the leak audit. -/

namespace Sys2Proof.Machine

/-! ### Layout and builds -/

/-- Pool `p`. -/
def State.pool (s : State) (p : Nat) : Pool := tget (fun _ => Pool.unbuilt) s.pools p

/-- Replace pool `p`. -/
def State.setPool (s : State) (p : Nat) (q : Pool) : State :=
  { s with pools := tset (fun _ => Pool.unbuilt) s.pools p q }

/-- The layout that the registers of pool `p` give (spec/06 R205). -/
def State.layoutOf (s : State) (p : Nat) : Layout where
  size := 2 ^ (s.rd (F.POOL_CFG_SIZE p) + 6)
  base := s.pair (F.POOL_BASE_LO_BASE p) (F.POOL_BASE_HI_BASE p)
  count := s.rd (F.POOL_COUNT_COUNT p)
  meta_ := s.pair (F.POOL_META_LO_META p) (F.POOL_META_HI_META p)

/-- Whether two address ranges [a, a + n) and [b, b + m) share an address. -/
def overlap (a n b m : Nat) : Bool := decide (a < b + m) && decide (b < a + n) && decide (0 < n) && decide (0 < m)

/-- The two areas of a layout. -/
def Layout.areas (l : Layout) : List (Nat × Nat) := [(l.base, l.count * l.size), (l.meta_, l.count * 8)]

/-- Whether an area lies in the memory of pool `p` (spec/06 R204): ingot for 0 to 7, one SDRAM channel's populated
capacity for 8 to 15. -/
def State.areaIn (s : State) (p : Nat) (ch : Nat) (a : Nat × Nat) : Bool :=
  if p < 8 then decide (a.1 + a.2 ≤ 0x1000000)
  else
    let b := 0x1000000000 + ch * 0x800000000
    decide (b ≤ a.1) && decide (a.1 + a.2 ≤ b + s.sdCapacity ch)

/-- The SDRAM channel of an address. -/
def sdChannel (a : Nat) : Nat := (a - 0x1000000000) / 0x800000000 % 2

/-- The first check of Table 6.1 that a layout fails; 0: none. -/
def State.layoutCheck (s : State) (p : Nat) (l : Layout) : Nat :=
  let ch := sdChannel l.base
  let others := s.pools.flatMap (fun (q, x) => if q = p then [] else
    (match x.built with | some m => m.areas | none => []) ++ (match x.building with | some m => m.areas | none => []))
  if s.rd (F.POOL_CFG_SIZE p) > 8 then 1
  else if l.base % l.size ≠ 0 then 2
  else if !(l.areas.all (s.areaIn p ch)) then 3
  else if overlap l.base (l.count * l.size) l.meta_ (l.count * 8) ||
      l.areas.any (fun a => others.any (fun b => overlap a.1 a.2 b.1 b.2)) then 4
  else if l.count = 0 || l.count > 1048576 then 5
  else if l.meta_ % 8 ≠ 0 then 6
  else if s.rd (F.POOL_INUSE_COUNT p) ≠ 0 || s.rd (F.POOL_LENT_COUNT p) ≠ 0 then 7
  else 0

/-- ENABLE changes from 0 to 1 (spec/06 R205, R674): with a layout that is built or being built and not changed since, nothing
more; else the layout is checked, and the build starts or is refused. A build that passes its checks takes the place of one
that is under way for an older layout. (log entry 200, DESIGN CHOICE). -/
def State.poolEnabled (s : State) (p : Nat) : State :=
  let q := s.pool p
  if (q.built.isSome || q.building.isSome) && !q.dirty then s
  else
    let l := s.layoutOf p
    let c := s.layoutCheck p l
    let s := s.wr (F.POOL_STATUS_READY p) 0
    if c ≠ 0 then
      ((s.wr (F.POOL_STATUS_CFG_ERR p) 1).wr (F.POOL_STATUS_ERR_CAUSE p) c).offer 0x06 0x01 (p * 256 + c)
    else
      (((s.wr (F.POOL_STATUS_CFG_ERR p) 0).wr (F.POOL_STATUS_ERR_CAUSE p) 0).wr (F.POOL_STATUS_BUILDING p) 1).setPool p
        { q with building := some l, dirty := false }

/-- A word of a fresh metadata area: free, generation 0, owner 0, linked to the next buffer (spec/06 R206, R216). -/
def freshMeta (count i : Nat) : Word := Word.data (BitVec.ofNat 64 (if i + 1 < count then i + 1 else 0xFFFFFFFF))

/-- A layout field of pool `p` has changed value (spec/06 R205): the pool is no longer built under its present layout, so READY
is 0 until a build passes (Table 6.7, R674). (log entry 71, DEDUCED). -/
def State.layoutTouched (s : State) (p : Nat) : State :=
  (s.setPool p { s.pool p with dirty := true }).wr (F.POOL_STATUS_READY p) 0

/-! ### Metadata words (spec/06 Table 6.2) -/

/-- GEN. -/
def mGen (v : Nat) : Nat := bits v 56 8
/-- OWNER. -/
def mOwner (v : Nat) : Nat := bits v 50 6
/-- ALLOC. -/
def mAlloc (v : Nat) : Bool := bits v 49 1 = 1
/-- LENT. -/
def mLent (v : Nat) : Bool := bits v 48 1 = 1
/-- SAT. -/
def mSat (v : Nat) : Bool := bits v 47 1 = 1
/-- RETIRE. -/
def mRetire (v : Nat) : Bool := bits v 46 1 = 1
/-- TIME or NEXT. -/
def mTime (v : Nat) : Nat := bits v 0 32

/-- A metadata word: generation, owner, the five flag bits [49:45], TIME or NEXT. -/
def mkMeta (gen owner flags time : Nat) : Word :=
  Word.data (BitVec.ofNat 64 (gen % 256 * 2 ^ 56 + owner % 64 * 2 ^ 50 + flags % 32 * 2 ^ 45 + time % 2 ^ 32))

/-- The pool manager reads the metadata of a buffer: the state after its memory has corrected or reported what it met. -/
def State.readMeta (s : State) (l : Layout) (i : Nat) : State := s.touchMeta (l.meta_ + 8 * i)

/-- The metadata of a buffer; that of an SDRAM channel that answers NOT_READY stands in the pool manager's metadata cache. (log
entry 229, DESIGN CHOICE). -/
def State.metaOf (s : State) (l : Layout) (i : Nat) : Nat := (s.word (l.meta_ + 8 * i)).val.toNat

/-- Write the metadata of a buffer. -/
def State.setMeta (s : State) (l : Layout) (i : Nat) (w : Word) : State := s.setWord (l.meta_ + 8 * i) w

/-! ### Reserves (spec/06 R225, R226) -/

/-- The accounts' granted reserves of a pool, in ascending account number, with what remains of N. -/
def State.grants (s : State) (p n : Nat) : List Nat :=
  ((List.range 64).foldl (fun (acc : List Nat × Nat) a =>
    let g := min (s.rd (F.ACCT_RES_RES p a)) acc.2
    (acc.1 ++ [g], acc.2 - g)) ([], n)).1

/-- U of a pair of pool and account. -/
def State.inUse (s : State) (p a : Nat) : Nat := s.rd (F.ACCT_INUSE_INUSE p a)

/-- The sum G of the granted reserves. -/
def State.sumG (s : State) (p n : Nat) : Nat := (s.grants p n).sum

/-- The shared free count N − G − S − L − X; it can be negative. -/
def State.sharedFree (s : State) (p n : Nat) : Int :=
  let g := s.grants p n
  let excess := ((List.range 64).map (fun a => s.inUse p a - g.getD a 0)).sum
  (n : Int) - g.sum - excess - s.rd (F.POOL_LENT_COUNT p) - s.rd (F.POOL_RETIRED_COUNT p)

/-! ### Free list, allocation, return -/

/-- A buffer leaves service (spec/06 R240, R243): RETIRED set, RETIRE as it was, counted, recorded. -/
def State.retireBuf (s : State) (p : Nat) (l : Layout) (i : Nat) : State :=
  let s := s.readMeta l i
  let v := s.metaOf l i
  let s := s.setMeta l i (mkMeta (mGen v) (mOwner v) (if mRetire v then 0b00011 else 0b00001) s.nowMs)
  (s.wr (F.POOL_RETIRED_COUNT p) (s.rd (F.POOL_RETIRED_COUNT p) + 1)).offer 0x06 0x02 (l.base + i * l.size)

/-- Unlink the buffer at the head of the free list, whose metadata value is `v`. -/
def State.unlink (s : State) (p v : Nat) : State :=
  (s.setPool p { s.pool p with head := mTime v }).drop (F.POOL_FREE_FREE p)

/-- An allocation or a loan reaches the head of the free list: it unlinks and retires the buffers marked RETIRE that stand there
(spec/06 R216, R240). -/
def State.retireHeads (s : State) (p : Nat) (l : Layout) : Nat → State
  | 0 => s
  | fuel + 1 =>
    let i := (s.pool p).head
    if i ≥ l.count then s
    else
      let s := s.readMeta l i
      let v := s.metaOf l i
      if mRetire v then ((s.unlink p v).retireBuf p l i).retireHeads p l fuel else s

/-- Take the buffer at the head of the free list. -/
def State.popFree (s : State) (p : Nat) (l : Layout) : State × Option Nat :=
  let i := (s.pool p).head
  if i ≥ l.count then (s, none) else (s.unlink p (s.metaOf l i), some i)

/-- A handle value (spec/06 Table 6.3). -/
def mkHandle (p gen i : Nat) : Val := BitVec.ofNat 64 (p % 16 * 2 ^ 60 + gen % 256 * 2 ^ 52 + i % 2 ^ 20 * 2 ^ 32)

/-- POOL of a handle. -/
def hPool (v : Val) : Nat := bits v.toNat 60 4
/-- GEN of a handle. -/
def hGen (v : Val) : Nat := bits v.toNat 52 8
/-- INDEX of a handle. -/
def hIndex (v : Val) : Nat := bits v.toNat 32 20
/-- OFFSET of a handle. -/
def hOffset (v : Val) : Nat := bits v.toNat 0 32

/-- Send a pause frame on an uplink (spec/11 R406). -/
def State.sendPause (s : State) (u quanta : Nat) : State :=
  (({ s with
      out := s.out ++ [Output.pause u quanta]
      pauseAt := tset (fun _ => 0) s.pauseAt u s.acc
      pauseSent := tset (fun _ => 0) s.pauseSent u quanta }.bump
    (F.UPL_TX_PAUSE_CNT_COUNT u)).wr (F.UPL_STATUS_XOFF u) (if quanta = 0 then 0 else 1))

/-- An UP uplink whose ingress pool's free count has crossed its thresholds sends pause (spec/11 R406). -/
def State.pausePort (s : State) (u : Nat) : State :=
  if s.is (F.UPL_CTL_PAUSE_TX_EN u) && s.is (F.UPL_STATUS_UP u) then
    let n := s.rd (F.POOL_FREE_FREE (s.rd (F.UPL_ING_POOL u)))
    if !s.is (F.UPL_STATUS_XOFF u) && n < s.rd (F.UPL_XOFF_THR_COUNT u) then s.sendPause u (s.rd (F.UPL_PAUSE_QUANTA u))
    else if s.is (F.UPL_STATUS_XOFF u) && n ≥ s.rd (F.UPL_XON_THR_COUNT u) then s.sendPause u 0
    else s
  else s

/-- The free count of pool `p` has changed: the uplinks that take frames into it (spec/11 R406). (log entry 89, DEDUCED). -/
def State.pauseCheck (s : State) (p : Nat) : State :=
  [0, 1].foldl (fun s u => if s.rd (F.UPL_ING_POOL u) == p then s.pausePort u else s) s

/-- Whether a layout's memory answers: an ingot pool's always, an SDRAM pool's while its channel does (spec/02 R66, spec/15
R531). -/
def State.poolAnswers (s : State) (p : Nat) (l : Layout) : Bool := decide (p < 8) || s.sdReady (sdChannel l.base)

/-- A build ends (spec/06 R206, R207): the metadata is written, the free list linked, READY set unless the layout has changed
since its start (Table 6.7). Without VCORE, as after a halt of the data plane, no build ends (spec/15 R550). -/
def State.buildDone (s : State) (p : Nat) : State :=
  let q := s.pool p
  match q.building with
  | none => s
  | some l =>
    if !s.vcoreOn || !s.poolAnswers p l then s
    else
      let s := (List.range l.count).foldl (fun s i => s.setWord (l.meta_ + 8 * i) (freshMeta l.count i)) s
      let s := s.setPool p { q with built := some l, building := none, head := 0 }
      let s := (s.wr (F.POOL_STATUS_BUILDING p) 0).wr (F.POOL_STATUS_READY p) (if q.dirty then 0 else 1)
      ((s.wr (F.POOL_FREE_FREE p) l.count).wr (F.POOL_RETIRED_COUNT p) 0).pauseCheck p

/-- What an allocation comes to: a buffer of a layout under a generation, or a cause of Table 2.3. -/
inductive Alloc where
  | ok (l : Layout) (i gen : Nat)
  | fail (cause : Nat)
  deriving DecidableEq, Repr

/-- Whether a buffer of pool `p` is available to account `a` within its reserve or the shared free count (spec/06 R225). -/
def State.availTo (s : State) (p n a : Nat) : Bool :=
  decide (s.inUse p a < (s.grants p n).getD a 0) || decide (0 < s.sharedFree p n)

/-- Allocate from pool `p` for account `a` (spec/06 R208, R215, R216, R218, R225, R227); the buffers that it retires on the way
count before it is served (R240). A pool whose channel answers NOT_READY acts as one before its fill. (log entry 229, DESIGN
CHOICE). -/
def State.alloc (s : State) (p a : Nat) : State × Alloc :=
  match (s.pool p).built with
  | none => (s, .fail 0x03)
  | some l =>
    if !s.is (F.POOL_STATUS_READY p) || !s.is (F.POOL_CFG_ENABLE p) || !s.poolAnswers p l then (s, .fail 0x03)
    else
      let u := s.inUse p a
      let lim := max (s.rd (F.ACCT_LIMIT_LIMIT p a)) (s.rd (F.ACCT_RES_RES p a))
      if u ≥ lim then (s, .fail 0x02)
      else if !s.availTo p l.count a then (s, .fail 0x01)
      else
        let n := s.rd (F.POOL_FREE_FREE p)
        let s := s.retireHeads p l n
        match (if s.availTo p l.count a then s.popFree p l else (s, none)) with
        | (s, none) => (if s.rd (F.POOL_FREE_FREE p) = n then s else s.pauseCheck p, .fail 0x01)
        | (s, some i) =>
          let g := mGen (s.metaOf l i)
          let g := if g = 255 then 1 else g + 1
          let s := s.setMeta l i (mkMeta g a 0b10000 s.nowMs)
          let s := s.wr (F.ACCT_INUSE_INUSE p a) (u + 1)
          let s := s.wr (F.POOL_INUSE_COUNT p) (s.rd (F.POOL_INUSE_COUNT p) + 1)
          (s.pauseCheck p, .ok l i g)

/-- Put a buffer at the head of the free list, or retire it (spec/06 R222, R240, R243), after its lines have left the tile
caches (spec/02 R55). (log entry 72, DEDUCED). -/
def State.toFreeList (s : State) (p : Nat) (l : Layout) (i : Nat) (faulty : Bool) : State :=
  let s := (s.flushRange (l.base + i * l.size) l.size).readMeta l i
  let v := s.metaOf l i
  if mRetire v || faulty then s.retireBuf p l i
  else
    let s := s.setMeta l i (mkMeta (mGen v) (mOwner v) 0 (s.pool p).head)
    let s := s.setPool p { s.pool p with head := i }
    (s.wr (F.POOL_FREE_FREE p) (s.rd (F.POOL_FREE_FREE p) + 1)).pauseCheck p

/-- Return an allocated buffer (spec/06 R222, R223). -/
def State.giveBack (s : State) (p : Nat) (l : Layout) (i : Nat) : State :=
  let s := s.readMeta l i
  let a := mOwner (s.metaOf l i)
  let s := (s.drop (F.ACCT_INUSE_INUSE p a)).drop (F.POOL_INUSE_COUNT p)
  s.toFreeList p l i false

/-- Return the buffer of a handle without checks of owner or range (spec/06 R223); a handle whose buffer is not allocated
under its generation names no buffer to return. -/
def State.release (s : State) (h : Word) : State :=
  let p := hPool h.val
  match (s.pool p).built with
  | some l =>
    let s := if hIndex h.val < l.count then s.readMeta l (hIndex h.val) else s
    let v := s.metaOf l (hIndex h.val)
    if hIndex h.val < l.count && mAlloc v && mGen v == hGen h.val then s.giveBack p l (hIndex h.val) else s
  | none => s

/-! ### Handle checks (spec/06 Table 6.4) -/

/-- What a handle is used for. -/
inductive Use where
  | access | free | xmit
  deriving DecidableEq, Repr

/-- The metadata lookup of checks 2 and 3 of Table 6.4, where they apply: the state after the read. -/
def State.touchHandle (s : State) (h : Word) (use : Use) : State :=
  match (s.pool (hPool h.val)).built with
  | none => s
  | some l =>
    if hIndex h.val ≥ l.count || (use == .access && s.rd (F.POOL_CFG_MODE (hPool h.val)) == 1) then s
    else s.readMeta l (hIndex h.val)

/-- Checks 1 to 3 of Table 6.4 for a user of an account; the fault code of the first that fails. (log entry 75, DEDUCED). -/
def State.handleCheck (s : State) (h : Word) (use : Use) (acct : Nat) (any : Bool) : Option Nat :=
  let p := hPool h.val
  match (s.pool p).built with
  | none => some 0x07
  | some l =>
    if hIndex h.val ≥ l.count then some 0x07
    else if use = .access && s.rd (F.POOL_CFG_MODE p) == 1 then none
    else
      let v := s.metaOf l (hIndex h.val)
      if hGen h.val = 0 || hGen h.val ≠ mGen v then some 0x09
      else if !mAlloc v then some (if use = .free then 0x0A else 0x09)
      else if Tag.low6 h.tag ≠ mOwner v || !(any || acct == Tag.low6 h.tag || acct == 0) then some 0x08
      else none

/-- The built layout of a handle's pool. -/
def State.hLayout (s : State) (h : Word) : Layout := ((s.pool (hPool h.val)).built).getD ⟨64, 0, 0, 0⟩

/-- Check 4 of Table 6.4: OFFSET + imm in [0, size − n]. -/
def rangeOk (l : Layout) (off : Int) (n : Nat) : Bool := decide (0 ≤ off) && decide (off + n ≤ l.size)

/-- The address of a buffer byte (spec/06 R217). -/
def State.hAddr (s : State) (h : Word) (off : Nat) : Nat :=
  let l := s.hLayout h
  l.base + hIndex h.val * l.size + off

/-! ### Lending (spec/06 R242 to R244) -/

/-- Whether a loan from pool `p` keeps the floor, the lending limit and the reserves (spec/06 R242, R244). -/
def State.canLend (s : State) (p : Nat) (l : Layout) : Bool :=
  let n := s.rd (F.POOL_LENT_COUNT p)
  let sh := s.sharedFree p l.count
  s.is (F.POOL_STATUS_READY p) && s.poolAnswers p l && n < s.rd (F.LEND_MAX_MAX p) && decide (sh ≥ 1)
    && decide (sh - 1 ≥ s.rd (F.LEND_FLOOR_FLOOR p))
    && decide (n + 1 + s.rd (F.POOL_RETIRED_COUNT p) + s.sumG p l.count ≤ l.count)

/-- Lend a free buffer of pool `p`; none: refused. The buffers that it retires on the way count before it is served
(R240). (log entry 201, DEDUCED). -/
def State.lend (s : State) (p : Nat) : State × Option (Layout × Nat) :=
  match (s.pool p).built with
  | none => (s, none)
  | some l =>
    if !s.canLend p l then (s, none)
    else
      let n := s.rd (F.POOL_FREE_FREE p)
      let s := s.retireHeads p l n
      match (if s.canLend p l then s.popFree p l else (s, none)) with
      | (s, none) => (if s.rd (F.POOL_FREE_FREE p) = n then s else s.pauseCheck p, none)
      | (s, some i) =>
        let v := s.metaOf l i
        let s := s.setMeta l i (mkMeta (mGen v) (mOwner v) 0b01000 s.nowMs)
        ((s.wr (F.POOL_LENT_COUNT p) (s.rd (F.POOL_LENT_COUNT p) + 1)).pauseCheck p, some (l, i))

/-- A loan comes back, marked faulty or not. -/
def State.lendReturn (s : State) (p : Nat) (l : Layout) (i : Nat) (faulty : Bool) : State :=
  (s.drop (F.POOL_LENT_COUNT p)).toFreeList p l i faulty

/-! ### Leak audit (spec/06 R235 to R239) -/

/-- Whether a pool's mode takes part in aging and audit (spec/06 Table 6.5); the reserved mode 0 acts as BOTH. -/
def State.audited (s : State) (p : Nat) : Bool := s.rd (F.POOL_CFG_MODE p) != 2

/-- The age of an allocated buffer in ms (spec/06 R235). -/
def ageOf (now v : Nat) : Nat := if mSat v then 65535 else satTo 65535 ((now % 2 ^ 32 + 2 ^ 32 - mTime v) % 2 ^ 32)

/-- Change each metadata word of each built pool, pools and buffers in ascending order. (log entry 225, DESIGN CHOICE). -/
def State.overBuffers (s : State) (sel : Nat → Bool) (f : State → Nat → Layout → Nat → State) : State :=
  (List.range 16).foldl (fun s p => if sel p then
    match (s.pool p).built with
    | some l => (List.range l.count).foldl (fun s i => f s p l i) s
    | none => s
    else s) s

/-- The background sweep sets SAT on every buffer whose age has reached 65,535 (spec/06 R235). -/
def State.ageSweep (s : State) : State :=
  s.overBuffers s.audited (fun s _ l i =>
    let s := s.readMeta l i
    let v := s.metaOf l i
    if mAlloc v && ageOf s.nowMs v == 65535 then s.orMeta (l.meta_ + 8 * i) 47 else s)

/-- A scan starts unless one runs (spec/06 R236, R237). -/
def State.auditStart (s : State) : State :=
  if s.is F.AUDIT_CTL_BUSY then s
  else
    let s := (List.range 64).foldl (fun s a =>
      ((s.wr (F.AUD_OLD_COUNT a) 0).wr (F.AUD_MAXAGE_AGE a) 0).wr (F.AUD_OLDEST_HANDLE a) 0) s
    ((s.wr F.AUDIT_WRITTEN_COUNT 0).wr F.AUDIT_WRITTEN_TRUNC 0).wr F.AUDIT_CTL_BUSY 1

/-- The scan of one allocated buffer over its owner's threshold (spec/06 R237, R238); with AUDIT_MAX 0 no record is written, and
TRUNC is set when one was found. (log entry 226, DESIGN CHOICE). -/
def State.auditHit (s : State) (p i v age : Nat) : State :=
  let a := mOwner v
  let h := p * 2 ^ 28 + mGen v * 2 ^ 20 + i
  let s := s.wr (F.AUD_OLD_COUNT a) (s.rd (F.AUD_OLD_COUNT a) + 1)
  let s := if age > s.rd (F.AUD_MAXAGE_AGE a)
    then (s.wr (F.AUD_MAXAGE_AGE a) age).wr (F.AUD_OLDEST_HANDLE a) h else s
  let n := s.rd F.AUDIT_WRITTEN_COUNT
  let m := s.rd F.AUDIT_MAX_MAX
  if n < m then
    let k := s.rd F.AUDIT_DST_ADDR / 8 * 8 + 8 * n
    let s := if k < 0x80000
      then s.setWord (mbusWindow + k) (Word.data (BitVec.ofNat 64 (h * 2 ^ 32 + age * 2 ^ 16 + a * 2 ^ 8))) else s
    s.wr F.AUDIT_WRITTEN_COUNT (n + 1)
  else s.wr F.AUDIT_WRITTEN_TRUNC 1

/-- The scan ends (spec/06 R236 to R239): every allocated buffer of the selected pools has been read once, under the values that
the audit's registers hold now. (log entry 224, DESIGN CHOICE). -/
def State.auditDone (s : State) : State :=
  if !s.is F.AUDIT_CTL_BUSY then s
  else
    let mask := s.rd F.AUDIT_POOLS_MASK
    let s := s.overBuffers (fun p => mask.testBit p && s.audited p) (fun s p l i =>
      let s := s.readMeta l i
      let v := s.metaOf l i
      let age := ageOf s.nowMs v
      if mAlloc v && age ≥ s.rd (F.AUD_THR_THR (mOwner v)) then s.auditHit p i v age else s)
    (s.wr F.AUDIT_CTL_BUSY 0).wr F.AUDIT_CTL_DONE 1

/-- A write to AUDIT_CTL (spec/06 R236): DONE is W1C, a changed PERIOD_S restarts the count, START starts a scan. -/
def State.auditCtlWrite (s : State) (v : BitVec 32) : State :=
  let old := s.rd F.AUDIT_CTL_PERIOD_S
  let new := bits v.toNat 24 8
  let s := if bits v.toNat 16 1 = 1 then s.wr F.AUDIT_CTL_DONE 0 else s
  let s := s.wr F.AUDIT_CTL_PERIOD_S new
  let s := if new = old then s
    else { s with audit := ⟨if new = 0 then none else some (s.nowNs + new * 1000000000)⟩ }
  if bits v.toNat 0 1 = 1 then s.auditStart else s

/-- The audit period expires (spec/06 R236): the next period is counted from this expiry. (log entry 73, DEDUCED). -/
def State.auditExpiry (s : State) : State :=
  match s.audit.next with
  | some n =>
    if n ≤ s.nowNs then
      { s with audit := ⟨some (n + s.rd F.AUDIT_CTL_PERIOD_S * 1000000000)⟩ }.auditStart
    else s
  | none => s

end Sys2Proof.Machine
end

