-- ==== Sys2Proof/Machine/Sched.lean ====
section
/-! DEFINITION. The scheduler (spec/09): enqueue, order domains, transmit queues, retirement, completion records, delivery,
cancellation. -/

namespace Sys2Proof.Machine

/-! ### Transmit queues (spec/11 R421 to R423) -/

/-- The transmit queue of an egress port. -/
def State.txOf (s : State) (port : Nat) : PortQ := tget (fun _ => PortQ.empty) s.txq port

/-- Replace a transmit queue. -/
def State.setTx (s : State) (port : Nat) (q : PortQ) : State :=
  { s with txq := tset (fun _ => PortQ.empty) s.txq port q }

/-- The places of a port's transmit queue (spec/11 R421); the ring's queue has no stated bound. -/
def txPlaces (port : Nat) : Option Nat := if port < 48 then some 64 else if port = 64 ∨ port = 65 then some 4096 else none

/-- Whether a port is UP (spec/11 R400, R416); the ring port holds its frames. -/
def State.portUp (s : State) (port : Nat) : Bool :=
  if port < 48 then s.rd (F.CL_STATUS_STATE port) == 2
  else if port = 64 ∨ port = 65 then s.is (F.UPL_STATUS_UP (port - 64))
  else true

/-- The counter of frames that a DOWN port discards (spec/11 R423). -/
def downCnt (port : Nat) : Fld :=
  if port < 48 then F.CL_TX_DOWN_DROP_CNT_COUNT port else F.UPL_TX_DOWN_DROP_CNT_COUNT (port - 64)

/-- A frame's turn to enter its port's queue comes: a DOWN port discards it, a full queue makes it wait (spec/11 R421, R423).
(log entries 68, DEDUCED; 88, DEDUCED). -/
def State.toPort (s : State) (f : TxFrame) : State :=
  if !s.portUp f.port then (s.release f.handle).bump (downCnt f.port)
  else
    let q := s.txOf f.port
    let full := match txPlaces f.port with | some n => q.queue.length ≥ n | none => false
    if full || !q.line.isEmpty then s.setTx f.port { q with line := q.line ++ [f] }
    else s.setTx f.port { q with queue := q.queue ++ [f] }

/-- A place of a port's queue is free: the frame that has waited longest takes it (spec/11 R421). -/
def State.refill (s : State) (port : Nat) : State :=
  let q := s.txOf port
  match q.line with
  | f :: r =>
    if (match txPlaces port with | some n => decide (q.queue.length < n) | none => true)
    then s.setTx port ⟨q.queue ++ [f], r⟩ else s
  | [] => s

/-- A port goes DOWN: it discards its queue and the frames that wait for it (spec/11 R423). -/
def State.discardTx (s : State) (port : Nat) : State :=
  let q := s.txOf port
  (q.queue ++ q.line).foldl (fun s f => (s.release f.handle).bump (downCnt port)) (s.setTx port PortQ.empty)

/-! ### Retirement (spec/09 R313, R314, R324) -/

/-- The completion record of a task (spec/09 Table 9.8). -/
def Task.cplRecord (x : Task) (n status thread : Nat) : Nat :=
  n % 65536 * 2 ^ 48 + x.serial % 256 * 2 ^ 40 + x.domain.getD 0 % 4096 * 2 ^ 28 + x.group % 16 * 2 ^ 24
    + status % 256 * 2 ^ 16 + thread % 256 * 2 ^ 8 + (if x.vheld then x.version % 256 else 0)

/-- A task leaves: its record is written, its descriptor returns to its group's share, its version hold ends (spec/09 R324).
(log entry 65, DESIGN CHOICE). -/
def State.retire (s : State) (n status thread : Nat) : State :=
  match s.task n with
  | none => s
  | some x =>
    { s with
      tasks := odel n s.tasks
      sched := { s.sched with cpl := s.sched.cpl ++ [x.cplRecord n status thread] } }.pokeSend

/-- The frames that a task holds enter their port queues (spec/09 R314). -/
def State.releaseFrames (s : State) (n : Nat) : State :=
  match s.task n with
  | none => s
  | some x => x.frames.foldl State.toPort (s.setTask n { x with frames := [] })

/-- After a change in a domain (spec/09 Table 9.5): its earliest task passes its frames on; if it has completed it retires and
the next follows; if it waits in an ATOMIC domain it becomes ready. -/
def State.settle (s : State) (d : Nat) : Nat → State
  | 0 => s
  | fuel + 1 =>
    match s.domTasks d with
    | [] => s
    | (n, _) :: _ =>
      let s := s.releaseFrames n
      match s.task n with
      | none => s
      | some x => match x.stage with
        | .completed st th => (s.retire n st th).settle d fuel
        | .waiting =>
          let q := s.sched.seq
          ({ s with sched := { s.sched with seq := q + 1 } }.setTask n { x with stage := .ready q }).noteB
        | _ => s

/-- A task that waits in an ATOMIC domain becomes ready; one that has completed leaves; each passes its frames on. -/
def State.setFree (s : State) (n : Nat) : State :=
  let s := s.releaseFrames n
  match s.task n with
  | none => s
  | some x => match x.stage with
    | .completed st th => s.retire n st th
    | .waiting =>
      let q := s.sched.seq
      ({ s with sched := { s.sched with seq := q + 1 } }.setTask n { x with stage := .ready q }).noteB
    | _ => s

/-- The type of a domain has changed: from then on the tasks in flight follow Table 9.5's row of the new type. (log entry 202,
DESIGN CHOICE). -/
def State.retype (s : State) (d : Nat) : State :=
  let l := s.domTasks d
  if s.domType d = 2 then l.foldl (fun s e => s.setFree e.1) s
  else
    let s := if s.domType d = 0 then
        l.foldl (fun s e => if e.2.stage = .waiting then
          (let q := s.sched.seq
           ({ s with sched := { s.sched with seq := q + 1 } }.setTask e.1 { e.2 with stage := .ready q }).noteB) else s) s
      else s
    s.settle d (s.tasks.length + 1)

/-- A task completes (spec/09 R313, R314): in a PARALLEL domain, and for a fault record, it retires at once; else when its
turn in the domain comes. -/
def State.complete (s : State) (n status thread : Nat) : State :=
  match s.task n with
  | none => s
  | some x => match x.domain with
    | none => (s.releaseFrames n).retire n status thread
    | some d =>
      if s.domType d = 2 then (s.releaseFrames n).retire n status thread
      else (s.setTask n { x with stage := .completed status thread }).settle d (s.tasks.length + 1)

/-- The oldest completion record is stored, or lost to a full log, or passed over by the filter (spec/09 R326); a place beyond
management memory takes nothing. (log entry 231, DESIGN CHOICE). -/
def State.storeCpl (s : State) : State :=
  match s.sched.cpl with
  | [] => s
  | r :: rest =>
    let s := { s with sched := { s.sched with cpl := rest } }
    let size := s.rd F.SCH_CPL_SIZE_SIZE
    if size = 0 || !(s.reg A.SCH_CPL_FILTER).toNat.testBit (bits r 16 8) then s
    else
      let wr := s.rd F.SCH_CPL_WR_WR
      if (wr + 1) % size = s.rd F.SCH_CPL_RD_RD then s.bump F.SCH_CPL_LOST_CNT_COUNT
      else
        let k := s.rd F.SCH_CPL_BASE_ADDR / 8 * 8 + 8 * wr
        let s := if k < 0x80000 then s.setWord (mbusWindow + k) (Word.data (BitVec.ofNat 64 r)) else s
        s.wr F.SCH_CPL_WR_WR ((wr + 1) % size)

/-! ### Cancellation (spec/09 R328 to R333) -/

/-- A task is voided before its delivery (spec/09 R330, R331). (log entry 69, DEDUCED). -/
def State.void (s : State) (n : Nat) (x : Task) (free : Bool) : State :=
  let s := (s.retire n 0x03 0xFF).bump F.SCH_VOID_CNT_COUNT
  let w1 := x.words.headD Word.zero
  let s :=
    if w1.kind = .handle then
      if free then s.release w1
      else
        let (g, p, d) := s.slowTarget
        match s.arrive ⟨some d, p, g, 5, x.words, Tag.low6 w1.tag, false, 0, none⟩ with
        | (s, some _) => s
        | (s, none) => (s.release w1).bump F.SCH_REDIRECT_LOST_CNT_COUNT
    else s
  match x.domain with
  | some d => s.settle d (s.tasks.length + 1)
  | none => s

/-- CANCEL of a task reference (spec/09 Table 9.9): the state after it and rd. (log entry 67, DEDUCED). -/
def State.cancelTask (s : State) (ref : Nat) (free : Bool) : State × Nat :=
  let n := bits ref 48 16
  match s.task n with
  | none => (s, 0)
  | some x =>
    if x.serial ≠ bits ref 40 8 || x.faultOf.isSome then (s, 0)
    else match x.stage with
      | .completed _ _ => (s, 0)
      | .delivered t =>
        if (s.th t).cancel then (s, 2)
        else ((s.modTh t (fun y => { y with cancel := true })).bump F.SCH_FLAG_CNT_COUNT, 2)
      | _ => (s.void n x free, 1)

/-! ### Delivery (spec/09 R318 to R323) -/

/-- A region of the account protection table as its registers hold it (spec/05 Table 5.7, R166). -/
def State.regionOf (s : State) (tile a r : Nat) : Region where
  en := s.is (F.PR_BASE_LO_EN tile a r)
  base := s.rd (F.PR_BASE_LO_BASE tile a r) + s.rd (F.PR_BASE_HI_BASE tile a r) * 2 ^ 26
  limit := s.rd (F.PR_LIMIT_LO_LIMIT tile a r) + s.rd (F.PR_LIMIT_HI_LIMIT tile a r) * 2 ^ 26
  r := s.is (F.PR_LIMIT_HI_R tile a r)
  w := s.is (F.PR_LIMIT_HI_W tile a r)
  x := s.is (F.PR_LIMIT_HI_X tile a r)
  cache := (let c := s.rd (F.PR_LIMIT_HI_CACHE tile a r); if c = 3 then 0 else c)
  order := (let o := s.rd (F.PR_LIMIT_HI_ORDER tile a r); if o = 3 then 0 else o)
  privOnly := s.is (F.PR_LIMIT_HI_PRIVONLY tile a r)

/-- The set image of an account in a tile's table, with its generation (spec/05 R168, R169). (log entry 60, DEDUCED). -/
def State.setImage (s : State) (tile a : Nat) : ProtSet :=
  ⟨a, s.rd (F.ACCT_GEN_GEN tile a), (List.range 16).map (s.regionOf tile a)⟩

/-- Load an account's image into the inactive set and flip the selector (spec/05 R169). -/
def Thread.flipTo (x : Thread) (img : ProtSet) : Thread :=
  if x.selB then { x with setA := img, selB := false } else { x with setB := img, selB := true }

/-- The flip at a delivery (spec/05 R169): only where the account or its generation differs from the active set's source. -/
def State.flipAt (s : State) (t a : Nat) : State :=
  let img := s.setImage (tileOf t) a
  let x := s.th t
  if x.set.acct = img.acct ∧ x.set.gen = img.gen then s else s.setTh t (x.flipTo img)

/-- Whether a core is drained for self-test (spec/17 Sequence 17.2). -/
def State.drained (s : State) (core : Nat) : Bool := s.rd F.ST_STATUS_STATE ≥ 3 && s.rd F.ST_STATUS_CORE == core

/-- Whether a thread is eligible for a task of group `g` (spec/09 R319). -/
def State.eligible (s : State) (g t : Nat) : Bool :=
  let x := s.th t
  x.life == .idle && x.wait == some .work && x.group == g && !s.drained (coreOf t)

/-- Thermal state of a tile: 1 above THERM_SOFT, 2 at or above THERM_EMERG (spec/15). -/
def State.tileTherm (s : State) (tile : Nat) : Nat := bits (s.reg A.PWR_TILE_THERM).toNat (2 * tile) 2

/-- The thread of a list that has been IDLE longest, the lower number first (spec/09 R320). (log entry 66, DEDUCED). -/
def State.longestIdle (s : State) (l : List Nat) : Option Nat :=
  l.foldl (fun b t => match b with
    | none => some t
    | some u => if (s.th t).idleSeq < (s.th u).idleSeq then some t else some u) none

/-- The thread that receives a task of group `g`, and whether a pin was lifted for it (spec/09 Table 9.6, R320). -/
def State.placeFor (s : State) (g : Nat) : Option (Nat × Bool) :=
  let el := (s.threads.map (·.1)).filter (fun t => t < 192 && s.eligible g t)
  let home := s.rd (F.GRP_PLACE_HOME g)
  let pin := s.is (F.GRP_PLACE_PIN g) && home < 6
  if pin && s.tileTherm home < 2 then
    (s.longestIdle (el.filter (fun t => tileOf t == home))).map (fun t => (t, false))
  else
    let cool := el.filter (fun t => s.tileTherm (tileOf t) == 0)
    (s.longestIdle (if cool.isEmpty then el else cool)).map (fun t => (t, pin && tileOf t != home))

/-- The ready task of a group that is delivered first: highest class, then earliest ready (spec/09 R318). -/
def State.firstReady (s : State) (p : Task → Bool) : Option (Nat × Task) :=
  s.tasks.foldl (fun b e => match e.2.stage with
    | .ready q =>
      if !p e.2 then b
      else match b with
        | none => some e
        | some (m, y) => match y.stage with
          | .ready q' => if e.2.prio > y.prio || (e.2.prio == y.prio && q < q') then some e else some (m, y)
          | _ => some e
    | _ => b) none

/-- Deliver a task to a thread that is IDLE in GETWORK (spec/04 R155, R157, spec/05 R169, spec/03 R100); PRE_EXCHANGE marks one
that was enqueued before a commit (spec/17 R623). -/
def State.deliver (s : State) (n : Nat) (x : Task) (t : Nat) : State :=
  let s := s.flipAt t x.acct
  let ws := if x.faultOf.isSome then x.words
    else x.words.set 1 (x.header n (x.commits != s.sched.commits))
  let y := s.th t
  let y := (List.range 4).foldl (fun (y : Thread) i => y.setReg (i + 1) ((ws[i]?).getD Word.zero)) y
  let s := s.setTh t { y with
    life := .running, wait := none, acct := x.acct, held := some n, run := 0, cancel := false, pc := y.getPc }
  let s := s.setTask n { x with stage := .delivered t, words := ws }
  match x.faultOf with
  | some f => s.modTh f (fun z => { z with record := .delivered })
  | none => s

/-- The scheduler delivers the next ready task of a group (spec/09 R318 to R323). -/
def State.dispatch (s : State) (g tile : Nat) : State :=
  if g = 15 then
    match s.firstReady (fun x => x.group == 15 && (x.faultOf.map tileOf) == some tile) with
    | none => s
    | some (n, x) =>
      let t := s.activeSup tile
      if s.eligible 15 t then
        (if s.tileTherm tile ≥ 1 then s.bump F.SCH_HOT_DISPATCH_CNT_COUNT else s).deliver n x t
      else s
  else
    match s.firstReady (fun x => x.group == g), s.placeFor g with
    | some (n, x), some (t, lifted) =>
      let s := if s.tileTherm (tileOf t) ≥ 1 then s.bump F.SCH_HOT_DISPATCH_CNT_COUNT else s
      let s := if lifted then s.bump F.SCH_PIN_LIFT_CNT_COUNT else s
      s.deliver n x t
    | _, _ => s

/-! ### Exchange of worker programs: the switch of a thread (spec/17 R620, R622) -/

/-- A thread switches to the new program: it takes the new epoch and its next delivery continues at the task entry of its
tile; when no thread is left, the exchange is complete. -/
def State.switchThread (s : State) (t : Nat) : State :=
  let x := s.th t
  if !x.oldProg then s
  else
    let s := s.setTh t { x with oldProg := false, epoch := s.epoch, getPc := tget (fun _ => 0) s.taskEntry (tileOf t) }
    let s := s.drop F.EXCH_STATUS_OLD_LEFT
    if s.rd F.EXCH_STATUS_OLD_LEFT = 0 then
      ((s.wr F.EXCH_STATUS_BUSY 0).event 0 .exchange).offer 0x00 0x31 s.epoch
    else s

end Sys2Proof.Machine
end

