-- ==== Sys2Proof/Machine/Threads.lean ====
section
/-! DEFINITION. Threads over time: draining instructions, fault records and decisions, supervisors, START, groups, the run
budget, halt and release (spec/03, spec/04 Table 4.11, spec/05, spec/17 R606 to R609). -/

namespace Sys2Proof.Machine

/-! ### Helper jobs of a thread -/

/-- Whether a helper job of the thread has not completed (spec/03 R112). -/
def Thread.jobsOut (x : Thread) : Bool := x.tickets.any (fun k => k == .out)

/-- Jobs outstanding (spec/03 R108). -/
def Thread.jobCount (x : Thread) : Nat := (x.tickets.filter (fun k => k == .out)).length

/-- Whether a status word reports neither OK nor CHECK_FAIL (spec/03 R111). -/
def badStatus (w : Val) : Bool := let s := bits w.toNat 0 8; s != 0 && s != 5

/-- The status word of the first job that failed and was not collected (spec/03 R112): one whose ticket was reused comes
first. (log entry 38, DEDUCED). -/
def Thread.failedJob (x : Thread) : Option Val :=
  match x.lostFail with
  | some w => some w
  | none => x.tickets.findSome? (fun k => match k with
    | .ended w => if badStatus w then some w else none
    | _ => none)

/-- A RESUME consumes the failure of a HELPER fault (spec/05 Table 5.2, R179): at a draining instruction every failure that was
not collected, at HWAIT that of its ticket. -/
def Thread.consume (x : Thread) (f : FaultInfo) : Thread :=
  if f.drain.isSome then
    { x with lostFail := none, tickets := x.tickets.map (fun k => match k with
      | .ended w => if badStatus w then .free else k
      | _ => k) }
  else { x with tickets := x.tickets.set (bits f.info.toNat 12 4) .free }

/-- Forget the jobs that have completed and were not collected. -/
def Thread.dropJobs (x : Thread) : Thread :=
  { x with lostFail := none, tickets := x.tickets.map (fun k => if k = .out then .out else .free) }

/-! ### Draining (spec/05 R195 to R198, spec/04 Table 4.11) -/

/-- Posted writes fail with a status (spec/05 R194). -/
def Thread.postFail (x : Thread) (addr status cache : Nat) : Thread :=
  match x.perr with
  | none => { x with perr := some ⟨addr, status, cache, 0⟩ }
  | some e => { x with perr := some { e with further := satTo 65535 (e.further + 1) } }

/-- The held task of a thread ends (spec/09 R313): the cancel flag goes with it. -/
def State.endTask (s : State) (t status : Nat) : State :=
  match (s.th t).held with
  | none => s
  | some n => (s.modTh t (fun x => { x with held := none, cancel := false })).complete n status t

/-- A thread goes IDLE in GETWORK at its pc (spec/03 R83, R85, spec/17 R620). (log entry 50, DEDUCED). -/
def State.goIdle (s : State) (t : Nat) : State :=
  let q := s.sched.seq
  let s := { s with sched := { s.sched with seq := q + 1 } }
  let s := s.modTh t (fun x => { x with
    life := .idle, wait := some .work, acct := 0, idleSeq := q, getPc := (x.pc + 4) % 2 ^ 40,
    group := s.rd (F.THREAD_CFG_GROUP (tileOf t) (localOf t)) })
  s.switchThread t

/-- The drain of a draining instruction has ended (spec/05 R197, spec/04 Table 4.11, R153). -/
def State.drained1 (s : State) (t : Nat) (k : DrainKind) : State :=
  let x := s.th t
  match x.perr with
  | some e => s.raise t 0x0D (BitVec.ofNat 64 e.addr) false (some k)
  | none => match k with
    | .fence => s.modTh t Thread.unblock
    | .abort => ((s.endTask t 0x02).modTh t Thread.dropJobs).modTh t Thread.unblock
    | .done => match x.failedJob with
      | some w => s.raise t 0x0F w false (some k)
      | none => ((s.endTask t 0x01).modTh t Thread.dropJobs).modTh t Thread.unblock
    | .getwork => match x.failedJob with
      | some w => s.raise t 0x0F w false (some k)
      | none => ((s.endTask t 0x01).modTh t Thread.dropJobs).goIdle t

/-- A thread that drains goes on as far as it can: first its helper jobs complete (not for FENCE), then its posted writes
drain (spec/04 Table 4.11). -/
def State.pokeDrain (s : State) (t : Nat) : State :=
  let x := s.th t
  match x.life, x.wait with
  | .blocked, some (.drain k began) =>
    if k ≠ .fence && x.jobsOut then s
    else if x.posted.isEmpty then s.drained1 t k
    else if began.isNone then s.setTh t { x with wait := some (.drain k (some s.nowNs)) } else s
  | _, _ => s

/-- A draining instruction starts to wait. (log entry 37, DEDUCED). -/
def State.beginDrain (s : State) (t : Nat) (k : DrainKind) : State :=
  (s.modTh t (fun x => { x with life := .blocked, wait := some (.drain k none) })).pokeDrain t

/-- Every posted write of a thread that is still outstanding fails with TIMEOUT (spec/05 R196); its target may still perform it
(R673). -/
def State.failPosted (s : State) (t : Nat) : State :=
  let x := s.th t
  let y := x.posted.foldl (fun (y : Thread) (p : Posted) => y.postFail p.addr 0xF p.cache) x
  (s.setTh t { y with posted := [], limbo := y.limbo ++ x.posted }).pokeDrain t

/-- Whether TMO µs of station time have passed since a drain of thread `t` began (spec/05 R195); a TMO of 0 acts as 1 (spec/05
Table 5.5). (log entry 58, DEDUCED). -/
def State.drainLate (s : State) (t began : Nat) : Bool :=
  decide (began + max 1 (s.rd (F.TILE_POSTED_TMO_TMO (tileOf t))) * 1000 ≤ s.nowNs)

/-- The timeout of a drain (spec/05 R195, R196): after TMO µs of station time every write still outstanding fails with
TIMEOUT. -/
def State.drainTimeout (s : State) (t : Nat) : State :=
  let x := s.th t
  let wait := match x.life with
    | .halted => if x.saved = Life.blocked then x.wait else none
    | .blocked => x.wait
    | _ => none
  match wait with
  | some (.drain _ (some b)) => if s.drainLate t b then s.failPosted t else s
  | _ => s

/-- The drain of R200 at the entry to standby: the posted writes of a thread whose tile's timeout has passed since the drain
began fail with TIMEOUT (spec/05 R195, R196, R200). -/
def State.standbyLate (s : State) (t : Nat) : State :=
  match s.phase, s.standby.posted with
  | .entering, some b => if !(s.th t).posted.isEmpty && s.drainLate t b then s.failPosted t else s
  | _, _ => s

/-- GETWORK (spec/04 Table 4.7): ILLEGAL on a Puppeteer core (spec/03 R78). -/
def execGetwork (t : Tid) (s : State) : Out :=
  .next (s.issue t.val .m [] (fun s =>
    if isPcore t.val then s.illegal (.getwork t) else .go (s.beginDrain t.val .getwork)))

/-- DONE (spec/04 Table 4.7, R143). -/
def execDone (t : Tid) (s : State) : Out :=
  .next (s.issue t.val .m [] (fun s =>
    if isPcore t.val || (s.th t.val).held.isNone then s.illegal (.done t) else .go (s.beginDrain t.val .done)))

/-- ABORT (spec/04 Table 4.7, R143). -/
def execAbort (t : Tid) (s : State) : Out :=
  .next (s.issue t.val .m [] (fun s =>
    if isPcore t.val || (s.th t.val).held.isNone then s.illegal (.abort t) else .go (s.beginDrain t.val .abort)))

/-- FENCE (spec/04 R147). -/
def execFence (t : Tid) (s : State) : Out := .next (s.issue t.val .m [] (fun s => .go (s.beginDrain t.val .fence)))

/-- POSTED_DRAIN_TIMEOUT (spec/05 R195, R196). -/
def execPostedDrainTimeout (t : Tid) (s : State) : Out := .next (s.drainTimeout t.val)

/-! ### Supervisors and fault records (spec/05 R182 to R192, R671, R672) -/

/-- The role moves to the other supervisor when that one can take records (spec/05 R189, spec/17 R608). -/
def State.supSwitch (s : State) (tile : Nat) : State :=
  if s.available (s.otherSup tile) then
    (s.wr (F.TILE_SUPV_ACTIVE tile) (1 - s.rd (F.TILE_SUPV_ACTIVE tile))).wr (F.TILE_FAULT_STAT_SWITCHED tile) 1
  else s.escalateQueued tile

/-- A supervisor has become unable to take records, or another thread has: the role moves from an active one (spec/05 R189,
spec/17 R608), and where neither can, the queued records go to P-core 0 (R191). -/
def State.supLost (s : State) (t : Nat) : State :=
  if t = s.activeSup (tileOf t) then s.supSwitch (tileOf t) else s.escalateQueued (tileOf t)

/-- The four words of a thread's fault record (spec/05 Table 5.3, R671); HSTATUS is that of R153 (spec/04). -/
def State.recordWords (s : State) (t : Nat) (f : FaultInfo) : List Val :=
  let x := s.th t
  let task := x.held.bind s.task
  let b := fun (b : Bool) (n : Nat) => if b then 2 ^ n else 0
  let w1 := f.code * 2 ^ 56 + t * 2 ^ 48 + x.acct * 2 ^ 40 + f.pc
  let w3 := (match x.held, task with | some n, some k => n + k.domain.getD 0 * 2 ^ 16 | _, _ => 0)
    + x.group * 2 ^ 28 + b x.held.isSome 32 + b x.selB 33 + b (s.priv t) 34 + b x.cancel 35 + x.epoch * 2 ^ 36
  let w4 := (match x.perr with | some e => e.status + e.cache * 2 ^ 4 + e.further * 2 ^ 8 | none => 0)
    + f.used * 2 ^ 28 + (if f.code = 0x0D ∧ (f.drain = some .done ∨ f.drain = some .getwork) then
        (match x.failedJob with | some w => bits w.toNat 0 16 * 2 ^ 48 | none => 0) else 0)
  [BitVec.ofNat 64 w1, f.info, BitVec.ofNat 64 w3, BitVec.ofNat 64 w4]

/-- Step 3 of Sequence 5.1 (spec/05 R183, R188, R189, R191): once every helper job of the thread has completed, its record
is enqueued to group 15 of the tile, or escalated; that of a thread that was the active supervisor at the fault goes to P-core
0. -/
def State.enqueueRecord (s : State) (t : Nat) : State :=
  let x := s.th t
  match x.fault with
  | none => s
  | some f =>
    if x.record ≠ .waiting || x.life ≠ .faulted || x.jobsOut then s
    else
      let tile := tileOf t
      let ws := s.recordWords t f
      if f.sup then
        let s := s.escalate tile t ws
        if t = s.activeSup tile then s.supSwitch tile else s
      else
        let s := s.escalateQueued tile
        if !s.available (s.activeSup tile) && !s.available (s.otherSup tile) then s.escalate tile t ws
        else
          match s.arrive ⟨none, 7, 15, 0, ws.map Word.data, 0, false, 0, some t⟩ with
          | (s, some n) => s.modTh t (fun x => { x with record := .queued n })
          | (s, none) => s.escalate tile t ws

/-- FAULT_RECORD_ENQUEUE (spec/05 R183). -/
def execFaultRecordEnqueue (t : Fin 192) (s : State) : Out := .next (s.enqueueRecord t.val)

/-- ESC_RECORD_LOAD (spec/05 R192). -/
def execEscRecordLoad (tile : Fin 6) (s : State) : Out := .next (s.escNext tile.val)

/-! ### Decisions (spec/05 Table 5.4) -/

/-- A decision withdraws a record that has not been delivered, and frees SUPV_ESC_REC of a delivered one (spec/05 R192,
R672); of one that is not yet enqueued, the fault of an active supervisor still moves the role (R189), and where neither
supervisor can take records the queued ones go to P-core 0 (R191). SUPV_ESC_REC keeps its words. (log entries 56, DEDUCED; 247,
DESIGN CHOICE). -/
def State.withdraw (s : State) (t : Nat) : State :=
  let tile := tileOf t
  let s := match (s.th t).record with
    | .queued n => { s with tasks := odel n s.tasks }.pokeSend
    | .waiting => if ((s.th t).fault.map FaultInfo.sup).getD false then s.supLost t else s.escalateQueued tile
    | .escalated => s.setEsc tile ((s.escQueue tile).filter (fun e => e.1 != t))
    | _ => s
  let s := s.modTh t (fun x => { x with record := .none })
  if oget s.sched.escHeld tile = some t then
    { s with sched := { s.sched with escHeld := odel tile s.sched.escHeld } }.wr (F.SUPV_ESC_STAT_PENDING tile) 0
  else s

/-- A thread leaves FAULTED for a life state; with a halt pending it enters HALTED there (spec/17 R607). -/
def Thread.leaveFault (x : Thread) (l : Life) : Thread :=
  if x.haltPend && l ≠ .offline then { x with life := .halted, saved := l, haltPend := false, fault := none }
  else { x with life := l, haltPend := false, fault := none }

/-- A decision has put a thread into HALTED: an active supervisor loses the role (spec/17 R608). -/
def State.afterHalt (s : State) (t : Nat) : State := if (s.th t).life = .halted then s.supLost t else s

/-- Whether Table 5.2 refuses a RESUME of a fault. -/
def FaultInfo.resumeRefused (f : FaultInfo) : Bool :=
  match f.code with
  | 0x04 | 0x05 | 0x06 | 0x0D | 0x0E | 0x0F | 0x10 | 0x13 => false
  | 0x0C => f.fetch
  | _ => true

/-- RESUME of a fault that is not refused (spec/05 Tables 5.2 and 5.4, R179, R180): the pc moves past a TRAP or an
uncorrectable load or store, else the instruction runs again. (log entry 55, DEDUCED). -/
def State.resume (s : State) (t : Nat) (f : FaultInfo) : State :=
  let s := s.withdraw t
  let x := s.th t
  let s := if f.code = 0x04 ∨ f.code = 0x05 ∨ f.code = 0x06 then s.flipAt t x.acct else s
  (s.modTh t (fun x =>
    let x := { x with run := 0, perr := if f.code = 0x0D then none else x.perr }
    let x := if f.code = 0x0F then x.consume f else x
    let x := if f.code = 0x0C ∨ f.code = 0x10 then x.next else x
    x.leaveFault .running)).afterHalt t

/-- RESTART: the task runs again from the instruction after the GETWORK that delivered it (spec/05 Table 5.4). -/
def State.restart (s : State) (t n : Nat) : State :=
  let s := s.withdraw t
  let ws := match s.task n with | some x => x.words | none => []
  (s.modTh t (fun x =>
    let x := (List.range 4).foldl (fun (y : Thread) i => y.setReg (i + 1) ((ws[i]?).getD Word.zero)) x.dropJobs
    { x with run := 0, perr := none, pc := x.getPc }.leaveFault .running)).afterHalt t

/-- ABORT of a faulted thread (spec/05 Table 5.4, R186): its task retires ABORTED and it waits IDLE behind the GETWORK that delivered
it, or without a task it goes OFFLINE. (log entry 245, DEDUCED). -/
def State.abortFault (s : State) (t : Nat) (free : Bool) : State :=
  let s := s.withdraw t
  let x := s.th t
  match x.held with
  | none => (s.modTh t (fun x => { x.dropJobs with perr := none, cancel := false }.leaveFault .offline)).switchThread t
  | some n =>
    let w1 := match s.task n with | some k => k.words.headD Word.zero | none => Word.zero
    let s := s.endTask t 0x02
    let s := if free && w1.kind == .handle then s.touchHandle w1 .free else s
    let s := if free && w1.kind == .handle && (s.handleCheck w1 .free 0 true).isNone then s.release w1 else s
    let q := s.sched.seq
    let s := { s with sched := { s.sched with seq := q + 1 } }
    let s := s.modTh t (fun x => { x.dropJobs with
      perr := none, wait := some .work, acct := 0, pc := x.getPc, idleSeq := q }.leaveFault .idle)
    (s.switchThread t).afterHalt t

/-- Apply a decision to a thread (spec/05 R185, Table 5.4); the value of rd. -/
def State.decision (s : State) (by_ t d : Nat) (free : Bool) : State × Nat :=
  if t ≥ 192 then (s, 2)
  else if !(by_ == 192 || by_ == s.activeSup (tileOf t)) then (s, 2)
  else
    let x := s.th t
    match x.life, x.fault with
    | .faulted, some f =>
      if d = 0 then if f.resumeRefused then (s, 2) else (s.resume t f, 0)
      else if d = 1 then (match x.held with | none => (s, 2) | some n => (s.restart t n, 0))
      else (s.abortFault t free, 0)
    | _, _ => (s, 1)

/-- FRESOLVE with the decision that the row names (spec/04 R150): a decision code of 3 raises ILLEGAL; a register that holds
another row's decision makes the command not of this row. (log entry 57, DEDUCED). -/
def State.fresolve (s : State) (t : Tid) (rd rs1 rs2 : Reg) (d : Nat) : State :=
  s.issue t.val .m [rs1, rs2] (fun s =>
    let v := (s.w t.val rs2.val).val.toNat
    if v % 4 = 3 then s.illegal (.fresolveResume t rd rs1 rs2)
    else if !s.priv t.val then s.privilege (.fresolveResume t rd rs1 rs2)
    else s.noPoison t.val [rs1, rs2] (fun s =>
      if v % 4 ≠ d then .go s
      else
        let (s, r) := s.decision t.val ((s.w t.val rs1.val).val.toNat % 256) d (v.testBit 2)
        .go (s.finish t.val rd (Word.data (BitVec.ofNat 64 r)))))

/-- FRESOLVE, RESUME (spec/05 Table 5.4). -/
def execFresolveResume (t : Tid) (rd rs1 rs2 : Reg) (s : State) : Out := .next (s.fresolve t rd rs1 rs2 0)

/-- FRESOLVE, RESTART (spec/05 Table 5.4). -/
def execFresolveRestart (t : Tid) (rd rs1 rs2 : Reg) (s : State) : Out := .next (s.fresolve t rd rs1 rs2 1)

/-- FRESOLVE, ABORT (spec/05 Table 5.4). -/
def execFresolveAbort (t : Tid) (rd rs1 rs2 : Reg) (s : State) : Out := .next (s.fresolve t rd rs1 rs2 2)

/-! ### START, groups, budget -/

/-- START of an OFFLINE thread (spec/03 R82, spec/05 R174, spec/17 R613): it runs at TILE_ENTRY with registers zero, account
0, both sets loaded from account 0, set A selected; posted writes and a failure of theirs stay (spec/05 R198). A thread of a
failed core does not start (spec/17 R612), and none starts while VCORE is off (spec/15 R550); one of the core that step 5 of a
core test has is started with the others once the test has passed. THREAD_PC reads that address until it issues. (log entries
53, DEDUCED; 223, DESIGN CHOICE; 238, DESIGN CHOICE). -/
def State.startThread (s : State) (t : Nat) : State :=
  let x := s.th t
  if x.life ≠ .offline || x.failed || !s.vcoreOn then s
  else if s.rd F.ST_STATUS_STATE = 4 ∧ coreOf t = s.rd F.ST_STATUS_CORE then
    { s with field := { s.field with test := { s.field.test with idle := s.field.test.idle.filter (· != t) ++ [t] } } }
  else
    let tile := tileOf t
    let img := s.setImage tile 0
    let e := s.pair (F.TILE_ENTRY_LO_PC tile) (F.TILE_ENTRY_HI_PC tile)
    s.setTh t { Thread.init t with
      life := .running
      pc := e / 4 * 4
      lastPc := e / 4 * 4
      setA := img
      setB := img
      posted := x.posted
      limbo := x.limbo
      perr := x.perr
      strongs := x.strongs
      tickets := x.tickets
      group := x.group
      epoch := s.epoch }

/-- THREAD_START (spec/03 R82). -/
def execThreadStart (t : Fin 192) (s : State) : Out := .next (s.whenOn (fun s => s.startThread t.val))

/-- A write to THREAD_CFG (spec/03 R85, R86, R89): GROUP 15 is refused to a thread that is no supervisor of its tile; a
new group is in effect at once for an IDLE or OFFLINE thread, else at its next GETWORK; PRIV is RWC. -/
def State.writeThreadCfg (s : State) (t : Nat) (v : BitVec 32) : State :=
  let tile := tileOf t
  let n := localOf t
  let g := bits v.toNat 0 4
  let s := if s.inConfig then s.wr (F.THREAD_CFG_PRIV tile n) (bits v.toNat 8 1) else s
  if g = 15 ∧ n ≠ s.rd (F.TILE_SUPV_PRIMARY tile) ∧ n ≠ s.rd (F.TILE_SUPV_ALTERNATE tile) then s
  else
    let s := s.wr (F.THREAD_CFG_GROUP tile n) g
    match (s.th t).life with
    | .idle | .offline => s.modTh t (fun x => { x with group := g })
    | _ => s

/-- THREAD_GROUP_WRITE (spec/03 R85, R86). -/
def execThreadGroupWrite (t : Fin 192) (v : BitVec 32) (s : State) : Out := .next (s.whenOn (fun s => s.writeThreadCfg t.val v))

/-- A write to a register of the account protection table (spec/05 R168, R203): it increments the account's generation. -/
def State.writeRegion (s : State) (tile a r k : Nat) (v : BitVec 32) : State :=
  let addr := A.PR_BASE_LO tile a r + 4 * k
  let s := match regRow addr with
    | some (row, _) => s.setReg addr (BitVec.ofNat 32 (rowWrite s.inConfig (s.reg addr).toNat v.toNat row.fields))
    | none => s
  s.wr (F.ACCT_GEN_GEN tile a) (s.rd (F.ACCT_GEN_GEN tile a) + 1)

/-- PR_REGION_WRITE (spec/05 R168). -/
def execPrRegionWrite (tile : Fin 6) (acct : Fin 64) (region : Fin 16) (k : Fin 4) (v : BitVec 32) (s : State) : Out :=
  .next (s.whenOn (fun s => s.writeRegion tile.val acct.val region.val k.val v))

/-- The budget of a thread that holds a task and is RUNNING or BLOCKED has reached its group's LIMIT (spec/03 R102 to R104):
it raises BUDGET at the instruction it would issue or is BLOCKED on; work that ran past a RELAXED access is discarded. (log
entry 48, DEDUCED). -/
def State.budgetExpiry (s : State) (t : Nat) : State :=
  let x := s.th t
  let lim := s.rd (F.GRP_BUDGET_LIMIT x.group)
  if lim = 0 || x.held.isNone || x.used < lim || !(x.life == .running || x.life == .blocked) then s
  else
    (s.setTh t x.rewind).raise t 0x0E (BitVec.ofNat 64 lim)

/-- BUDGET_EXPIRY (spec/03 R102). -/
def execBudgetExpiry (t : Fin 192) (s : State) : Out := .next (s.budgetExpiry t.val)

/-- TASK_DISPATCH (spec/09 R318 to R323). -/
def execTaskDispatch (group : Fin 16) (tile : Fin 6) (s : State) : Out := .next (s.dispatch group.val tile.val)

/-- COMPLETION_RECORD_STORE (spec/09 R326). -/
def execCompletionRecordStore (s : State) : Out := .next s.storeCpl

/-! ### Halt and release (spec/17 R606 to R609) -/

/-- Whether a Puppeteer core runs, or waits in, the boot ROM (spec/16 R565, R679): it is OFFLINE, and neither a reset nor an
exchange holds it. -/
def State.inRom (s : State) (t : Nat) : Bool :=
  isPcore t && s.mainOn && (t == 192 || s.boot.free1)
    && !(match s.field.exch with | some x => x.target + 192 == t | none => false)

/-- HALT of a thread or Puppeteer core: it enters HALTED, in its wait where it waits, or in the boot ROM; a FAULTED thread halts
after its decision; an OFFLINE or HALTED one stays as it is (spec/17 R606, R607, R609). -/
def State.haltThread (s : State) (t : Nat) : State :=
  let x := s.th t
  match x.life with
  | .halted => s
  | .offline =>
    if s.inRom t then
      let s := s.setTh t { x with life := .halted, saved := .offline }
      if t = 192 then s.wr F.DICT_FW_CTL_READY 0 else s
    else s
  | .faulted => if isPcore t then s else s.setTh t { x with haltPend := true }
  | l =>
    let s := s.setTh t { x with life := .halted, saved := l }
    if isPcore t then (if t = 192 then s.wr F.DICT_FW_CTL_READY 0 else s) else s.supLost t

/-! ### Task instructions -/

/-- SEND (spec/04 Table 4.7, R143, spec/09 R308, R311); SCH_REFUSE_SEND_CNT counts the QUEUE_FULL faults, not the BUDGET that
takes the place of one (spec/03 R103). (log entries 19, DEDUCED; 64, DEDUCED). -/
def execSend (t : Tid) (rs1 : Reg) (s : State) : Out :=
  .next (s.issue t.val .m [] (fun s =>
    if rs1.val = 0 || rs1.val > 28 || (!isPcore t.val && (s.th t.val).held.isNone) then s.illegal (.send t rs1)
    else s.noPoison t.val [rs1, rs1 + 1, rs1 + 2, rs1 + 3] (fun s =>
      match s.sendNow t.val rs1.val with
      | some s => .go (s.step1 t.val)
      | none =>
        if isPcore t.val then
          .go (s.modTh t.val (fun x => { x with life := .blocked, wait := some (.send rs1) }))
        else
          .flt (if s.budgetDue t.val then s else s.bump F.SCH_REFUSE_SEND_CNT_COUNT) 0x13 (BitVec.ofNat 64 (s.sendAsk t.val rs1.val).group))))

/-- Whether XMIT accepts an egress port (spec/04 Table 4.8). -/
def xmitPort (p : Nat) : Bool := p < 48 || p == 64 || p == 65 || p == 80

/-- A task passes a frame on (spec/09 R314): in a PARALLEL domain, or when every earlier task of its domain has retired or
been voided, it enters the port's queue at once; else it waits with the task. -/
def State.passFrame (s : State) (n : Nat) (x : Task) (f : TxFrame) : State :=
  let now := match x.domain with
    | none => true
    | some d => s.domType d == 2 || s.earliest x
  if now then s.toPort f else s.setTask n { x with frames := x.frames ++ [f] }

/-- XMIT (spec/04 R140, R141, R143, R144). (log entry 18, DEDUCED). -/
def execXmit (t : Tid) (rs1 rs2 : Reg) (s : State) : Out :=
  .next (s.issue t.val .m [rs1, rs2] (fun s =>
    let v := (s.w t.val rs2.val).val.toNat
    let port := bits v 16 8
    match (s.th t.val).held with
    | none => s.illegal (.xmit t rs1 rs2)
    | some n =>
      if isPcore t.val || !xmitPort port then s.illegal (.xmit t rs1 rs2)
      else
        let h := s.w t.val rs1.val
        if h.kind ≠ .poison ∧ h.kind ≠ .handle then s.tagKind h
        else s.noPoison t.val [rs1, rs2] (fun s =>
          let s := s.touchHandle h .xmit
          match s.handleCheck h .xmit (s.th t.val).acct (s.priv t.val) with
          | some c => .flt s c h.val
          | none =>
            let len := bits v 0 14
            if hOffset h.val < 64 || len = 0 || hOffset h.val + len > (s.hLayout h).size then .flt s 0x07 h.val
            else match s.task n with
              | none => .go (s.step1 t.val)
              | some x => .go ((s.passFrame n x ⟨h, port, len, x.domain.getD 0⟩).step1 t.val))))

/-- CANCEL (spec/09 R328). -/
def execCancel (t : Tid) (rd rs1 rs2 : Reg) (s : State) : Out :=
  .next (s.issue t.val .m [rs1, rs2] (fun s =>
    let a := s.w t.val rs1.val
    if a.kind ≠ .poison ∧ a.kind ≠ .data then s.tagKind a
    else s.noPoison t.val [rs1, rs2] (fun s =>
      let (s, r) := s.cancelTask a.val.toNat ((s.w t.val rs2.val).val.toNat % 2 == 1)
      .go (s.finish t.val rd (Word.data (BitVec.ofNat 64 r))))))

/-- CHKCANCEL (spec/09 R332, spec/04 R143, spec/03 R78). -/
def execChkcancel (t : Tid) (rd : Reg) (s : State) : Out :=
  .next (s.issue t.val .m [] (fun s =>
    if isPcore t.val || (s.th t.val).held.isNone then s.illegal (.chkcancel t rd)
    else .go (s.finish t.val rd (Word.data (boolVal (s.th t.val).cancel)))))

/-! ### Handle and system instructions -/

/-- ALLOC (spec/04 Table 4.6, R138): a failed allocation writes the POISON word of its cause. -/
def execAlloc (t : Tid) (rd rs1 : Reg) (s : State) : Out :=
  .next (s.issue t.val .m [rs1] (fun s =>
    let a := s.w t.val rs1.val
    if a.kind ≠ .poison ∧ a.kind ≠ .data then s.tagKind a
    else s.noPoison t.val [rs1] (fun s =>
      let p := a.val.toNat % 16
      let acct := if isPcore t.val then 0 else (s.th t.val).acct
      match s.alloc p acct with
      | (s, .ok _ i g) => .go (s.finish t.val rd ⟨Tag.ofAccount acct, mkHandle p g i⟩)
      | (s, .fail c) => .go ((s.bump (F.POOL_ALLOC_FAIL_COUNT p)).finish t.val rd ⟨Tag.ofCause c, 0⟩))))

/-- FREE (spec/04 Table 4.6, spec/06 R222): the checks of Table 6.4, check 4 not among them. -/
def execFree (t : Tid) (rs1 : Reg) (s : State) : Out :=
  .next (s.issue t.val .m [rs1] (fun s =>
    let h := s.w t.val rs1.val
    if h.kind ≠ .poison ∧ h.kind ≠ .handle then s.tagKind h
    else s.noPoison t.val [rs1] (fun s =>
      let s := s.touchHandle h .free
      match s.handleCheck h .free (s.th t.val).acct (s.priv t.val) with
      | some c => .flt s c h.val
      | none => .go ((s.giveBack (hPool h.val) (s.hLayout h) (hIndex h.val)).step1 t.val))))

/-- HADD: offset field increased modulo 2³², other fields and tag kept (spec/04 R139). -/
def execHadd (t : Tid) (rd rs1 rs2 : Reg) (s : State) : Out :=
  .next (s.issue t.val .m [rs1, rs2] (fun s =>
    let h := s.w t.val rs1.val
    let b := s.w t.val rs2.val
    if h.kind = .poison then .flt s 0x0B h.val
    else if h.kind ≠ .handle then s.tagKind h
    else if b.kind = .poison then .flt s 0x0B b.val
    else if b.kind ≠ .data then s.tagKind b
    else .go (s.finish t.val rd ⟨h.tag, BitVec.ofNat 64
      (putBits h.val.toNat 0 32 (hOffset h.val + b.val.toNat % 2 ^ 32))⟩)))

/-- RDTIME: station time in ns (spec/04 R146). -/
def execRdtime (t : Tid) (rd : Reg) (s : State) : Out :=
  .next (s.issue t.val .m [] (fun s => .go (s.finish t.val rd (Word.data (BitVec.ofNat 64 s.nowNs)))))

/-- RECORD: offers a recorder entry and never waits (spec/04 Table 4.9, spec/17 R595). -/
def execRecord (t : Tid) (rs1 rs2 : Reg) (s : State) : Out :=
  .next (s.issue t.val .m [rs1, rs2] (fun s => s.noPoison t.val [rs1, rs2] (fun s =>
    .go ((s.offer (0x80 + (s.th t.val).acct) ((s.w t.val rs2.val).val.toNat % 256)
      (s.w t.val rs1.val).val.toNat).step1 t.val))))

/-- SWAPSET: flips the selector; a Puppeteer core has no sets (spec/05 R167, R172). (log entry 54, DEDUCED). -/
def execSwapset (t : Tid) (s : State) : Out :=
  .next (s.issue t.val .m [] (fun s =>
    if !s.priv t.val then s.privilege (.swapset t)
    else if isPcore t.val then .go (s.step1 t.val)
    else .go (s.modTh t.val (fun x => { x with selB := !x.selB }.next))))

/-- WAITEV: ILLEGAL on a worker thread (spec/04 R151). -/
def execWaitev (t : Tid) (rd : Reg) (s : State) : Out :=
  .next (s.issue t.val .m [] (fun s =>
    if !isPcore t.val then s.illegal (.waitev t rd)
    else .go (s.modTh t.val (fun x => { x with life := .blocked, wait := some (.waitev rd) }.pokeEv))))

/-! ### Pool commands -/

/-- A write to POOL_CFG (spec/06 R205, R209, Table 6.7): ENABLE from 0 to 1 builds; a changed SIZE is a changed layout. -/
def State.writePoolCfg (s : State) (p : Nat) (v : BitVec 32) : State :=
  let old := s.reg (A.POOL_CFG p)
  let new := BitVec.ofNat 32 (match regRow (A.POOL_CFG p) with
    | some (row, _) => rowWrite s.inConfig old.toNat v.toNat row.fields
    | none => old.toNat)
  let s := s.setReg (A.POOL_CFG p) new
  let s := if bits old.toNat 4 4 ≠ bits new.toNat 4 4 then s.layoutTouched p else s
  if old.toNat % 2 = 0 ∧ new.toNat % 2 = 1 then s.poolEnabled p else s

/-- POOL_ENABLE_WRITE (spec/06 R205). -/
def execPoolEnableWrite (p : Fin 16) (v : BitVec 32) (s : State) : Out := .next (s.whenOn (fun s => s.writePoolCfg p.val v))

/-- POOL_BUILD_DONE (spec/06 R206). -/
def execPoolBuildDone (p : Fin 16) (s : State) : Out := .next (s.buildDone p.val)

/-- AGE_SWEEP (spec/06 R235). -/
def execAgeSweep (s : State) : Out := .next s.ageSweep

/-- AUDIT_START (spec/06 R236). -/
def execAuditStart (v : BitVec 32) (s : State) : Out := .next (s.whenOn (fun s => s.auditCtlWrite (v ||| 1)))

/-- AUDIT_PERIOD_EXPIRY (spec/06 R236). -/
def execAuditPeriodExpiry (s : State) : Out := .next s.auditExpiry

/-- AUDIT_SCAN_DONE (spec/06 R236 to R239). -/
def execAuditScanDone (s : State) : Out := .next s.auditDone

end Sys2Proof.Machine
end

