-- ==== Sys2Proof/Machine/Memory.lean ====
section
/-! DEFINITION. Byte access by ports and helpers, and the commands of the memories and the SDRAM controllers (spec/02). -/

namespace Sys2Proof.Machine

/-! ### Bytes, as ports and helpers reach them (spec/02 R31, R107, R666) -/

/-- The memory that a stored word belongs to. -/
def State.memOf (s : State) (k : Nat) : Option MemId :=
  if mbusWindow ≤ k then (if k < mbusWindow + 0x80000 then some .mgmt else none)
  else match s.locData none k with
  | .cell m _ => some m
  | _ => none

/-- What a reader of several words meets: its bytes, and whether any word held an uncorrectable error or POISON. -/
structure ReadBytes where
  bytes : List Byte
  ue : Bool
  poison : Bool
  deriving DecidableEq, Repr

/-- The eight bytes of a value in address order. -/
def valBytes (v : Val) : List Byte := (List.range 8).map (byteOf v)

/-- Read `n` words from word address `k` on; a word that no memory answers for, such as one in a channel that answers NOT_READY,
cannot be read, as one with an uncorrectable error cannot. (log entry 197, DESIGN CHOICE). -/
def State.readWords (s : State) (k : Nat) : Nat → State × ReadBytes
  | 0 => (s, ⟨[], false, false⟩)
  | n + 1 =>
    match s.memOf k with
    | none =>
      let (s, r) := s.readWords (k + 8) n
      (s, ⟨List.replicate 8 0 ++ r.bytes, true, r.poison⟩)
    | some m =>
      let (s, w, ue) := s.readWord m k
      let (s, r) := s.readWords (k + 8) n
      (s, ⟨valBytes w.val ++ r.bytes, ue || r.ue, w.kind == .poison || r.poison⟩)

/-- Read `n` bytes from byte address `k` on (spec/02 R107). -/
def State.readBytes (s : State) (k n : Nat) : State × ReadBytes :=
  if n = 0 then (s, ⟨[], false, false⟩)
  else
    let w := wordKey k
    let (s, r) := s.readWords w ((k + n - 1) / 8 - k / 8 + 1)
    (s, { r with bytes := (r.bytes.drop (k - w)).take n })

/-- Bytes as values of whole words, the last padded with zero bytes (spec/02 R666). -/
def packWords : List Byte → List Val
  | [] => []
  | b0 :: b1 :: b2 :: b3 :: b4 :: b5 :: b6 :: b7 :: r =>
    BitVec.ofNat 64 (beNat [b0, b1, b2, b3, b4, b5, b6, b7]) :: packWords r
  | l => [BitVec.ofNat 64 (beNat l * 256 ^ (8 - l.length))]

/-- Write DATA words from word address `k` on, without reading them. -/
def State.writeVals (s : State) (k : Nat) : List Val → State
  | [] => s
  | v :: r => (s.setWord k (Word.data v)).writeVals (k + 8) r

/-- A port writes bytes at word address `k` (spec/02 R666): whole words, the last filled with zero bytes; a channel that answers
NOT_READY takes nothing (spec/15 R531). (log entry 228, DESIGN CHOICE). -/
def State.portWrite (s : State) (k : Nat) (bs : List Byte) : State :=
  if (s.memOf k).isSome then s.writeVals k (packWords bs) else s

/-- Replace one byte of a word, which becomes DATA: of a word that its writer replaces whole, or has read before
(spec/02 R666). -/
def State.putByte (s : State) (k : Nat) (b : Byte) : State :=
  let w := s.word (wordKey k)
  s.setWord (wordKey k) (Word.data (insertBytes w.val (k % 8) 1 (b.setWidth 64)))

/-- Write bytes at byte address `k`, other bytes unchanged. -/
def State.putBytes (s : State) (k : Nat) : List Byte → State
  | [] => s
  | b :: r => (s.putByte k b).putBytes (k + 1) r

/-- Store bytes one by one, each as a narrow store of its word (spec/02 Table 2.2). -/
def State.narrowBytes (s : State) (k : Nat) : List Byte → State
  | [] => s
  | b :: r => ((s.memStore .mgmt k 1 (Word.data (b.setWidth 64))).1).narrowBytes (k + 1) r

/-- Write bytes into management memory from byte address `k` on: whole words without a read, and the words written only in
part as narrow stores do, which read them first (spec/02 Table 2.2, R48, R49). (log entry 218, DESIGN CHOICE). -/
def State.mergeBytes (s : State) (k : Nat) (bs : List Byte) : State :=
  let h := (8 - k % 8) % 8
  let m := (bs.length - h) / 8 * 8
  ((s.narrowBytes k (bs.take h)).writeVals (k + h) (packWords ((bs.drop h).take m))).narrowBytes (k + h + m)
    (bs.drop (h + m))

/-! ### Order at the targets (spec/02 R59, R60, spec/05 R673) -/

/-- Whether two accesses of a thread share an address. -/
def State.sameAddr (s : State) (t a n b m : Nat) : Bool :=
  match s.locate t a, s.locate t b with
  | .cell _ k, .cell _ l => overlap k n l m
  | .mbus x, .mbus y => x == y
  | _, _ => overlap a n b m

/-- Whether two accesses of a thread have one target memory; the M-bus counts as one. -/
def State.sameTarget (s : State) (t a b : Nat) : Bool :=
  match s.locate t a, s.locate t b with
  | .cell m _, .cell k _ => m == k
  | .mbus _, .mbus _ => true
  | _, _ => false

/-- Whether an access of a thread to `n` bytes from an address on waits for one of its posted or timed-out stores to them
(spec/05 R673). -/
def State.accessWaits (s : State) (t a n : Nat) : Bool :=
  ((s.th t).posted ++ (s.th t).limbo).any (fun e => s.sameAddr t e.addr e.size a n)

/-! ### The ingot scrubber (spec/02 R51) -/

/-- One hour of station time in ns. -/
def hourNs : Nat := 3600000000000

/-- The scrubber reads its next word once its time has come: the word at address a, a / 16,777,216 of an hour after the
pass started; the next pass starts when the hour ends. -/
def State.scrubNext (s : State) : State :=
  let c := s.scrub
  if !c.active || decide (((s.nowNs : Int) - c.start) * 16777216 < c.pos * hourNs) then s
  else
    let (s, _, _) := s.readWord .ingot c.pos
    if c.pos + 8 < 16777216 then { s with scrub := { c with pos := c.pos + 8 } }
    else { s with scrub := ⟨true, 0, c.start + hourNs⟩ }

/-- INGOT_SCRUB_READ (spec/02 R51, Table 2.14). -/
def execIngotScrubRead (s : State) : Out := .next s.scrubNext

/-- A write to MEMECC_CTRL (spec/02 Table 2.15, R51): CE_CLEAR clears the count; INGOT_SCRUB_EN from 0 to 1 starts a pass,
0 stops it. -/
def State.writeMemeccCtrl (s : State) (v : BitVec 32) : State :=
  let was := s.is F.MEMECC_CTRL_INGOT_SCRUB_EN
  let on := v.toNat.testBit 1
  let s := if v.toNat.testBit 0 then s.wr F.MEMECC_CE_COUNT_COUNT 0 else s
  let s := s.wr F.MEMECC_CTRL_INGOT_SCRUB_EN (if on then 1 else 0)
  if on && !was then { s with scrub := ⟨true, 0, s.nowNs⟩ }
  else if !on then { s with scrub := { s.scrub with active := false } }
  else s

/-- MEMECC_CE_CLEAR (spec/02 Table 2.15). -/
def execMemeccCeClear (v : BitVec 32) (s : State) : Out := .next (s.whenOn (fun s => s.writeMemeccCtrl (v ||| 1)))

/-! ### SDRAM channels (spec/02 R65 to R73) -/

/-- The first data-plane address of a channel. -/
def sdBase (c : Nat) : Nat := 0x1000000000 + c * 0x800000000

/-- The pass of a channel's patrol scrubber. -/
def State.patrolOf (s : State) (c : Nat) : Patrol := tget (fun _ => Patrol.init) s.patrols c

/-- Replace it. -/
def State.setPatrol (s : State) (c : Nat) (p : Patrol) : State :=
  { s with patrols := tset (fun _ => Patrol.init) s.patrols c p }

/-- One pass in ns: PERIOD_H hours, of which the reserved 0 acts as 1 (spec/02 Table 2.15, spec/00 R665). (log entry 219,
DESIGN CHOICE). -/
def State.patrolNs (s : State) (c : Nat) : Nat := max 1 (s.rd (F.SDC_SCRUB_PERIOD_H c)) * hourNs

/-- The patrol scrubber of a channel reads a populated word (spec/02 R71, R68): a pass reads each populated word once, in any
order, and the next pass begins once every word has been read and PERIOD_H hours have passed since the pass began, where that
moment has long passed at once, as its next one counts from there; SCRUB_BUSY
is 1 from a pass's first word until its last has been read; `last`, that this word is the last of its pass. Before FILL_DONE it
reads nothing. (log entry 36, DESIGN CHOICE). -/
def State.patrol (s : State) (c off : Nat) (last : Bool) : State :=
  if !(s.is (F.SDC_SCRUB_ENABLE c) && off % 8 == 0 && decide (off < s.sdCapacity c) && s.sdReady c) then s
  else
    let p := s.patrolOf c
    let done := s.sdCapacity c ≤ 8 * p.seen.length
    if (if done then decide (s.nowNs < p.start + s.patrolNs c) else tget (fun _ => false) p.seen off) then s
    else
      let p : Patrol := if done then ⟨p.start + s.patrolNs c, []⟩ else p
      let p := { p with seen := tset (fun _ => false) p.seen off true }
      if last != decide (s.sdCapacity c ≤ 8 * p.seen.length) then s
      else
        let (s, _, _) := (s.setPatrol c p).readWord (.sdram c) (sdBase c + off)
        s.wr (F.SDC_STATUS_SCRUB_BUSY c) (if last then 0 else 1)

/-- SDRAM_PATROL_SCRUB (spec/02 R71, R72). -/
def execSdramPatrolScrub (c : Fin 2) (off : BitVec 35) (last : Bool) (s : State) : Out :=
  .next (s.patrol c.val off.toNat last)

/-- Whether Sequence 2.1 of a channel is between steps 2 and 6. -/
def State.initRuns (s : State) (c : Nat) : Bool := tget (fun _ => false) s.sdcInit c

/-- Set that. -/
def State.setInitRuns (s : State) (c : Nat) (b : Bool) : State :=
  { s with sdcInit := tset (fun _ => false) s.sdcInit c b }

/-- Whether a channel's initialisation has failed since the last reset of the main domains (spec/02 R69). -/
def State.initDead (s : State) (c : Nat) : Bool := tget (fun _ => false) s.sdcDead c

/-- A channel with POPULATED 0 keeps INIT_DONE, INIT_FAIL and FILL_DONE at 0 (spec/02 R68), and no scrub pass is in progress
(Table 2.17). FAIL_STEP is 0 with INIT_FAIL. That its initialisation has failed stands (R69). (log entry 220, DESIGN CHOICE). -/
def State.unpopulated (s : State) (c : Nat) : State :=
  if s.is (F.SDC_CTRL_POPULATED c) then s
  else (((((s.wr (F.SDC_STATUS_INIT_DONE c) 0).wr (F.SDC_STATUS_INIT_FAIL c) 0).wr (F.SDC_STATUS_FILL_DONE c) 0).wr
    (F.SDC_STATUS_FAIL_STEP c) 0).wr (F.SDC_STATUS_SCRUB_BUSY c) 0).setInitRuns c false

/-- A write to SDC_CTRL (spec/02 Table 2.16, R67, R68, R69): the RWC fields, then the clears, then INIT_START. (log entry 34,
DEDUCED). -/
def State.writeSdcCtrl (s : State) (c : Nat) (v : BitVec 32) : State :=
  let s := match regRow (A.SDC_CTRL c) with
    | some (row, _) => s.setReg (A.SDC_CTRL c)
        (BitVec.ofNat 32 (rowWrite s.inConfig (s.reg (A.SDC_CTRL c)).toNat v.toNat row.fields))
    | none => s
  let s := s.unpopulated c
  let s := if v.toNat.testBit 1 then s.wr (F.SDC_CE_COUNT_COUNT c) 0 else s
  let s := if v.toNat.testBit 2 then
      ((s.wr (F.SDC_UE_COUNT_COUNT c) 0).wr (F.SDC_UE_ADDR_LO_ADDR c) 0).wr (F.SDC_UE_ADDR_HI_ADDR c) 0
    else s
  if v.toNat.testBit 0 && s.inConfig && !s.is (F.SDC_STATUS_INIT_DONE c) && !s.initDead c
      && s.is (F.SDC_CTRL_POPULATED c) then s.setInitRuns c true
  else s

/-- INIT_START (spec/02 R65, R67, R68). -/
def execInitStart (c : Fin 2) (v : BitVec 32) (s : State) : Out := .next (s.whenOn (fun s => s.writeSdcCtrl c.val (v ||| 1)))

/-- SDC_CE_CLEAR (spec/02 Table 2.16). -/
def execSdcCeClear (c : Fin 2) (v : BitVec 32) (s : State) : Out := .next (s.whenOn (fun s => s.writeSdcCtrl c.val (v ||| 2)))

/-- SDC_UE_CLEAR (spec/02 Table 2.16, R73). -/
def execSdcUeClear (c : Fin 2) (v : BitVec 32) (s : State) : Out := .next (s.whenOn (fun s => s.writeSdcCtrl c.val (v ||| 4)))

/-- Step 6 of Sequence 2.1 (spec/02 R65, R69, spec/17 Table 17.2); without the reference, from which the channel's clock comes, it
goes no further (spec/15 R531). -/
def State.initEnd (s : State) (c : Nat) (fail : Option Nat) : State :=
  if !s.initRuns c || !s.is F.TMR_REF_REF25_OK then s
  else
    let s := s.setInitRuns c false
    match fail with
    | none => s.wr (F.SDC_STATUS_INIT_DONE c) 1
    | some k =>
      ((({ s with sdcDead := tset (fun _ => false) s.sdcDead c true }.wr (F.SDC_STATUS_INIT_FAIL c) 1).wr
        (F.SDC_STATUS_FAIL_STEP c) k)).offer 0x00 0x24 (c * 256 + k)

/-- SDRAM_INIT_DONE (spec/02 R65, R69). -/
def execSdramInitDone (c : Fin 2) (failStep : Option (Fin 8)) (s : State) : Out :=
  .next (s.initEnd c.val (failStep.map Fin.val))

/-- Every word of a channel at value 0 and tag DATA. -/
def State.fillChannel (s : State) (c : Nat) : State :=
  let out := fun (k : Nat) => !(decide (sdBase c ≤ k) && decide (k < sdBase c + 0x800000000))
  { s with mem := s.mem.filter (fun e => out e.1), bad := s.bad.filter (fun e => out e.1) }

/-- Step 7 of Sequence 2.1 ends (spec/02 R65), not without the reference (spec/15 R531); the patrol scrubber's first pass
begins. -/
def State.fillEnd (s : State) (c : Nat) : State :=
  if s.is (F.SDC_STATUS_INIT_DONE c) && !s.is (F.SDC_STATUS_FILL_DONE c) && s.is F.TMR_REF_REF25_OK then
    (((s.fillChannel c).wr (F.SDC_STATUS_FILL_DONE c) 1).wr (F.SDC_STATUS_SCRUB_BUSY c) 0).setPatrol c ⟨s.nowNs, []⟩
  else s

/-- SDRAM_FILL_DONE (spec/02 R65). -/
def execSdramFillDone (c : Fin 2) (s : State) : Out := .next (s.fillEnd c.val)

end Sys2Proof.Machine
end

