-- ==== Sys2Proof/Machine/Helpers.lean ====
section
/-! DEFINITION. The helpers over the state (spec/03 R105 to R114, R669, R670): job descriptors, access checks, jobs, tickets,
HJOB and HWAIT. -/

namespace Sys2Proof.Machine

/-! ### Descriptors (spec/03 Table 3.4) -/

/-- Word k of a job's descriptor. -/
def Job.word (j : Job) (k : Nat) : Word := (j.words[k]?).getD Word.zero
/-- HELPER. -/
def Job.hf (j : Job) : Nat := bits (j.word 0).val.toNat 60 4
/-- OP. -/
def Job.op (j : Job) : Nat := bits (j.word 0).val.toNat 52 8
/-- LEN. -/
def Job.len (j : Job) : Nat := bits (j.word 0).val.toNat 32 20
/-- FLAGS. -/
def Job.flags (j : Job) : Nat := bits (j.word 0).val.toNat 0 32
/-- PARAM. -/
def Job.param (j : Job) : Nat := (j.word 3).val.toNat

/-- The defined FLAGS of an operation, none for a reserved HELPER or OP (spec/03 Tables 3.5 to 3.7): FINAL of CRC32 and
CRC32_CHECK, S16 of the signal operations. -/
def Job.defined (j : Job) : Option Nat :=
  match j.hf, j.op with
  | 0, 1 => some 0
  | 0, 2 => some 0
  | 0, 3 => some 1
  | 0, 4 => some 1
  | 1, 1 => some 0
  | 1, 2 => some 0
  | 1, 3 => some 0
  | 2, 1 => some 1
  | 2, 2 => some 1
  | 2, 3 => some 1
  | _, _ => none

/-- The checks of BAD_DESC on a descriptor that was read (spec/03 Table 3.8). -/
def Job.badDesc (j : Job) : Bool :=
  match j.defined with
  | none => true
  | some d => decide (j.flags > d) || (j.hf == 2 && j.op ≥ 2 && j.param % 4 == 3)

/-- The status word of R109. -/
def statusWord (status helper ticket result : Nat) : Val :=
  BitVec.ofNat 64 (status % 256 + helper % 16 * 2 ^ 8 + ticket % 16 * 2 ^ 12 + result % 2 ^ 32 * 2 ^ 32)

/-! ### Access of a helper (spec/03 R106, R107) -/

/-- The 64-byte granules that a range of bytes meets. -/
def granules (a n : Nat) : List Nat := (List.range ((a + n + 63) / 64 - a / 64)).map (fun i => if i = 0 then a else (a / 64 + i) * 64)

/-- Whether a job's captured set lets it read or write a data-plane range, and where its first byte lies. An address that a
region permits but that reaches no memory, or an SDRAM channel before its fill, fails as one that no region permits. (log
entry 197, DESIGN CHOICE). -/
def State.rawOk (s : State) (j : Job) (write : Bool) (a n : Nat) : Option Nat :=
  let ok := fun g => match deciding j.regions j.priv g, s.locData (some (coreOf j.thread)) g with
    | some r, .cell _ _ => (if write then r.w else r.r) && !inWindow g
    | _, _ => false
  if (granules a n).all ok then
    match s.locData (some (coreOf j.thread)) a with
    | .cell _ k => some k
    | _ => none
  else none

/-- Where a job's transfer of `n` bytes at a HANDLE or DATA word plus an offset goes; none: a check failed (spec/03 R106).
The units transferred are naturally aligned. (log entry 43, DEDUCED). -/
def State.jobLoc (s : State) (j : Job) (write : Bool) (w : Word) (off n align : Nat) : Option Nat :=
  let k := match w.kind with
    | .handle =>
      match s.handleCheck w .access j.acct j.priv with
      | some _ => none
      | none => if rangeOk (s.hLayout w) (hOffset w.val + off) n then some (s.hAddr w (hOffset w.val + off)) else none
    | .data => s.rawOk j write ((w.val.toNat + off) % 2 ^ 64) n
    | _ => none
  match k with
  | some a => if a % align = 0 then some a else none
  | none => none

/-- The pool manager's read of the metadata of a job's HANDLE source or destination (spec/03 R106). -/
def State.touchWord (s : State) (w : Word) : State := if w.kind = .handle then s.touchHandle w .access else s

/-- The words of an output that a helper writes only in part, read before it writes (spec/02 R666): whether one of them is
POISON or holds an uncorrectable error. -/
def State.partWords (s : State) (k n : Nat) : State × Bool :=
  let first := if k % 8 ≠ 0 || n < 8 then [wordKey k] else []
  let last := if (k + n) % 8 ≠ 0 && wordKey (k + n) ≠ wordKey k then [wordKey (k + n)] else []
  (first ++ last).foldl (fun (acc : State × Bool) a =>
    let (s, r) := acc.1.readWords a 1
    (s, acc.2 || r.ue || r.poison)) (s, false)

/-- Bytes of a range that lie within another read as zero (spec/03 Table 3.5, CSUM16_PUT). -/
def zeroAt (src dst n : Nat) (bs : List Byte) : List Byte :=
  (bs.zip (List.range bs.length)).map (fun (b, i) => if dst ≤ src + i ∧ src + i < dst + n then 0 else b)

/-- A job that ends without writing. -/
def endWith (status : Nat) : JobEnd := ⟨status, 0, []⟩

/-- A job that computes from its source. -/
def State.runWith (s : State) (src n : Nat) (f : List Byte → JobEnd) : State × JobEnd :=
  let (s, r) := s.readBytes src n
  if r.ue || r.poison then (s, endWith 4) else (s, f r.bytes)

/-- The checksum/CRC helper (spec/03 R115, Table 3.5). Of several causes of Table 3.8 the job ends with the first of LENGTH,
ACCESS, ECC. (log entries 45, DEDUCED; 198, DESIGN CHOICE). -/
def State.runCsum (s : State) (j : Job) : State × JobEnd :=
  let n := j.len
  if n = 0 || n > 16384 then (s, endWith 2)
  else
    let s := s.touchWord (j.word 1)
    let s := if j.op = 2 then s.touchWord (j.word 2) else s
    match s.jobLoc j false (j.word 1) 0 (if j.op = 4 then n + 4 else n) 1 with
    | none => (s, endWith 3)
    | some src =>
      match j.op with
      | 1 => s.runWith src n (fun bs => ⟨0, csum16 (j.param % 65536) bs, []⟩)
      | 2 =>
        match s.jobLoc j true (j.word 2) (bits j.param 32 16) 2 2 with
        | none => (s, endWith 3)
        | some dst => s.runWith src n (fun bs =>
          let c := 65535 - csum16 (j.param % 65536) (zeroAt src dst 2 bs)
          ⟨0, c, [(dst, beBytes 2 c)]⟩)
      | 3 => s.runWith src n (fun bs => ⟨0, crc32 (crcInit j.param) (j.flags.testBit 0) bs, []⟩)
      | _ => s.runWith src (n + 4) (fun bs =>
        let c := crc32 (crcInit j.param) (j.flags.testBit 0) (bs.take n)
        ⟨if c = leNat (bs.drop n) then 0 else 5, c, []⟩)

/-- The 2-byte fields of a parse record that a mask selects, in field order (spec/03 Table 3.6). -/
def maskedFields (mask : Nat) (bs : List Byte) : List Byte :=
  (List.range 16).flatMap (fun i => if mask.testBit i then (bs.drop (2 * i)).take 2 else [])

/-- The hash helper (spec/03 R116, Table 3.6). FLOWHASH reads the whole words of buffer bytes 32 to 63, whichever fields the mask
selects. (log entries 42, DEDUCED; 198, DESIGN CHOICE; 199, DESIGN CHOICE). -/
def State.runHash (s : State) (j : Job) : State × JobEnd :=
  let n := j.len
  match j.op with
  | 3 =>
    let h : Word := ⟨(j.word 1).tag, BitVec.ofNat 64 (putBits (j.word 1).val.toNat 0 32 0)⟩
    let s := s.touchWord h
    if h.kind ≠ .handle then (s, endWith 3)
    else match s.jobLoc j false h 32 32 2 with
      | none => (s, endWith 3)
      | some src => s.runWith src 32 (fun bs =>
        ⟨0, hash32 (j.param / 2 ^ 32) (maskedFields (j.param % 65536) bs), []⟩)
  | op =>
    if n = 0 || n > 16384 then (s, endWith 2)
    else
      let s := s.touchWord (j.word 1)
      let s := if op = 1 then s else s.touchWord (j.word 2)
      match s.jobLoc j false (j.word 1) 0 n 1 with
      | none => (s, endWith 3)
      | some src =>
        if op = 1 then s.runWith src n (fun bs => ⟨0, hash32 j.param bs, []⟩)
        else match s.jobLoc j true (j.word 2) 0 8 8 with
          | none => (s, endWith 3)
          | some dst => s.runWith src n (fun bs =>
            ⟨0, 0, [(dst, beBytes 8 (hash64 (j.word 3).val bs).toNat)]⟩)

/-- The bytes that a signal operation writes: its size and how its place is aligned (spec/03 Table 3.7). -/
def Job.sigOut (j : Job) : Nat × Nat :=
  match j.op with
  | 1 => (32, 8)
  | 2 => (4 * j.len, 4)
  | _ => (8 * (j.len / 2 + 1), 8)

/-- Whether a signal operation reads user coefficients. -/
def Job.userWindow (j : Job) : Bool := j.param % 4 == 2 && (j.op == 2 || (j.op == 3 && j.param.testBit 2))

/-- The output of a signal operation (spec/03 Table 3.7). -/
def Job.sigBytes (j : Job) (coef : List Int) (bs : List Byte) : List Byte :=
  let xs := if j.flags.testBit 0 then samples2 bs else samples4 bs
  match j.op with
  | 1 => (statsWords xs).flatMap valBytes
  | 2 => sampleBytes (windowed (j.param % 4) coef xs)
  | _ =>
    let (ys, d) := if j.param.testBit 2 then weighted (j.param % 4) coef xs else (xs, 1)
    (fftWords (j.param.testBit 3) ys d).flatMap valBytes

/-- The signal helper (spec/03 R117, Table 3.7). (log entries 198, DESIGN CHOICE; 243, DEDUCED). -/
def State.runSignal (s : State) (j : Job) : State × JobEnd :=
  let n := j.len
  let size := if j.flags.testBit 0 then 2 else 4
  if n = 0 || n > 4096 || (j.op = 3 && (n < 16 || 2 ^ log2Of n ≠ n)) then (s, endWith 2)
  else
    let s := (s.touchWord (j.word 1)).touchWord (j.word 2)
    let out := j.sigOut
    match s.jobLoc j false (j.word 1) 0 (n * size) size, s.jobLoc j true (j.word 2) 0 out.1 out.2,
        (if j.userWindow then s.jobLoc j false (Word.data (BitVec.ofNat 64 (j.param / 256))) 0 (4 * n) 4 else some 0) with
    | some src, some dst, some c =>
      let (s, cs) := if j.userWindow then s.readBytes c (4 * n) else (s, ⟨[], false, false⟩)
      if cs.ue || cs.poison then (s, endWith 4)
      else s.runWith src (n * size) (fun bs =>
        ⟨0, 0, [(dst, j.sigBytes (samples4 cs.bytes) bs)]⟩)
    | _, _, _ => (s, endWith 3)

/-- What a job comes to (spec/03 R115 to R118). -/
def State.runJob (s : State) (j : Job) : State × JobEnd :=
  match j.hf with
  | 0 => s.runCsum j
  | 1 => s.runHash j
  | _ => s.runSignal j

/-! ### Tickets, queues -/

/-- The lowest ticket with no job outstanding (spec/03 R108, spec/04 Table 4.11). -/
def Thread.freeTicket (x : Thread) : Option Nat := x.tickets.findIdx? (fun k => k != .out)

/-- A job ends: its ticket holds its status word; a failure in a ticket used again is not forgotten (spec/03 R112). -/
def Thread.endTicket (x : Thread) (ticket : Nat) (w : Val) : Thread :=
  { x with tickets := x.tickets.set ticket (.ended w) }

/-- A ticket is taken for a job. -/
def Thread.takeTicket (x : Thread) (ticket : Nat) : Thread :=
  let lost := match x.tickets[ticket]? with
    | some (.ended w) => if badStatus w && x.lostFail.isNone then some w else x.lostFail
    | _ => x.lostFail
  { x with tickets := x.tickets.set ticket .out, lostFail := lost }

/-- A tile's helper: 3 × tile + HELPER. -/
def State.helper (s : State) (i : Nat) : Helper := tget (fun _ => Helper.mk [] none) s.helpers i

/-- Replace a helper. -/
def State.setHelper (s : State) (i : Nat) (h : Helper) : State :=
  { s with helpers := tset (fun _ => Helper.mk [] none) s.helpers i h }

/-- A thread that waits in HJOB goes on as far as it can (spec/03 R108, R669): it takes a ticket, then, unless its job has
ended at once, an entry of its helper's queue of 16. -/
def State.pokeHjob (s : State) (t : Nat) : State :=
  let x := s.th t
  match x.life, x.wait with
  | .blocked, some (.hjob rd ended j) =>
    let k := if j.ticket < 4 then some j.ticket else x.freeTicket
    match k with
    | none => s
    | some k =>
      let fin := fun (x : Thread) => (x.setReg rd.val (Word.data (BitVec.ofNat 64 k))).unblock
      match ended with
      | some st => s.setTh t (fin ((x.takeTicket k).endTicket k
          (statusWord (st % 16) (st / 16) k 0)))
      | none =>
        let i := 3 * tileOf t + j.hf
        let h := s.helper i
        let j := { j with ticket := k }
        if h.queue.length < 16 then (s.setHelper i { h with queue := h.queue ++ [j] }).setTh t (fin (x.takeTicket k))
        else s.setTh t { x with wait := some (.hjob rd none j) }
  | _, _ => s

/-- HWAIT of a ticket (spec/03 R109 to R111): no outstanding job gives NO_JOB at once; a completed one its status word, or
HELPER. (log entry 41, DESIGN CHOICE). -/
def State.pokeHwait (s : State) (t : Nat) : State :=
  let x := s.th t
  match x.life, x.wait with
  | .blocked, some (.hwait rd k) =>
    match (x.tickets[k]?).getD .free with
    | .out => s
    | .free =>
      let (n, s) := s.fresh
      s.setTh t ((x.setReg rd.val (Word.data (statusWord 0x0F (Config.noJobHelper n) k 0))).unblock)
    | .ended w =>
      if badStatus w then s.raise t 0x0F w
      else s.setTh t (({ x with tickets := x.tickets.set k .free }.setReg rd.val (Word.data w)).unblock)
  | _, _ => s

/-- A thread in its wait goes on as far as it can, after a change it may wait for or after its release. -/
def State.pokeAll (s : State) (t : Nat) : State :=
  ((((s.pokeDrain t).pokeHjob t).pokeHwait t).modTh t Thread.pokeEv).pokeSend

/-- RELEASE: a HALTED thread goes on where it stopped; a pending halt is cancelled (spec/17 R607, R609). -/
def State.releaseThread (s : State) (t : Nat) : State :=
  let x := s.th t
  match x.life with
  | .halted => (s.setTh t { x with life := x.saved }).pokeAll t
  | .faulted => s.setTh t { x with haltPend := false }
  | _ => s

/-- The threads of a tile that wait in HJOB for an entry of helper `i`'s queue. (log entry 40, DESIGN CHOICE). -/
def State.queueWaiters (s : State) (i : Nat) : List Nat :=
  (s.threads.filter (fun e => match e.2.life, e.2.wait with
    | .blocked, some (.hjob _ none j) => decide (j.ticket < 4) && 3 * tileOf e.1 + j.hf == i
    | _, _ => false)).map (·.1)

/-- An entry of a helper's queue frees: one of the threads that wait for it takes it. (log entry 39, DEDUCED). -/
def State.entryFreed (s : State) (i : Nat) : State :=
  match s.queueWaiters i with
  | [] => s
  | l =>
    let (n, s) := s.fresh
    match l[Config.waiterPick n % l.length]? with
    | some t => s.pokeHjob t
    | none => s

/-- A helper starts its oldest job (spec/03 R107, R113): it reads memory and settles the outcome. (log entry 46, DESIGN
CHOICE). -/
def State.startJob (s : State) (i : Nat) : State :=
  let h := s.helper i
  match h.busy, h.queue with
  | none, j :: r =>
    let (s, e) := s.runJob j
    (s.setHelper i ⟨r, some (j, e)⟩).entryFreed i
  | _, _ => s

/-- A job writes its output, all at once, after it has read the words of it that it writes only in part (spec/02 R666, spec/03
Table 3.8): one that is POISON or uncorrectable ends it with ECC, one that reaches no memory any more with ACCESS; then it
writes nothing. (log entries 46, DESIGN CHOICE; 197, DESIGN CHOICE). -/
def State.outputJob (s : State) (e : JobEnd) : State × JobEnd :=
  if e.writes.any (fun w => (s.memOf (wordKey w.1)).isNone || (s.memOf (wordKey (w.1 + w.2.length - 1))).isNone) then
    (s, endWith 3)
  else
    let (s, bad) := e.writes.foldl (fun (acc : State × Bool) w =>
      let (s, b) := acc.1.partWords w.1 w.2.length
      (s, acc.2 || b)) (s, false)
    if bad then (s, endWith 4) else (e.writes.foldl (fun s w => s.putBytes w.1 w.2) s, e)

/-- A helper's job ends (spec/03 R109, R113): its output is written with tag DATA, its ticket holds the status word. -/
def State.completeJob (s : State) (i : Nat) : State :=
  let h := s.helper i
  match h.busy with
  | none => s
  | some (j, e) =>
    let (s, e) := s.outputJob e
    let s := (s.setHelper i { h with busy := none }).modTh j.thread
      (fun x => x.endTicket j.ticket (statusWord e.status j.hf j.ticket e.result))
    ((s.pokeDrain j.thread).pokeHjob j.thread).pokeHwait j.thread

/-- HELPER_JOB_START (spec/03 R106 to R108, R115 to R117). -/
def execHelperJobStart (tile : Fin 6) (h : Fin 3) (s : State) : Out := .next (s.startJob (3 * tile.val + h.val))

/-- HELPER_JOB_COMPLETE (spec/03 R109, R113, R118). -/
def execHelperJobComplete (tile : Fin 6) (h : Fin 3) (s : State) : Out := .next (s.completeJob (3 * tile.val + h.val))

/-! ### HJOB and HWAIT -/

/-- Where a descriptor stands (spec/04 R145): tile memory or the thread's own core scratch, 32-byte aligned. -/
def State.descLoc (s : State) (t a : Nat) : Option Nat :=
  if a % 32 ≠ 0 then none
  else match s.locData (some (coreOf t)) a with
    | .cell (.tile _) k => some k
    | .cell (.scratch n) k => if n = coreOf t then some k else none
    | _ => none

/-- HJOB reads its descriptor (spec/03 R669, R670): the job as captured, and what it ends with at once: the status, plus 16
times the helper field of its status word. -/
def State.captureJob (s : State) (t a : Nat) : State × Job × Option Nat :=
  let x := s.th t
  let j : Job := ⟨t, 4, 0, [], x.acct, x.set.regions, s.priv t⟩
  match s.descLoc t a with
  | none => (s, j, some (1 + 16 * 0xF))
  | some k =>
    let (s, ws, bad) := (List.range 4).foldl (fun (acc : State × List Word × List Bool) i =>
      match acc.1.memOf (k + 8 * i) with
      | some m =>
        let (s, w, ue) := acc.1.readWord m (k + 8 * i)
        (s, acc.2.1 ++ [w], acc.2.2 ++ [ue || w.kind == .poison])
      | none => acc) (s, [], [])
    let j := { j with words := ws }
    if bad.any id then (s, j, some (4 + 16 * (if bad.headD false then 0xF else j.hf)))
    else if j.badDesc then (s, j, some (1 + 16 * j.hf))
    else (s, { j with helper := j.hf }, none)

/-- HJOB (spec/04 Table 4.9, R145, spec/03 R78, R108, R669); its read of the descriptor waits for the thread's posted stores to
it (spec/05 R673). -/
def execHjob (t : Tid) (rd rs1 : Reg) (s : State) : Out :=
  .next (s.issue t.val .m [rs1] (fun s =>
    let a := s.w t.val rs1.val
    if isPcore t.val then s.illegal (.hjob t rd rs1)
    else if a.kind ≠ .poison ∧ a.kind ≠ .data then s.tagKind a
    else s.noPoison t.val [rs1] (fun s =>
      if (s.descLoc t.val a.val.toNat).isSome && s.accessWaits t.val a.val.toNat 32 then .go s
      else
      let (s, j, e) := s.captureJob t.val a.val.toNat
      .go ((s.modTh t.val (fun x => { x with life := .blocked, wait := some (.hjob rd e j) })).pokeHjob t.val))))

/-- HWAIT (spec/04 Table 4.9, spec/03 R78, R109 to R111). -/
def execHwait (t : Tid) (rd rs1 : Reg) (s : State) : Out :=
  .next (s.issue t.val .m [rs1] (fun s =>
    if isPcore t.val then s.illegal (.hwait t rd rs1)
    else s.noPoison t.val [rs1] (fun s =>
      .go ((s.modTh t.val (fun x => { x with
        life := .blocked, wait := some (.hwait rd ((s.w t.val rs1.val).val.toNat % 4)) })).pokeHwait t.val))))

end Sys2Proof.Machine
end

