-- ==== Sys2Proof/Machine/Time.lean ====
section
/-! DEFINITION. Station time, timers, compare outputs, capture channels and their events (spec/14). -/

namespace Sys2Proof.Machine

/-- Timer `k`. -/
def State.timer (s : State) (k : Nat) : Timer := tget (fun _ => Timer.init) s.timers k

/-- Replace timer `k`. -/
def State.setTimer (s : State) (k : Nat) (x : Timer) : State :=
  { s with timers := tset (fun _ => Timer.init) s.timers k x }

/-- Channel `n`. -/
def State.chan (s : State) (n : Nat) : Chan := tget (fun _ => Chan.init) s.chans n

/-- Replace channel `n`. -/
def State.setChan (s : State) (n : Nat) (x : Chan) : State := { s with chans := tset (fun _ => Chan.init) s.chans n x }

/-- Station time in units of 2⁻³² ns. -/
def State.now96 (s : State) : Nat := s.nowNs * 2 ^ 32 + s.nowFrac

/-- A time stamp between the last step of station time and the next (spec/14 R675). -/
def State.stamp (s : State) (t : Nat) : Nat := clampTo s.now96 (s.now96 + 40 * 2 ^ 32) t

/-- A time stamp of a moment that has passed: not later than the next step of station time (spec/14 R675). -/
def State.stampPast (s : State) (t : Nat) : Nat := min t (s.now96 + 40 * 2 ^ 32)

/-! ### Wake (spec/15 R552, R553) -/

/-- A wake event during standby or its entry: the first one is latched and recorded in PWR_WAKE_CAUSE, and
sets STBY_OUT low once that has been high for 2 ms. -/
def State.latchWake (s : State) (cause num : Nat) : State :=
  if (s.phase == .entering || s.phase == .standby) && !s.standby.wake then
    let out := s.standby.out && decide (s.nowNs < s.standby.outAt + 2000000)
    ({ s with standby := { s.standby with wake := true, out := out } }.wr F.PWR_WAKE_CAUSE_CAUSE cause).wr F.PWR_WAKE_CAUSE_NUMBER num
  else s

/-! ### Events (spec/14 R520 to R522) -/

/-- A pending bit of a timer or a channel. -/
def pendBit (cap : Bool) (n : Nat) : Fld :=
  if !cap then ⟨A.TMR_PEND_TMR, n, 1⟩
  else if n < 32 then ⟨A.TMR_PEND_CAP_LO, n, 1⟩ else ⟨A.TMR_PEND_CAP_HI, n - 32, 1⟩

/-- An event that is no task sets its pending bit; a newly set bit sets EVPEND.TIMER in the core that the target names,
P-core 0 for a task (spec/14 R521). -/
def State.pendEvent (s : State) (cap : Bool) (n target : Nat) : State :=
  if s.is (pendBit cap n) then s else (s.wr (pendBit cap n) 1).event (if target = 3 then 1 else 0) .timer

/-- An event is raised at a station time; its route decides where it goes (spec/14 R520, R521): task events wait for their
enqueue, but those raised in standby or in reset are never enqueued later (R522). -/
def State.raiseEvent (s : State) (at_ : Nat) (e : TEvent) : State :=
  match e.route % 4 with
  | 0 => s
  | 1 => if s.mainOn && decide (s.timeBase.released ≤ at_) then { s with events := s.events ++ [e] } else s.pendEvent e.cap e.num 1
  | t => s.pendEvent e.cap e.num t

/-- What an event's enqueue asks for (spec/14 Table 14.1, spec/09 R309, Table 9.3). -/
def State.eventAsk (s : State) (e : TEvent) : Ask :=
  let g := bits e.route 5 4
  let (g, p, d) := if g = 15 then s.slowTarget else (g, bits e.route 2 3, bits e.route 16 12)
  ⟨some d, p, g, if e.cap then 4 else 3,
    [Word.data (BitVec.ofNat 64 e.w1), Word.zero, Word.data (BitVec.ofNat 64 e.w3), Word.data (BitVec.ofNat 64 e.w4)],
    bits e.route 9 6, false, 0, none⟩

/-- Take the first element that a test selects out of a list. -/
def takeFirst {α : Type} (p : α → Bool) : List α → Option (α × List α)
  | [] => none
  | x :: r => if p x then some (x, r) else (takeFirst p r).map (fun y => (y.1, x :: y.2))

/-- An event is enqueued as a task, or lost to a full share (spec/14 R519 to R521, spec/09 Table 9.4). -/
def State.enqueueEvent (s : State) (cap : Bool) (n : Nat) : State :=
  match takeFirst (fun e => e.cap == cap && e.num == n) s.events with
  | none => s
  | some (e, rest) =>
    match { s with events := rest }.arrive (s.eventAsk e) with
    | (s, some _) =>
      if cap && s.rd (F.CAP_SEQ_SEQ n) == e.seq then s.wr (F.CAP_STAT_FRESH n) 0 else s
    | (s, none) =>
      ((s.bump F.SCH_EVENT_LOST_CNT_COUNT).offer 0x09 0x01 (if cap then 0x100 + n else n)).pendEvent cap n 1

/-- EVENT_ENQUEUE (spec/14 R520, R521). -/
def execEventEnqueue (cap : Bool) (n : Fin 64) (s : State) : Out :=
  .next (s.whenOn (fun s => s.enqueueEvent cap n.val))

/-- Task events whose enqueue has not completed when a main-domain reset begins leave their pending bits only (spec/14 R521).
(log entry 146, DEDUCED). -/
def State.dropEvents (s : State) : State :=
  s.events.foldl (fun s e => s.pendEvent e.cap e.num 1) { s with events := [] }

/-! ### Compares (spec/14 R509 to R512) -/

/-- A compare as its timer holds it. -/
def Timer.cmp (x : Timer) (b : Bool) : Nat := if b then x.cmpB else x.cmpA

/-- ARM of a compare. -/
def armBit (k : Nat) (b : Bool) : Fld := if b then F.TMR_CTL_ARM_B k else F.TMR_CTL_ARM_A k

/-- A match that is due. -/
def Timer.due (x : Timer) (b : Bool) : Option Nat := if b then x.dueB else x.dueA

/-- Set or end a due match. -/
def Timer.setDue (x : Timer) (b : Bool) (d : Option Nat) : Timer :=
  if b then { x with dueB := d } else { x with dueA := d }

/-- Replace a compare in force. -/
def Timer.setCmp (x : Timer) (b : Bool) (v : Nat) : Timer := if b then { x with cmpB := v } else { x with cmpA := v }

/-- An armed compare that COUNT has reached is due to match, at the station time of the advance or of the arming (spec/14
R510). (log entry 140, DEDUCED). -/
def State.checkCompare (s : State) (k : Nat) (b : Bool) : State :=
  let x := s.timer k
  if s.is (armBit k b) && (x.due b).isNone && decide (x.cmp b ≤ x.count) then s.setTimer k (x.setDue b (some s.nowNs))
  else s

/-- What AUTO and STEP make of a compare that has matched (spec/14 R511): the compare in force, whether it stays armed, and
CATCHUP. (log entry 141, DEDUCED). -/
def autoStep (cmp count step : Nat) : Nat × Bool × Nat :=
  let n := (count - cmp) / step + 1
  let v := cmp + n * step
  (v % 2 ^ 64, decide (v < 2 ^ 64), n)

/-- A compare-mode pin applies an action to OUT (spec/14 R512): 1 set, 2 clear, 3 toggle. -/
def State.pinAct (s : State) (n act : Nat) : State :=
  let f := F.SIO_CFG_OUT n
  match act with
  | 1 => s.wr f 1
  | 2 => s.wr f 0
  | 3 => s.wr f (1 - s.rd f)
  | _ => s

/-- The compare outputs of a match (spec/14 R512). -/
def State.pinActs (s : State) (k : Nat) (b : Bool) : State :=
  (List.range 64).foldl (fun s n =>
    if s.rd (F.SIO_CFG_MODE n) = 3 ∧ s.rd (F.SIO_CFG_TIMER n) = k then
      s.pinAct n (if b then s.rd (F.SIO_CFG_ACT_B n) else s.rd (F.SIO_CFG_ACT_A n))
    else s) s

/-- The exchange epoch at a station time (spec/14 R518). -/
def State.epochAt (s : State) (t : Nat) : Nat :=
  s.timeBase.epochs.foldl (fun e (c : Nat × Nat) => if t < c.1 then c.2 else e) (s.rd F.TMR_EPOCH_EPOCH)

/-- A due match takes effect (spec/14 R510 to R512, Table 14.1): when B is due beside A, A goes first. -/
def State.matchCompare (s : State) (k : Nat) (b : Bool) : State :=
  let x := s.timer k
  match x.due b with
  | none => s
  | some at_ =>
    if b && x.dueA.isSome then s
    else
      let step := s.rd (F.TMR_STEP_STEP k)
      let auto := s.is (if b then F.TMR_CTL_AUTO_B k else F.TMR_CTL_AUTO_A k) && step != 0
      let (v, armed, n) := if auto then autoStep (x.cmp b) x.count step else (x.cmp b, false, 1)
      let s := s.setTimer k ((x.setDue b none).setCmp b v)
      let s := s.wr (armBit k b) (if armed then 1 else 0)
      let s := s.wr (if b then F.TMR_CTL_MATCH_B k else F.TMR_CTL_MATCH_A k) 1
      let s := s.pinActs k b
      let s := s.raiseEvent at_ ⟨false, k, 0, x.cmp b,
        satTo 65535 n * 2 ^ 48 + s.epochAt at_ * 2 ^ 8 + (if b then 32 else 0) + k, at_,
        (s.reg (A.TMR_ROUTE k)).toNat⟩
      if s.is F.PWR_WAKE_EN_TIMER && (s.reg A.PWR_WAKE_TMR).toNat.testBit k then s.latchWake 2 k else s

/-- The matches of a timer that are due (spec/14 R507): A first, then B. -/
def State.settleTimer (s : State) (k : Nat) : State := (s.matchCompare k false).matchCompare k true

/-- The matches of all timers that are due: they come before anything that shows or changes what a match does. -/
def State.settleAll (s : State) : State := (List.range 32).foldl State.settleTimer s

/-- TMR_EPOCH takes a value (spec/14 R518), after the matches that are due: theirs is the epoch before. -/
def State.setEpoch (s : State) (e : Nat) : State :=
  let s := s.settleAll
  { s with timeBase := { s.timeBase with epochs := (s.nowNs, s.rd F.TMR_EPOCH_EPOCH) :: s.timeBase.epochs } }.wr
    F.TMR_EPOCH_EPOCH e

/-- COMPARE_MATCH (spec/14 R510 to R512). -/
def execCompareMatch (k : Fin 32) (b : Bool) (s : State) : Out := .next (s.matchCompare k.val b)

/-- A write to CMP_x_LO is staged (spec/14 R509). (log entry 142, DEDUCED). -/
def State.writeCmpLo (s : State) (k : Nat) (b : Bool) (v : BitVec 32) : State :=
  let x := s.timer k
  s.setTimer k (if b then { x with stageB := v.toNat } else { x with stageA := v.toNat })

/-- A write to CMP_x_HI loads both halves and arms the compare, which matches at once at or below COUNT (spec/14 R509,
R510). -/
def State.writeCmpHi (s : State) (k : Nat) (b : Bool) (v : BitVec 32) : State :=
  let s := s.settleTimer k
  let x := s.timer k
  let s := s.setTimer k (x.setCmp b (v.toNat * 2 ^ 32 + (if b then x.stageB else x.stageA)))
  ((s.wr (armBit k b) 1).checkCompare k b).settleTimer k

/-- CMP_LO_WRITE (spec/14 R509). -/
def execCmpLoWrite (k : Fin 32) (b : Bool) (v : BitVec 32) (s : State) : Out :=
  .next (s.whenOn (fun s => s.writeCmpLo k.val b v))

/-- CMP_HI_WRITE (spec/14 R509, R510). -/
def execCmpHiWrite (k : Fin 32) (b : Bool) (v : BitVec 32) (s : State) : Out :=
  .next (s.whenOn (fun s => s.writeCmpHi k.val b v))

/-- A software write to a register under the access codes of its fields (spec/00 R9 to R11). (log entry 13, DEDUCED). -/
def State.plainWrite (s : State) (a : Nat) (v : BitVec 32) : State :=
  match regRow a with
  | some (row, _) => s.setReg a (BitVec.ofNat 32 (rowWrite s.inConfig (s.reg a).toNat v.toNat row.fields))
  | none => s

/-- A write to TMR_CTL (spec/14 R507, R508): CLEAR sets COUNT and R to 0, at any EN. -/
def State.writeTmrCtl (s : State) (k : Nat) (v : BitVec 32) : State :=
  let s := (s.settleTimer k).plainWrite (A.TMR_CTL k) v
  if v.toNat.testBit 1 then
    (((s.setTimer k { s.timer k with count := 0, rem := 0 }).checkCompare k false).checkCompare k true).settleTimer k
  else s

/-- TIMER_CLEAR (spec/14 R508). -/
def execTimerClear (k : Fin 32) (v : BitVec 32) (s : State) : Out :=
  .next (s.whenOn (fun s => s.writeTmrCtl k.val (v ||| 2)))

/-! ### The advance of station time (spec/14 R501, R502, R505, R507) -/

/-- A signed field of 20 bits. -/
def signed20 (v : Nat) : Int := if v ≥ 2 ^ 19 then (v : Int) - 2 ^ 20 else v

/-- The effective trim in ppb (spec/14 R505). -/
def State.trim (s : State) : Int :=
  let t := if s.is F.TMR_TRIM_SRC then s.ringRate else signed20 (s.rd F.TMR_TRIM_PPB)
  max (-250000) (min 250000 t)

/-- The step of the next source cycle, in units of 1 / (64 × 10⁹) ns (spec/14 R501, R502, R506): 40 ns × (1 + T ppb) on the
reference, 30,517.578125 ns × (1 + (T − X) ppb) on the crystal, none with neither. -/
def State.tickStep (s : State) : Option Nat :=
  if s.is F.TMR_REF_REF25_OK then some (2560 * (1000000000 + s.trim)).toNat
  else if s.is F.TMR_REF_XTAL_OK then
    let x := if s.is F.TMR_XCAL_VALID then signed20 (s.rd F.TMR_XCAL_PPB) else 0
    some (1953125 * (1000000000 + s.trim - x)).toNat
  else none

/-- DIV as it acts (spec/14 Table 14.3): 0 acts as 1, a value above 16,777,216 as 16,777,216. -/
def State.timerDiv (s : State) (k : Nat) : Nat := clampTo 1 16777216 (s.rd (F.TMR_DIV_DIV k))

/-- An enabled timer takes an advance (spec/14 R507). -/
def State.countTimer (s : State) (d k : Nat) : State :=
  if s.is (F.TMR_CTL_EN k) then
    let x := s.timer k
    let r := x.rem + d
    let q := s.timerDiv k * tUnit
    ((s.setTimer k { x with count := (x.count + r / q) % 2 ^ 64, rem := r % q }).checkCompare k false).checkCompare k true
  else s

/-- The run counter of a thread (spec/03 R100, R101): it advances while the thread holds a task and is RUNNING, BLOCKED or
FAULTED. -/
def Thread.runOn (x : Thread) (d : Nat) : Thread :=
  match x.life with
  | .running | .blocked | .faulted => if x.held.isSome then { x with run := x.run + d } else x
  | _ => x

/-- The watchdog counts while EN is 1 and P-core 0 is not HALTED (spec/16 R564). -/
def State.countWdt (s : State) (d : Nat) : State :=
  if s.mainOn && s.is F.SYS_WDT_CTL_EN && (s.th 192).life != .halted then { s with wdt := s.wdt + d } else s

/-- An error arises in a stored word; its next reader finds it (spec/02 R48, R49). -/
def State.upset (s : State) (k : Nat) (ue : Bool) : State :=
  { s with bad := tset eccDefault s.bad (wordKey k) (if ue then .uncorrectable else .correctable) }

/-- One cycle of the source of station time (spec/14 R501, R502, R507): the matches of the last advance come before it. (log
entry 137, DESIGN CHOICE). -/
def State.tick (s : State) : State :=
  match s.tickStep with
  | none => s
  | some d =>
    let s := s.settleAll
    let s := { s with acc := s.acc + d, threads := s.threads.map (fun (e : Nat × Thread) => (e.1, e.2.runOn d)) }
    let s := s.wr F.TMR_REF_SRC (if s.is F.TMR_REF_REF25_OK then 0 else 1)
    (List.range 32).foldl (fun s k => s.countTimer d k) (s.countWdt d)

/-- STATION_TIME_ADVANCE (spec/14 R501, R502, R507, R675). -/
def execStationTimeAdvance (upset : Option (BitVec 40 × Bool)) (s : State) : Out :=
  .next (match upset with
    | some (k, ue) => s.tick.upset k.toNat ue
    | none => s.tick)

/-! ### The sources (spec/14 R503, R504, R506, R676) -/

/-- STOPPED, and since when both flags have been 1. (log entry 139, DEDUCED). -/
def State.sourceFlags (s : State) : State :=
  let r := s.is F.TMR_REF_REF25_OK
  let x := s.is F.TMR_REF_XTAL_OK
  let s := s.wr F.TMR_REF_STOPPED (if r || x then 0 else 1)
  { s with timeBase := { s.timeBase with both :=
    if r && x then (match s.timeBase.both with | some t => some t | none => some s.nowNs) else none } }

/-- The WAKE record of Sequence 15.2, step 5, once station time is back on the reference. -/
def State.wakeRecord (s : State) : State :=
  if s.standby.waking && s.is F.TMR_REF_REF25_OK then
    { s with standby := { s.standby with waking := false } }.offer 0x01 0x11 (s.reg A.PWR_WAKE_CAUSE).toNat
  else s

/-- The reference has qualified (spec/14 R503, spec/15 R554). -/
def State.ref25Good (s : State) : State := ((s.wr F.TMR_REF_REF25_OK 1).sourceFlags).wakeRecord

/-- XTAL_QUALIFIED (spec/14 R503). -/
def execXtalQualified (s : State) : Out := .next (s.wr F.TMR_REF_XTAL_OK 1).sourceFlags

/-- XTAL_LOSS (spec/14 R503, R506). -/
def execXtalLoss (s : State) : Out := .next (s.wr F.TMR_REF_XTAL_OK 0).sourceFlags

/-- The end of a window of 1 s throughout which both sources were good (spec/14 R504). (log entry 138, DEDUCED). -/
def State.xcalEnd (s : State) (ppb : BitVec 20) : State :=
  let w := s.nowNs / 1000000000 * 1000000000
  match s.timeBase.both with
  | none => s
  | some t =>
    if 1000000000 ≤ w ∧ t ≤ w - 1000000000 ∧ s.timeBase.xcal < w then
      ({ s with timeBase := { s.timeBase with xcal := w } }.wr F.TMR_XCAL_PPB ppb.toNat).wr F.TMR_XCAL_VALID 1
    else s

/-- XCAL_WINDOW_END (spec/14 R504). -/
def execXcalWindowEnd (ppb : BitVec 20) (s : State) : Out := .next (s.xcalEnd ppb)

/-! ### Capture (spec/14 R515 to R519, R678) -/

/-- Write a 64-bit value into a _LO/_HI register pair. -/
def State.put64 (s : State) (lo hi : Nat) (v : Nat) : State :=
  (s.setReg lo (BitVec.ofNat 32 v)).setReg hi (BitVec.ofNat 32 (v / 2 ^ 32))

/-- A pulse completes at its fall (spec/14 R516, R519, Table 14.1); its event is raised once the fall has held for the filter
time (R520). -/
def State.pulse (s : State) (n : Nat) (rise er : Nat) : State :=
  let c := s.chan n
  let fall := c.changed
  let ef := c.epoch
  let width := fall - rise
  let period := match c.prev with | none => 0 | some p => rise - p
  let m := 0xFFFFFFFF
  let seq := (s.rd (F.CAP_SEQ_SEQ n) + 1) % 2 ^ 32
  let b := fun (b : Bool) => if b then 1 else 0
  let s := (s.put64 (A.CAP_RISE_LO n) (A.CAP_RISE_HI n) rise).put64 (A.CAP_FALL_LO n) (A.CAP_FALL_HI n) fall
  let s := (s.wr (F.CAP_WIDTH_NS n) (satTo m width)).wr (F.CAP_PERIOD_NS n) (satTo m period)
  let s := if s.is (F.CAP_STAT_FRESH n) then s.wr (F.CAP_STAT_OVR n) 1 else s
  let s := (s.wr (F.CAP_STAT_EPOCH_RISE n) er).wr (F.CAP_STAT_EPOCH_FALL n) ef
  let s := (s.wr (F.CAP_STAT_FIRST n) (b c.prev.isNone)).wr (F.CAP_STAT_WSAT n) (b (width > m))
  let s := (s.wr (F.CAP_STAT_PSAT n) (b (period > m))).wr (F.CAP_SEQ_SEQ n) seq
  let s := (s.wr (F.CAP_STAT_FRESH n) 1).setChan n { c with rise := none, prev := some rise }
  s.raiseEvent (fall + 40 * s.rd (F.CAP_CTL_FILT n)) ⟨true, n, seq, rise, satTo m period * 2 ^ 32 + satTo m width,
    n * 2 ^ 56 + er * 2 ^ 48 + ef * 2 ^ 40 + s.rd (F.CAP_STAT_OVR n) * 2 ^ 39 + b (width > m) * 2 ^ 38
      + b (period > m) * 2 ^ 37 + b c.prev.isNone * 2 ^ 36 + seq, (s.reg (A.CAP_ROUTE n)).toNat⟩

/-- The station time at which a level change began: between steps while the reference runs, else that of the crystal step at or
before it (spec/14 R515, R675); a moment not yet past is none. -/
def State.edgeTime (s : State) (t : Nat) : Option Nat :=
  if s.is F.TMR_REF_REF25_OK then (if t ≤ s.nowNs + 40 then some t else none)
  else if s.nowNs < t then none
  else match s.tickStep with
    | none => some s.nowNs
    | some d => some ((s.acc - (s.acc - t * tUnit + d - 1) / d * d) / tUnit)

/-- The level at a ball of a station-time pin changes: the channel keeps when, and the exchange epoch of that moment (spec/14
R515, R518). A change told with a time before that of the last one is none. (log entry 143, DEDUCED). -/
def State.ballChange (s : State) (n : Nat) (level : Bool) (time : Nat) : State :=
  match s.edgeTime time with
  | none => s
  | some t =>
    if level == tget (fun _ => false) s.sioIn n || decide (time < (s.chan n).asked) then s
    else { s.setChan n { s.chan n with changed := t, asked := time, epoch := s.epochAt t, counted := false } with
      sioIn := tset (fun _ => false) s.sioIn n level }

/-- The last change of a channel has held for the filter time (spec/14 R515 to R518): an edge of its processed level. -/
def State.edgeDone (s : State) (n : Nat) (level : Bool) : State :=
  let s := s.setChan n { s.chan n with counted := true }
  if !s.is (F.CAP_CTL_EN n) then s
  else
    let s := if s.is F.PWR_WAKE_EN_CAPTURE && s.is (if n < 32 then ⟨A.PWR_WAKE_CAP_LO, n, 1⟩
      else ⟨A.PWR_WAKE_CAP_HI, n - 32, 1⟩) then s.latchWake 3 n else s
    let c := s.chan n
    if level != s.is (F.CAP_CTL_INVERT n) then s.setChan n { c with rise := some (c.changed, c.epoch) }
    else match c.rise with
      | none => s
      | some (r, er) => s.pulse n r er

/-- Whether the last change of a channel is that of `time`, still stands and has held for the filter time (spec/14 R515). -/
def State.edgeHeld (s : State) (n : Nat) (level : Bool) (time : Nat) : Bool :=
  let c := s.chan n
  let slack := if s.is F.TMR_REF_REF25_OK then 40 else 0
  tget (fun _ => false) s.sioIn n == level && c.asked == time && !c.counted
    && decide (c.changed + 40 * s.rd (F.CAP_CTL_FILT n) ≤ s.nowNs + slack)

/-- A level change at a ball: it shows in SIO_CFG.LEVEL from then on (Table 14.3), and counts as an edge once the new level has
held for the filter time (spec/14 R515): at once, or at the same command repeated. (log entry 143, DEDUCED). -/
def State.edge (s : State) (n : Nat) (level : Bool) (time : Nat) : State :=
  let s := s.ballChange n level time
  if s.edgeHeld n level time then s.edgeDone n level else s

/-- CAPTURE_EDGE (spec/14 R515 to R519). -/
def execCaptureEdge (n : Fin 64) (level : Bool) (time : BitVec 64) (s : State) : Out :=
  .next (s.edge n.val level time.toNat)

/-- A read of CAP_SEQ by a thread or a Puppeteer core clears FRESH (spec/14 R519). (log entry 145, DEDUCED). -/
def State.readCapSeq (s : State) (n : Nat) : State := s.wr (F.CAP_STAT_FRESH n) 0

/-- CAP_SEQ_READ (spec/14 R519). -/
def execCapSeqRead (n : Fin 64) (s : State) : Out := .next (s.whenOn (fun s => s.readCapSeq n.val))

/-- A write to CAP_CTL (spec/14 R516, R517, R678): a new INVERT, or EN from 0 to 1, discards a held rise and makes the next
pulse the first; a change that a new INVERT finds under its filter is no edge of the new level. (log entry 144, DEDUCED). -/
def State.writeCapCtl (s : State) (n : Nat) (v : BitVec 32) : State :=
  let en := s.is (F.CAP_CTL_EN n)
  let inv := s.is (F.CAP_CTL_INVERT n)
  let s := s.plainWrite (A.CAP_CTL n) v
  let s := if v.toNat.testBit 1 != inv then s.setChan n { s.chan n with counted := true } else s
  if (v.toNat.testBit 0 && !en) || v.toNat.testBit 1 != inv then
    s.setChan n { s.chan n with rise := none, prev := none }
  else s

/-- CAP_INVERT_WRITE (spec/14 R678). -/
def execCapInvertWrite (n : Fin 64) (v : BitVec 32) (s : State) : Out :=
  .next (s.whenOn (fun s => s.writeCapCtl n.val v))

end Sys2Proof.Machine
end

