-- ==== Sys2Proof/Machine/Ports.lean ====
section
/-! DEFINITION. The uplink ports and the cell links (spec/11): ingress, drops, pause, timestamps, link states, transmission. -/

namespace Sys2Proof.Machine

/-! ### Ingress (spec/11 R419, R420, spec/06 R220, R221) -/

/-- A port allocates the buffer of a frame at its first byte; a failure counts by its cause. -/
def State.ingress (s : State) (pool acct : Nat) : State × Option (Word × Layout × Nat) :=
  match s.alloc pool acct with
  | (s, .ok l i g) => (s, some (⟨Tag.ofAccount acct, mkHandle pool g i⟩, l, i))
  | (s, .fail c) =>
    (s.bump (if c = 1 then F.POOL_DROP_EMPTY_COUNT pool else if c = 2 then F.POOL_DROP_LIMIT_COUNT pool
      else F.POOL_DROP_DISABLED_COUNT pool), none)

/-- Write frame bytes from buffer byte 64 on, never beyond the buffer (spec/06 R217, R221). -/
def State.writeFrame (s : State) (l : Layout) (i : Nat) (data : List Byte) : State :=
  s.portWrite (l.base + i * l.size + 64) (data.take (l.size - 64))

/-- The cause counters and the total of a port that receives frames. -/
structure RxCnt where
  total : Fld
  alloc : Fld
  long : Fld
  deriving DecidableEq, Repr

/-- The counters of an uplink. -/
def uplCnt (u : Nat) : RxCnt :=
  ⟨F.UPL_RX_DROP_CNT_COUNT u, F.UPL_RX_POOL_DROP_CNT_COUNT u, F.UPL_RX_TOO_LONG_CNT_COUNT u⟩

/-- The counters of a cell link. -/
def celCnt (n : Nat) : RxCnt :=
  ⟨F.CL_RX_DROP_CNT_COUNT n, F.CL_RX_POOL_DROP_CNT_COUNT n, F.CL_RX_TOO_LONG_CNT_COUNT n⟩

/-- Drop a frame that holds a buffer: one cause counter, the port's total, the buffer back to its pool (spec/11 R420). -/
def State.rxDrop (s : State) (c : RxCnt) (cause : Fld) (h : Word) : State := ((s.bump cause).bump c.total).release h

/-- An accepted frame awaits its parse (spec/07 R246); the peak of F is noted (spec/15 R541). -/
def State.accept (s : State) (f : InFrame) : State :=
  let fs := s.frames ++ [f]
  { s with frames := fs, loop := { s.loop with peakF := max s.loop.peakF fs.length } }

/-- A frame comes in: its buffer is allocated and written; when it is too long for the buffer it is dropped there, else `k`
decides its end (spec/11 R419, R420). (log entry 76, DESIGN CHOICE). -/
def State.takeIn (s : State) (c : RxCnt) (pool acct : Nat) (data : List Byte) (k : State → Word → State) : State :=
  match s.ingress pool acct with
  | (s, none) => (s.bump c.alloc).bump c.total
  | (s, some (h, l, i)) =>
    let s := s.writeFrame l i data
    if data.length > l.size - 64 then (s.bump (F.POOL_TOO_LONG_COUNT pool)).rxDrop c c.long h
    else k s h

/-! ### PTP event messages (spec/11 R407 to R411) -/

/-- The byte at an offset. -/
def byteAt (bs : List Byte) (n : Nat) : Nat := ((bs[n]?).getD 0).toNat

/-- Two bytes, big-endian. -/
def halfAt (bs : List Byte) (n : Nat) : Nat := byteAt bs n * 256 + byteAt bs (n + 1)

/-- The offset of the EtherType after zero, one or two VLAN tags. -/
def typeOff (bs : List Byte) : Nat :=
  let vlan := fun n => halfAt bs n == 0x8100 || halfAt bs n == 0x88A8
  if vlan 12 then (if vlan 16 then 20 else 16) else 12

/-- The offset of the PTP header, where the frame has one at a place of R407. -/
def ptpOff (udp : Bool) (bs : List Byte) : Option Nat :=
  let o := typeOff bs
  let at_ :=
    if halfAt bs o = 0x88F7 then some (o + 2)
    else if udp && halfAt bs o == 0x0800 && byteAt bs (o + 2) / 16 == 4 && halfAt bs (o + 8) % 0x4000 == 0
        && byteAt bs (o + 11) == 17 then
      let l4 := o + 2 + 4 * (byteAt bs (o + 2) % 16)
      if halfAt bs (l4 + 2) = 319 then some (l4 + 8) else none
    else if udp && halfAt bs o == 0x86DD && byteAt bs (o + 8) == 17 then
      if halfAt bs (o + 44) = 319 then some (o + 50) else none
    else none
  at_.bind (fun n => if n + 34 ≤ bs.length then some n else none)

/-- Whether the header is of an event message. (log entry 79, DEDUCED). -/
def ptpEvent (bs : List Byte) (n : Nat) : Bool := byteAt bs n % 16 ≤ 3

/-- The timestamp FIFO of uplink `u`: receive, or transmit. -/
def State.tsFifo (s : State) (u : Nat) (tx : Bool) : List TsEntry := tget (fun _ => []) s.ts (2 * u + if tx then 1 else 0)

/-- Replace a timestamp FIFO. -/
def State.setTs (s : State) (u : Nat) (tx : Bool) (l : List TsEntry) : State :=
  { s with ts := tset (fun _ => []) s.ts (2 * u + if tx then 1 else 0) l }

/-- UPL_TS_ADJ of a direction applied to a time in units of 2^−32 ns (spec/11 R408). (log entry 80, DEDUCED). -/
def State.tsAdjust (s : State) (u : Nat) (tx : Bool) (time : Nat) : Nat :=
  let a := signedOf 16 (s.rd (if tx then F.UPL_TS_ADJ_TX u else F.UPL_TS_ADJ_RX u))
  (((time : Int) + a * 2 ^ 32 / 10) % 2 ^ 96).toNat

/-- Add a timestamp entry (spec/11 R410, R411): to a full FIFO it is discarded and counted. -/
def State.addTs (s : State) (u : Nat) (tx : Bool) (h : Word) (bs : List Byte) (off : Option Nat) (time : Nat) : State :=
  let q := s.tsFifo u tx
  if q.length ≥ 64 then s.bump (if tx then F.TXTS_OVF_CNT_COUNT u else F.RXTS_OVF_CNT_COUNT u)
  else
    let (id, s) := match off with
      | some n => (halfAt bs (n + 30) + byteAt bs n % 16 * 2 ^ 16 + byteAt bs (n + 4) * 2 ^ 20, s)
      | none => (let (k, s) := s.fresh; (Config.tsId k, s))
    let t := s.tsAdjust u tx (s.stampPast time)
    s.setTs u tx (q ++ [⟨h.val.toNat / 2 ^ 32, bits id 0 16, bits id 16 4, bits id 20 8, t / 2 ^ 32, t % 2 ^ 32⟩])

/-- A receive timestamp (spec/11 R407, R409). (log entry 81, DESIGN CHOICE). -/
def State.rxStamp (s : State) (u : Nat) (h : Word) (bs : List Byte) (time : Nat) : State :=
  if !s.is (F.UPL_PTP_CTL_RX_EN u) then s
  else
    let off := ptpOff (s.is (F.UPL_PTP_CTL_UDP_EN u)) bs
    match off with
    | some n => if ptpEvent bs n || s.is (F.UPL_PTP_CTL_RX_ALL u) then s.addTs u false h bs off time else s
    | none => if s.is (F.UPL_PTP_CTL_RX_ALL u) then s.addTs u false h bs none time else s

/-- A transmit timestamp (spec/11 R407, R409). -/
def State.txStamp (s : State) (u : Nat) (h : Word) (bs : List Byte) (time : Nat) : State :=
  if !s.is (F.UPL_PTP_CTL_TX_EN u) then s
  else match ptpOff (s.is (F.UPL_PTP_CTL_UDP_EN u)) bs with
    | some n => if ptpEvent bs n then s.addTs u true h bs (some n) time else s
    | none => s

/-- TS_POP (spec/11 R411): a write with POP at 1 removes the head entry. -/
def execTsPop (u : Fin 2) (tx : Bool) (s : State) : Out :=
  .next (s.whenOn (fun s => s.setTs u.val tx ((s.tsFifo u.val tx).drop 1)))

/-! ### Uplink reception (spec/11 R401, R404, R405) -/

/-- Frame check sequence or CRC of a frame, sent least significant byte first (spec/11 R414, IEEE 802.3). (log entry 82,
DEDUCED). -/
def fcsOf (bs : List Byte) : List Byte := leBytes 4 (crc32 0xFFFFFFFF true bs)

/-- The destination of MAC control frames. -/
def pauseDst : Nat := 0x0180C2000001

/-- One pause quantum, 51.2 ns, in units of the station-time accumulator (spec/11). -/
def quantum : Nat := tUnit * 512 / 10

/-- A received pause frame (spec/11 R404). -/
def State.rxPause (s : State) (u q : Nat) : State :=
  let s := s.bump (F.UPL_RX_PAUSE_CNT_COUNT u)
  if s.is (F.UPL_CTL_PAUSE_RX_EN u) then
    { s with pauseEnd := tset (fun _ => 0) s.pauseEnd u (s.acc + q * quantum) }.wr (F.UPL_STATUS_PAUSED u)
      (if q = 0 then 0 else 1)
  else s

/-- The destination MAC address of a frame; bit 40 is its group bit. -/
def dstMac (bs : List Byte) : Nat := beNat (bs.take 6)

/-- Whether uplink `u` accepts a destination (spec/11 R401). -/
def State.macOk (s : State) (u mac : Nat) : Bool :=
  s.is (F.UPL_CTL_PROMISC u) || mac.testBit 40 || mac == s.rd (F.UPL_MAC_LO_MAC u) + s.rd (F.UPL_MAC_HI_MAC u) * 2 ^ 32

/-- Uplink `u` receives a frame: its bytes with the FCS, whether a code error lay within it, the station time of its
timestamp point (spec/11 R401, R404, R405, R409, Table 11.6). (log entries 77, DEDUCED; 78, DEDUCED). -/
def State.uplReceive (s : State) (u : Nat) (bytes : List Byte) (code : Bool) (time : Nat) : State :=
  if !s.is (F.UPL_STATUS_UP u) then s
  else
    let data := bytes.take (bytes.length - 4)
    let good := bytes.length ≥ 4 && fcsOf data == bytes.drop (bytes.length - 4)
    let control := halfAt data 12 == 0x8808
    if !code && good && bytes.length ≥ 64 && control && dstMac data == pauseDst && halfAt data 14 == 1 then
      s.rxPause u (halfAt data 16)
    else
      let c := uplCnt u
      s.takeIn c (s.rd (F.UPL_ING_POOL u)) (s.rd (F.UPL_ING_ACCOUNT u)) data (fun s h =>
        if code then s.rxDrop c (F.UPL_RX_CODE_ERR_CNT_COUNT u) h
        else if bytes.length < 64 || bytes.length > 9216 then s.rxDrop c (F.UPL_RX_SIZE_ERR_CNT_COUNT u) h
        else if !good then s.rxDrop c (F.UPL_RX_FCS_ERR_CNT_COUNT u) h
        else if !s.macOk u (dstMac data) then s.rxDrop c (F.UPL_RX_FILTERED_CNT_COUNT u) h
        else if control && halfAt data 14 != 1 then s.rxDrop c (F.UPL_RX_MACCTL_CNT_COUNT u) h
        else
          ((s.bump (F.UPL_RX_OK_CNT_COUNT u)).rxStamp u h data time).accept
            ⟨h, 64 + u, data.length, s.nowNs, 0, none, false⟩)

/-- UPLINK_FRAME_RECEIVE (spec/11 R401). -/
def execUplinkFrameReceive (u : Fin 2) (bytes : List Byte) (code : Bool) (time : BitVec 96) (s : State) : Out :=
  .next (s.uplReceive u.val bytes code time.toNat)

/-- PAUSE_TIMER_EXPIRY (spec/11 R404). -/
def execPauseTimerExpiry (u : Fin 2) (s : State) : Out :=
  .next (if s.is (F.UPL_STATUS_PAUSED u.val) && decide (tget (fun _ => 0) s.pauseEnd u.val ≤ s.acc)
    then s.wr (F.UPL_STATUS_PAUSED u.val) 0 else s)

/-- PAUSE_RESEND (spec/11 R406). -/
def execPauseResend (u : Fin 2) (s : State) : Out :=
  let q := s.rd (F.UPL_PAUSE_QUANTA u.val)
  let sent := tget (fun _ => 0) s.pauseSent u.val
  .next (if s.is (F.UPL_CTL_PAUSE_TX_EN u.val) && s.is (F.UPL_STATUS_UP u.val) && s.is (F.UPL_STATUS_XOFF u.val)
      && decide (tget (fun _ => 0) s.pauseAt u.val + sent * quantum / 2 ≤ s.acc)
      && decide (s.rd (F.POOL_FREE_FREE (s.rd (F.UPL_ING_POOL u.val))) < s.rd (F.UPL_XON_THR_COUNT u.val))
    then s.sendPause u.val q else s)

/-! ### Link states (spec/11 R400, R416, R417, R423) -/

/-- Whether the boundary register drives the outputs (spec/17): every port is then DOWN. -/
def State.scanning (s : State) : Bool := s.tap == .extest || s.tap == .highz || s.tap == .clamp

/-- A frame in transmission when its port goes DOWN is cut and released (spec/11 R423). (log entry 83, DEDUCED). -/
def State.cutTx (s : State) (port : Nat) : State :=
  match (s.txOf port).queue with
  | f :: r =>
    let o := if port < 48 then Output.cell port [.abort] else Output.frame port [] false
    { s.setTx port { s.txOf port with queue := r } with out := s.out ++ [o] }.release f.handle
  | [] => s

/-- A frame in reception when its port goes DOWN is dropped (spec/11 Table 11.6). -/
def State.cutRx (s : State) (c : RxCnt) (cause : Fld) (pool acct : Nat) (rx : Option (List Byte)) : State :=
  match rx with
  | some bs => s.takeIn c pool acct bs (fun s h => s.rxDrop c cause h)
  | none => s

/-- Whether the first frame of a port's queue is in transmission: as the event says, else a free value, which the manual's
timing leaves open. (log entry 207, DESIGN CHOICE). -/
def State.midFrame (s : State) (port : Nat) (tx : Option Bool) : State × Bool :=
  match tx with
  | some b => (s, b)
  | none =>
    if (s.txOf port).queue.isEmpty then (s, false)
    else let (k, s) := s.fresh
         (s, Config.midFrame k)

/-- A port goes DOWN with a frame in transmission or not (spec/11 R423). -/
def State.downTx (s : State) (port : Nat) (tx : Option Bool) : State :=
  let (s, tx) := s.midFrame port tx
  (if tx then s.cutTx port else s).discardTx port

/-- The level of UPL_u_TX_DIS (spec/11 Table 11.2): every reset clears EN. -/
def State.uplTxDis (s : State) (u : Nat) : Bool := !s.is (F.UPL_CTL_EN u)

/-- The level of UPL_u_RS (spec/11 Table 11.2); high in a reset of the main domains (spec/18 Table 18.3). -/
def State.uplRs (s : State) (u : Nat) : Bool := !s.mainOn || s.is (F.UPL_CTL_RS u)

/-- Whether uplink `u` is to be UP (spec/11 R400, spec/14 R503). -/
def State.uplUp (s : State) (u : Nat) : Bool :=
  s.is (F.UPL_CTL_EN u) && !s.is (F.UPL_STATUS_MOD_ABS u) && !s.is (F.UPL_STATUS_LOS u) && s.is (F.UPL_STATUS_BLOCK_LOCK u)
    && !tget (fun _ => false) s.hiBer u && s.is F.TMR_REF_REF25_OK && !s.scanning

/-- Uplink `u` takes the state that its conditions give it (spec/11 R400). -/
def State.uplRefresh (s : State) (u : Nat) (rx : Option (List Byte)) (tx : Option Bool) : State :=
  let up := s.uplUp u
  if up == s.is (F.UPL_STATUS_UP u) then s
  else
    let v := if up then 1 else 0
    let s := ((s.wr (F.UPL_STATUS_UP u) v).wr (F.UPL_STATUS_LINK_CHG u) 1).offer 0x04 0x01 ((64 + u) * 256 + v)
    if up then s.pausePort u
    else
      (s.cutRx (uplCnt u) (F.UPL_RX_CODE_ERR_CNT_COUNT u) (s.rd (F.UPL_ING_POOL u)) (s.rd (F.UPL_ING_ACCOUNT u)) rx).downTx
        (64 + u) tx

/-- The pins and the PCS of uplink `u` change (spec/11 R400, Table 11.2). -/
def State.uplPins (s : State) (u : Nat) (modAbs los txFault lock hiBer : Bool) (rx : Option (List Byte)) (tx : Bool) :
    State :=
  let b := fun (b : Bool) => if b then 1 else 0
  let s := (s.wr (F.UPL_STATUS_MOD_ABS u) (b modAbs)).wr (F.UPL_STATUS_LOS u) (b los)
  let s := (s.wr (F.UPL_STATUS_TX_FAULT u) (b txFault)).wr (F.UPL_STATUS_BLOCK_LOCK u) (b lock)
  { s with hiBer := tset (fun _ => false) s.hiBer u hiBer }.uplRefresh u rx (some tx)

/-- UPLINK_STATE_CHANGE (spec/11 R400, R403, R423). -/
def execUplinkStateChange (u : Fin 2) (modAbs los txFault lock hiBer : Bool) (rx : Option (List Byte)) (tx : Bool)
    (s : State) : Out := .next (s.uplPins u.val modAbs los txFault lock hiBer rx tx)

/-- A cell link changes state (spec/11 R416, Table 11.7). (log entry 87, DEDUCED). -/
def State.cellState (s : State) (n v : Nat) : State := (s.wr (F.CL_STATUS_STATE n) v).wr (F.CL_STATUS_CHG n) 1

/-- Cell link `n` sends idles while it has no frame (spec/11 R416): IDLE_1 once its receiver has locked, IDLE_0 before. -/
def State.cellIdle (s : State) (n : Nat) (locked : Bool) : State :=
  { s with out := s.out ++ [Output.cell n [if locked then .idle1 else .idle0]] }

/-- A cell link leaves LOCKING or UP for DOWN; its frames are lost (spec/11 R417, R423). (log entry 84, DEDUCED). -/
def State.cellOff (s : State) (n : Nat) (rx : Option (List Byte)) (tx : Option Bool) : State :=
  if s.rd (F.CL_STATUS_STATE n) = 0 then s
  else
    ((s.cellState n 0).cutRx (celCnt n) (F.CL_RX_ABORT_CNT_COUNT n) (s.rd (F.CL_ING_POOL n)) (s.rd (F.CL_ING_ACCOUNT n))
      rx).downTx n tx

/-- CELL_LINK_LOCK (spec/11 R416, Sequence 11.1, step 2). -/
def execCellLinkLock (n : Fin 48) (s : State) : Out :=
  .next (if s.is (F.CL_CTL_EN n.val) && s.rd (F.CL_STATUS_STATE n.val) == 0 && s.is F.TMR_REF_REF25_OK && !s.scanning
    then (s.cellState n.val 1).cellIdle n.val true else s)

/-- CELL_LINK_UP (spec/11 R416, Sequence 11.1, step 3). -/
def execCellLinkUp (n : Fin 48) (s : State) : Out :=
  .next (if s.rd (F.CL_STATUS_STATE n.val) = 1 then s.cellState n.val 2 else s)

/-- CELL_LINK_DOWN (spec/11 R417). -/
def execCellLinkDown (n : Fin 48) (rx : Option (List Byte)) (tx : Bool) (s : State) : Out :=
  .next (if s.rd (F.CL_STATUS_STATE n.val) = 0 then s
    else (((s.cellOff n.val (if s.rd (F.CL_STATUS_STATE n.val) = 2 then rx else none) (some tx)).bump
      (F.CL_DOWN_CNT_COUNT n.val)).offer 0x05 0x01 n.val).cellIdle n.val false)

/-- The ports other than the ring's go DOWN or may come UP again: the reference or the boundary scan has changed (spec/14
R503, spec/17). (log entry 85, DEDUCED). -/
def State.portsRefresh (s : State) : State :=
  let s := (s.uplRefresh 0 none none).uplRefresh 1 none none
  if s.is F.TMR_REF_REF25_OK && !s.scanning then s
  else (List.range 48).foldl (fun s n => s.cellOff n none none) s

/-- What a K character that ends the bytes of a frame says (spec/11 Table 11.3); a K character outside the table, and an idle
before the frame's end, is a code error. -/
inductive CellEnd where
  | stop | abort | start | codeError
  deriving DecidableEq, Repr

/-- The K characters K29.7, K30.7 and K27.7 by their 8-bit values. -/
def cellEnd (k : BitVec 8) : CellEnd :=
  if k = 0xFD then .stop else if k = 0xFE then .abort else if k = 0xFB then .start else .codeError

/-- Whether a cell link has its reference and its balls (spec/15 R531, spec/16 R588). -/
def State.cellsRun (s : State) : Bool := s.is F.TMR_REF_REF25_OK && !s.scanning

/-- Links that can run again, and could not in `old`, start at step 1 of Sequence 11.1: each with EN 1 sends IDLE_0 (spec/11 R416,
R417). -/
def State.cellsBack (s old : State) : State :=
  if old.cellsRun || !s.cellsRun then s
  else (List.range 48).foldl (fun s n =>
    if s.is (F.CL_CTL_EN n) && s.rd (F.CL_STATUS_STATE n) == 0 then s.cellIdle n false else s) s

/-- REF25_QUALIFIED (spec/14 R503, spec/15 R531, R554): the ports that may be UP again come UP (spec/11 R400). -/
def execRef25Qualified (s : State) : Out := .next (s.ref25Good.portsRefresh.cellsBack s)

/-! ### Cell-link reception (spec/11 R414, R415) -/

/-- Cell link `n` receives a frame: header, payload and CRC, and what ended it (spec/11 R413, R415, Table 11.6). -/
def State.cellReceive (s : State) (n : Nat) (bytes : List Byte) (last : CellEnd) : State :=
  if s.rd (F.CL_STATUS_STATE n) ≠ 2 then s
  else
    let data := bytes.take (bytes.length - 4)
    let c := celCnt n
    s.takeIn c (s.rd (F.CL_ING_POOL n)) (s.rd (F.CL_ING_ACCOUNT n)) data (fun s h =>
      if last ≠ .stop then s.rxDrop c (F.CL_RX_ABORT_CNT_COUNT n) h
      else if bytes.length < 4 || fcsOf data != bytes.drop (bytes.length - 4) then
        s.rxDrop c (F.CL_RX_CRC_ERR_CNT_COUNT n) h
      else if bytes.length < 20 || bytes.length > 532 || halfAt data 2 + 20 != bytes.length then
        s.rxDrop c (F.CL_RX_LEN_ERR_CNT_COUNT n) h
      else (s.bump (F.CL_RX_OK_CNT_COUNT n)).accept ⟨h, n, data.length, s.nowNs, 0, none, false⟩)

/-- CELL_LINK_FRAME_RECEIVE (spec/11 R415). -/
def execCellLinkFrameReceive (n : Fin 48) (bytes : List Byte) (k : BitVec 8) (s : State) : Out :=
  .next (s.cellReceive n.val bytes (cellEnd k))

end Sys2Proof.Machine
end

