-- ==== Sys2Proof/Machine/Parser.lean ====
section
/-! DEFINITION. The parser graph (spec/07): nodes, the walk, the parse record, loading and changing a graph. -/

namespace Sys2Proof.Machine

/-! ### Nodes -/

/-- Word `i` (offset 0x100 + 4 i of the staging area) of node `n` of a bank. -/
def State.nodeWord (s : State) (bank n i : Nat) : Nat :=
  (tget (fun _ => (0 : BitVec 32)) s.prsNodes ((bank * 256 + n) * 32 + i)).toNat

/-- The staging words: PRS_N_SEL to PRS_N_DEF, PRS_N_BR_k, PRS_N_EXT_j, by offset / 4. -/
def stagingWords : List Nat := [0, 1, 2, 3, 4, 8, 9, 10, 11, 12, 13, 14, 15, 16, 17, 18, 19]

/-- The bank in use. -/
def State.prsActive (s : State) : Nat := s.rd F.PRS_BANK_ACTIVE

/-- PRS_BANK.DRAINED: no frame is being parsed under the inactive bank (spec/07 R268). -/
def State.prsDrained (s : State) : Bool :=
  !(s.frames.any (fun f => !f.parsed && f.bank.map (·.1) == some (1 - s.prsActive)))

/-- A write to PRS_CMD: commit staging to a node, or read a node to staging; to the inactive bank it is refused while not
DRAINED (spec/07 R264, R266, R267). -/
def State.prsCommand (s : State) (v : BitVec 32) : State :=
  let n := bits v.toNat 0 8
  let b := bits v.toNat 8 1
  if b ≠ s.prsActive ∧ !s.prsDrained then s.wr F.PRS_CMD_STATUS_REFUSED 1
  else if v.toNat.testBit 9 then
    stagingWords.foldl (fun s i => s.setReg (A.PRS_N_SEL + 4 * i) (BitVec.ofNat 32 (s.nodeWord b n i))) s
  else
    { s with prsNodes := stagingWords.foldl (fun t i =>
      tset (fun _ => (0 : BitVec 32)) t ((b * 256 + n) * 32 + i) (s.reg (A.PRS_N_SEL + 4 * i))) s.prsNodes }

/-- PRS_CMD_COMMIT: OP 0 (spec/07 R264, R267). -/
def execPrsCmdCommit (node : BitVec 8) (bank : Bool) (s : State) : Out :=
  .next (s.whenOn (fun s => s.prsCommand (BitVec.ofNat 32 (node.toNat + if bank then 256 else 0))))

/-- PRS_CMD_READ: OP 1 (spec/07 R264, R267). -/
def execPrsCmdRead (node : BitVec 8) (bank : Bool) (s : State) : Out :=
  .next (s.whenOn (fun s => s.prsCommand (BitVec.ofNat 32 (node.toNat + (if bank then 256 else 0) + 512))))

/-- Bind the first `n` frames that await their parse to a bank and their port's root, where they are not bound. (log entry
90, DEDUCED). -/
def bindFrames (bank : Nat) (root : Nat → Nat) : Nat → List InFrame → List InFrame
  | 0, l => l
  | _, [] => []
  | n + 1, f :: r =>
    if f.parsed then f :: bindFrames bank root (n + 1) r
    else { f with bank := some (f.bank.getD (bank, root f.port)) } :: bindFrames bank root n r

/-- The register of a port's root (spec/07 R248). -/
def rootReg (port : Nat) : Nat := A.PRS_ROOT port

/-- PRS_ROOT of a port. -/
def State.rootOf (s : State) (port : Nat) : Nat := (s.reg (rootReg port)).toNat

/-- A write to PRS_BANK.ACTIVE: `n` frames are in parse, and finish on the bank they started with (spec/07 R265, R268). -/
def State.writePrsBank (s : State) (v : BitVec 32) (n : Nat) : State :=
  let old := s.prsActive
  let new := bits v.toNat 0 1
  let s := s.wr F.PRS_BANK_ACTIVE new
  if new = old then s else { s with frames := bindFrames old s.rootOf n s.frames }

/-- PRS_BANK_SWITCH (spec/07 R265, R268). -/
def execPrsBankSwitch (v : BitVec 32) (inParse : BitVec 8) (s : State) : Out :=
  .next (s.whenOn (fun s => s.writePrsBank v inParse.toNat))

/-! ### The walk (spec/07 R253 to R257) -/

/-- What a parse has gathered: layer offsets 1 to 3, FLAGS, slots written, EXT_CUT, steps. -/
structure Parse where
  off : List Nat
  flags : Nat
  slots : Table Nat
  cut : Bool
  steps : Nat
  deriving DecidableEq, Repr

/-- How a parse ends: status, node, OFF_END, class. -/
structure ParseEnd where
  status : Nat
  node : Nat
  off : Nat
  cls : Nat
  deriving DecidableEq, Repr

/-- The 1 or 2 bytes of a field at `a`, when both lie in the frame and in the window; else the status that ends the parse. -/
def windowField (fr : List Byte) (a w : Nat) : Except Nat Nat :=
  if a + w > fr.length then .error 2
  else if a + w > min fr.length 256 then .error 3
  else .ok (beNat ((fr.drop a).take w))

/-- An extraction (spec/07 R256): register word of EXT_j at cursor `c`. -/
def Parse.extract (p : Parse) (fr : List Byte) (c x : Nat) : Parse :=
  if bits x 9 1 = 0 then p
  else
    let a := c + bits x 0 8
    let w := bits x 8 1 + 1
    if a + w > min fr.length 256 then { p with cut := true }
    else { p with slots := tput (bits x 12 4) (Nat.land (beNat ((fr.drop a).take w)) (bits x 16 16)) p.slots }

/-- The target of a node for a masked selector (spec/07 R254). -/
def nodeTarget (w : Nat → Nat) (sel : Nat) : Nat :=
  if bits (w 0) 8 1 = 0 then bits (w 4) 0 10
  else match (List.range 8).find? (fun k => bits (w (8 + k)) 31 1 == 1 && bits (w (8 + k)) 0 16 == sel) with
    | some k => bits (w (8 + k)) 16 10
    | none => bits (w 4) 0 10

/-- The length of a node at a cursor (spec/07 R255). -/
def nodeLength (w : Nat → Nat) (fr : List Byte) (c : Nat) : Except Nat Nat :=
  if bits (w 1) 8 1 = 0 then .ok (bits (w 2) 0 16)
  else (windowField fr (c + bits (w 1) 0 8) (bits (w 1) 9 1 + 1)).map (fun f =>
    Nat.land (f / 2 ^ bits (w 1) 10 4) (bits (w 1) 16 16) * 2 ^ bits (w 1) 14 2 + bits (w 2) 0 16)

/-- What one step comes to: the parse ends, or it goes on at a node with a new cursor. -/
inductive ParseStep where
  | done (e : ParseEnd)
  | on (node cursor : Nat)
  deriving DecidableEq, Repr

/-- The step after the selector: extract, mark, choose, advance. -/
def Parse.node (p : Parse) (w : Nat → Nat) (fr : List Byte) (n c sel : Nat) : Parse × ParseStep :=
  let p := [16, 17, 18, 19].foldl (fun (p : Parse) i => p.extract fr c (w i)) p
  let layer := bits (w 3) 0 3
  let p := { p with
    flags := Nat.lor p.flags (bits (w 3) 16 16)
    off := if 1 ≤ layer ∧ layer ≤ 3 ∧ p.off[layer - 1]? = some 0xFFFF then p.off.set (layer - 1) c else p.off }
  let t := nodeTarget w sel
  let arg := t % 256
  if t / 256 = 2 then (p, .done ⟨1, n, c, arg⟩)
  else if t / 256 = 3 then (p, .done ⟨5, n, c, 0⟩)
  else match nodeLength w fr c with
    | .error e => (p, .done ⟨e, n, c, 0⟩)
    | .ok l =>
      if l < bits (w 2) 16 16 then (p, .done ⟨6, n, c, 0⟩)
      else if c + l > fr.length then (p, .done ⟨2, n, c, 0⟩)
      else if t / 256 = 1 then (p, .done ⟨0, n, c + l, arg⟩)
      else (p, .on arg (c + l))

/-- The walk from node `n` at cursor `c` (spec/07 R253); `fuel` is the steps left of 24. -/
def Parse.walk (nodes : Nat → Nat → Nat) (fr : List Byte) (p : Parse) (n c : Nat) : Nat → Parse × ParseEnd
  | 0 => (p, ⟨4, n, c, 0⟩)
  | fuel + 1 =>
    let w := nodes n
    if bits (w 3) 3 1 = 0 then (p, ⟨5, n, c, 0⟩)
    else
      let p := { p with steps := p.steps + 1 }
      let sel := if bits (w 0) 8 1 = 0 then .ok 0
        else (windowField fr (c + bits (w 0) 0 8) (bits (w 0) 9 1 + 1)).map (fun x => Nat.land x (bits (w 0) 16 16))
      match sel with
      | .error e => (p, ⟨e, n, c, 0⟩)
      | .ok x => match p.node w fr n c x with
        | (p, .done e) => (p, e)
        | (p, .on m d) => p.walk nodes fr m d fuel

/-! ### The parse record (spec/07 R263, Table 7.4) -/

/-- The 64 bytes of the record. (log entry 91, DEDUCED). -/
def parseRecord (f : InFrame) (bank : Nat) (p : Parse) (e : ParseEnd) : List Byte :=
  beBytes 2 f.len ++ beBytes 1 f.port ++ beBytes 1 e.status ++ beBytes 1 e.cls ++ beBytes 1 p.steps ++ beBytes 1 e.node
    ++ beBytes 1 f.ringSrc ++ beBytes 8 f.arrival ++ p.off.flatMap (beBytes 2) ++ beBytes 2 e.off ++ beBytes 2 p.flags
    ++ beBytes 2 (p.slots.foldl (fun m x => m + 2 ^ x.1) 0) ++ beBytes 1 bank ++ beBytes 1 (if p.cut then 1 else 0)
    ++ [0, 0] ++ (List.range 16).flatMap (fun i => beBytes 2 (tget (fun _ => 0) p.slots i))

/-- The word address of the first byte of a handle's buffer. -/
def State.bufBase (s : State) (h : Word) : Nat := s.hAddr h 0

/-- The frame that follows in ingress order is parsed, and its record written (spec/07 R248, R250, R263). (log entries 35,
DEDUCED; 203, DESIGN CHOICE). -/
def State.parseFrame (s : State) (f : InFrame) : State :=
  let (bank, root) := f.bank.getD (s.prsActive, s.rootOf f.port)
  let (s, r) := s.readBytes (s.bufBase f.handle + 64) (min f.len 256)
  let fr := r.bytes ++ List.replicate (f.len - 256) 0
  let p : Parse := ⟨[0xFFFF, 0xFFFF, 0xFFFF], 0, [], false, 0⟩
  let (p, e) := if bits root 16 1 = 0 then (p, (⟨7, 0, 0xFFFF, 0⟩ : ParseEnd))
    else p.walk (s.nodeWord bank) fr (bits root (8 * bank) 8) 0 24
  let s := s.portWrite (s.bufBase f.handle) (parseRecord f bank p e)
  let s := s.bump (F.PRS_CNT_COUNT e.status)
  if p.cut then s.bump F.PRS_EXT_CUT_CNT_COUNT else s

/-- Mark the first frame that is not parsed. -/
def markParsed : List InFrame → List InFrame
  | [] => []
  | f :: r => if f.parsed then f :: markParsed r else { f with parsed := true } :: r

/-- PARSE of the oldest frame that awaits it (spec/07 R246, R250). -/
def State.parseNext (s : State) : State :=
  match s.frames.find? (fun f => !f.parsed) with
  | none => s
  | some f => let s := s.parseFrame f; { s with frames := markParsed s.frames }

/-- PARSE (spec/07 R248 to R263). -/
def execParse (s : State) : Out := .next s.parseNext

end Sys2Proof.Machine
end

