-- ==== Sys2Proof/Machine/Classifier.lean ====
section
/-! DEFINITION. The classifier (spec/08): keys, matching, versions, rule lifetimes, commits, the follow table. -/

namespace Sys2Proof.Machine

/-! ### Versions (spec/08 R283 to R285) -/

/-- The current version. -/
def State.cur (s : State) : Nat := s.rd F.CLS_VER_CUR

/-- The versions that tasks and follow entries hold (spec/08 R284). (log entry 70, DEDUCED). -/
def State.heldVersions (s : State) : List Nat :=
  s.tasks.filterMap (fun e => if e.2.vheld then some e.2.version else none) ++ s.cls.follow.map Follow.version

/-- OUTSTANDING − 1: how far OLDEST lies behind CUR (spec/08 R285). -/
def State.lag (s : State) : Nat := s.heldVersions.foldl (fun m v => max m ((s.cur + 256 - v) % 256)) 0

/-- OLDEST (spec/08 R285). -/
def State.oldest (s : State) : Nat := (s.cur + 256 - s.lag) % 256

/-- The distance of a version after OLDEST. -/
def rel (oldest x : Nat) : Nat := (x + 256 - oldest) % 256

/-! ### Rules (spec/08 Table 8.1, R286, R287) -/

/-- Word `w` of rule `i`. -/
def Cls.word (c : Cls) (i w : Nat) : Nat := (tget (fun _ => (0 : BitVec 32)) c.rules (16 * i + w)).toNat

/-- Write a word of a rule. -/
def Cls.setWord (c : Cls) (i w v : Nat) : Cls :=
  { c with rules := tset (fun _ => (0 : BitVec 32)) c.rules (16 * i + w) (BitVec.ofNat 32 v) }

/-- The rules whose W15 is not zero, in rising order. -/
def Cls.used (c : Cls) : List Nat := c.rules.filterMap (fun e => if e.1 % 16 = 15 then some (e.1 / 16) else none)

/-- Whether a rule with this W15 is live for version `v` (spec/08 R286). -/
def live (oldest w15 v : Nat) : Bool :=
  let from_ := rel oldest (bits w15 8 8)
  let until_ := rel oldest (bits w15 16 8)
  let rv := rel oldest v
  bits w15 0 1 == 1 && !(bits w15 25 1 == 0 && from_ < 128 && from_ > rv)
    && !(bits w15 24 1 == 1 && (until_ ≥ 128 || until_ ≤ rv))

/-- The bits of a rule word that its table lists (spec/08 Table 8.1). -/
def ruleMask (w : Nat) : Nat :=
  if w = 10 then 0xF else if w = 11 ∨ w = 14 then 0 else if w = 15 then 0x01FFFF01 else 0xFFFFFFFF

/-- A refused rule write (spec/08 R287). (log entry 95, DEDUCED). -/
def State.ruleRefused (s : State) (i cause : Nat) : State :=
  ((s.wr F.CLS_ERR_REFUSED 1).wr F.CLS_ERR_CAUSE cause).wr F.CLS_ERR_RULE i

/-- A write of a rule word (spec/08 Table 8.4). -/
def State.writeRule (s : State) (w : Nat) (v : BitVec 32) : State :=
  let i := s.rd F.CLS_RULE_SEL_RULE
  let o := s.oldest
  let rc := rel o s.cur
  let old := s.cls.word i 15
  let new := Nat.land v.toNat (ruleMask w)
  let ahead := fun x => rc + 2 ≤ rel o x && rel o x ≤ 127
  if w < 15 then
    if bits old 0 1 = 1 then s.ruleRefused i 1 else { s with cls := s.cls.setWord i w new }
  else if bits old 0 1 = 0 then
    if bits new 0 1 = 1 && ahead (bits new 8 8) then s.ruleRefused i 2 else { s with cls := s.cls.setWord i 15 new }
  else if bits new 24 1 = 1 && ahead (bits new 16 8) then s.ruleRefused i 2
  else if bits old 24 1 = 1 && rel o (bits old 16 8) ≤ rc && bits new 16 9 ≠ bits old 16 9 then s.ruleRefused i 3
  else { s with cls := s.cls.setWord i 15 (putBits (putBits old 0 1 (bits new 0 1)) 16 9 (bits new 16 9)) }

/-- RULE_WORD_WRITE (spec/08 R287, R288). -/
def execRuleWordWrite (w : Fin 16) (v : BitVec 32) (s : State) : Out :=
  .next (s.whenOn (fun s => s.writeRule w.val v))

/-! ### Sweep passes and commits (spec/08 R289 to R294) -/

/-- CLS_COMMIT_STATUS.PASS_BUSY: CUR or OLDEST has changed since the last pass. -/
def State.passBusy (s : State) : Bool := s.cls.swept != (s.cur, s.oldest)

/-- What a pass makes of a rule's W15 (spec/08 R289): the word, and whether the rule is retired. -/
def sweepWord (o w15 : Nat) : Nat × Bool :=
  if bits w15 0 1 = 0 then (w15, false)
  else
    let past := fun x => rel o x = 0 || rel o x ≥ 128
    let v := if past (bits w15 8 8) then putBits w15 25 1 1 else w15
    if bits w15 24 1 = 1 && past (bits w15 16 8) then (putBits v 0 1 0, true) else (v, false)

/-- A sweep pass over all rules, where one is due (spec/08 R289). (log entry 96, DEDUCED). -/
def State.sweep (s : State) : State :=
  if !s.passBusy then s
  else
    let o := s.oldest
    s.cls.used.foldl (fun s i =>
      let (v, gone) := sweepWord o (s.cls.word i 15)
      let s := { s with cls := s.cls.setWord i 15 v }
      if gone then s.bump F.CLS_RETIRED_COUNT else s)
      { s with cls := { s.cls with swept := (s.cur, o) } }

/-- SWEEP_PASS (spec/08 R289). -/
def execSweepPass (s : State) : Out := .next s.sweep

/-- A write of 1 to CLS_COMMIT.GO (spec/08 R292 to R294): it waits for the pass, then commits or is refused. -/
def State.commit (s : State) : State :=
  let s := s.sweep
  let n := (s.cur + 1) % 256
  if rel s.oldest n > 126 then s.wr F.CLS_COMMIT_STATUS_REFUSED 1 else s.wr F.CLS_VER_CUR n

/-- CLS_COMMIT (spec/08 R292). -/
def execClsCommit (s : State) : Out := .next (s.whenOn State.commit)

/-! ### Keys and matching (spec/08 R272 to R275) -/

/-- The ingress account of a port (spec/08 Table 8.2, code 32). (log entry 98, DEDUCED). -/
def State.portAcct (s : State) (port : Nat) : Nat :=
  if port < 48 then s.rd (F.CL_ING_ACCOUNT port)
  else if port = 64 ∨ port = 65 then s.rd (F.UPL_ING_ACCOUNT (port - 64))
  else s.rd F.RING_ETH_RX_ACCOUNT

/-- The value of a key source (spec/08 Table 8.2, R664). -/
def keyValue (rcd : List Byte) (acct code : Nat) : Nat :=
  if code < 32 then halfAt rcd (2 * code) else if code = 32 then acct % 64 else 0

/-- The eight exact keys of a profile. -/
def State.profKeys (s : State) (rcd : List Byte) (acct p : Nat) : List Nat :=
  (List.range 8).map (fun j =>
    keyValue rcd acct (bits (s.reg (if j < 4 then A.CLS_PROF_K03 p else A.CLS_PROF_K47 p)).toNat (8 * (j % 4)) 6))

/-- Whether rule `i` matches a frame under version `v` (spec/08 R273, R274). -/
def State.ruleMatches (s : State) (rcd : List Byte) (acct v i : Nat) : Bool :=
  let c := s.cls
  let p := bits (c.word i 10) 0 4
  let keys := s.profKeys rcd acct p
  let rng := fun sh => keyValue rcd acct (bits (s.reg (A.CLS_PROF_RNG p)).toNat sh 6)
  let inside := fun w x => bits (c.word i w) 0 16 ≤ x && x ≤ bits (c.word i w) 16 16
  live s.oldest (c.word i 15) v
    && (List.range 8).all (fun j => Nat.land (keys.getD j 0) (bits (c.word i j) 0 16) == bits (c.word i j) 16 16)
    && inside 8 (rng 0) && inside 9 (rng 8)

/-- The winning rule of a frame (spec/08 R275). -/
def State.winner (s : State) (rcd : List Byte) (acct v : Nat) : Option Nat :=
  s.cls.used.find? (s.ruleMatches rcd acct v)

/-! ### Actions (spec/08 R276 to R281) -/

/-- The slow-path outcome with a USER. -/
def State.slowOutcome (s : State) (user : Nat) : Outcome :=
  let (g, p, d) := s.slowTarget
  ⟨false, p, g, d, user⟩

/-- What an action word comes to (spec/08 R277 to R279). (log entry 93, DEDUCED). -/
def State.actionOutcome (s : State) (rcd : List Byte) (a : Nat) : Outcome :=
  let user := a % 2 ^ 32
  let verdict := bits a 62 2
  if verdict = 1 ∧ bits a 55 4 ≠ 15 then ⟨true, 0, 0, 0, user⟩
  else if verdict = 0 ∧ bits a 55 4 ≠ 15 then
    let d := bits a 43 12 + (if bits a 42 1 = 1 then halfAt rcd (32 + 2 * bits a 38 4) else 0)
    ⟨false, bits a 59 3, bits a 55 4, d % 4096, user⟩
  else s.slowOutcome user

/-- A decision on a frame: version, winning rule, origin (0 MATCH, 1 MISS, 2 FOLLOW, 3 FRAG_SLOW), outcome. -/
structure Verdict where
  version : Nat
  rule : Option Nat
  origin : Nat
  outcome : Outcome
  deriving DecidableEq, Repr

/-- A frame is stamped with CUR and matched (spec/08 R275, R280, R281). -/
def State.matchFrame (s : State) (rcd : List Byte) (acct : Nat) : State × Verdict :=
  let v := s.cur
  match s.winner rcd acct v with
  | some i =>
    let a := s.cls.word i 13 * 2 ^ 32 + s.cls.word i 12
    let s := s.bump F.CLS_MATCH_CNT_COUNT
    let s := if bits a 32 6 = 0 then s else s.bump (F.CLS_HIT_COUNT (bits a 32 6 - 1))
    (s, ⟨v, some i, 0, s.actionOutcome rcd a⟩)
  | none =>
    let a := s.rd F.CLS_MISS_ACTION_HI_ACTION * 2 ^ 32 + s.rd F.CLS_MISS_ACTION_LO_ACTION
    (s.bump F.CLS_MISS_CNT_COUNT, ⟨v, none, 1, s.actionOutcome rcd a⟩)

/-- A frame that takes the slow path unmatched (spec/08 R296, R298). -/
def State.fragSlow (s : State) (cnt : Fld) : State × Verdict :=
  let (k, s) := (s.bump cnt).fresh
  (s, ⟨s.cur, none, 3, s.slowOutcome (Config.slowUser k % 2 ^ 32)⟩)

/-! ### The follow table (spec/08 R296 to R301) -/

/-- Whether a port is in FOLLOW_FIRST mode. -/
def State.followMode (s : State) (port : Nat) : Bool :=
  if port < 32 then (s.reg A.CLS_FRAG_MODE_0).toNat.testBit port
  else (s.reg A.CLS_FRAG_MODE_1).toNat.testBit (if port < 48 then port - 32 else if port = 64 then 16 else if port = 65 then 17
    else 18)

/-- A first fragment makes or replaces an entry (spec/08 R297). -/
def State.addFollow (s : State) (port : Nat) (keys : List Nat) (d : Verdict) : State :=
  let rest := s.cls.follow.filter (fun e => !(e.port == port && e.keys == keys))
  if rest.length ≥ 1024 then s.bump F.CLS_FRAG_FULL_CNT_COUNT
  else { s with cls := { s.cls with follow := rest ++ [⟨port, keys, d.version, d.rule, d.outcome, s.nowNs⟩] } }

/-- The decision on a frame (spec/08 R283, R296 to R298). (log entry 94, DEDUCED). -/
def State.judge (s : State) (f : InFrame) (rcd : List Byte) : State × Verdict :=
  let acct := s.portAcct f.port
  let flags := halfAt rcd 24
  let later := flags.testBit 1
  let first := flags.testBit 0
  if !(first || later) then s.matchFrame rcd acct
  else if !s.followMode f.port then s.fragSlow F.CLS_SLOW_CNT_COUNT
  else
    let keys := s.profKeys rcd acct (s.rd F.CLS_FRAG_CTL_PROFILE)
    if later then
      match s.cls.follow.find? (fun e => e.port == f.port && e.keys == keys) with
      | some e => (s.bump F.CLS_FRAG_HIT_CNT_COUNT, ⟨e.version, e.rule, 2, e.outcome⟩)
      | none => s.fragSlow F.CLS_FRAG_MISS_CNT_COUNT
    else
      let (s, d) := s.matchFrame rcd acct
      (s.addFollow f.port keys d, d)

/-- An entry's life has ended (spec/08 R300): that which CLS_FRAG_TMO gives now. (log entry 227, DESIGN CHOICE). -/
def State.expireFollow (s : State) (i : Nat) : State :=
  match s.cls.follow[i]? with
  | none => s
  | some e =>
    if s.nowNs < e.made + max 1 (s.rd F.CLS_FRAG_TMO_MS) * 1000000 then s
    else { s with cls := { s.cls with follow := s.cls.follow.eraseIdx i } }.bump F.CLS_FRAG_EXPIRED_CNT_COUNT

/-- FRAG_ENTRY_EXPIRY (spec/08 R300). -/
def execFragEntryExpiry (i : Fin 1024) (s : State) : Out := .next (s.expireFollow i.val)

/-- A write to CLS_FRAG_CTL: FLUSH frees every entry (spec/08 R300). (log entry 97, DEDUCED). -/
def State.writeFragCtl (s : State) (v : BitVec 32) : State :=
  let s := s.wr F.CLS_FRAG_CTL_PROFILE (bits v.toNat 0 4)
  if v.toNat.testBit 8 then { s with cls := { s.cls with follow := [] } }.wr F.CLS_FRAG_CTL_FLUSH_BUSY 1 else s

/-- FRAG_FLUSH (spec/08 R300). -/
def execFragFlush (v : BitVec 32) (s : State) : Out := .next (s.whenOn (fun s => s.writeFragCtl (v ||| 256)))

/-- FRAG_FLUSH_DONE (spec/08 R300). -/
def execFragFlushDone (s : State) : Out := .next (s.wr F.CLS_FRAG_CTL_FLUSH_BUSY 0)

/-! ### Hand-over to the scheduler (spec/08 R278, R282, spec/09 Tables 9.1, 9.3, 9.4) -/

/-- The drop counters of a port whose frame the scheduler refuses (spec/09 Table 9.4, spec/11 Table 11.6). -/
def State.refusedPort (s : State) (port : Nat) : State :=
  let s := s.bump F.SCH_REFUSE_PORT_CNT_COUNT
  if port < 48 then (s.bump (F.CL_RX_SCH_DROP_CNT_COUNT port)).bump (F.CL_RX_DROP_CNT_COUNT port)
  else if port = 64 ∨ port = 65 then
    (s.bump (F.UPL_RX_SCH_DROP_CNT_COUNT (port - 64))).bump (F.UPL_RX_DROP_CNT_COUNT (port - 64))
  else s

/-- Words w1 to w4 of a port task (spec/09 Table 9.1). -/
def portWords (f : InFrame) (d : Verdict) (miss arrival : Nat) : List Word :=
  let (rule, hit) := match d.rule with | some i => (i, 1) | none => (miss, 0)
  [f.handle, Word.zero, Word.data (BitVec.ofNat 64 (d.outcome.user * 2 ^ 32 + rule % 4096 * 2 ^ 20 + hit * 2 ^ 19
    + d.origin * 2 ^ 17 + f.port * 2 ^ 8)), Word.data (BitVec.ofNat 64 arrival)]

/-- The classifier takes the oldest parsed frame (spec/08 R283): it drops it, or it arrives as a task or is refused. (log
entries 92, DESIGN CHOICE; 203, DESIGN CHOICE). -/
def State.classify (s : State) : State :=
  match s.frames with
  | [] => s
  | f :: rest =>
    if !f.parsed then s
    else
      let (s, r) := s.readBytes (s.bufBase f.handle) 64
      let rcd := r.bytes
      let (s, d) := { s with frames := rest }.judge f rcd
      if d.outcome.drop then (s.bump F.CLS_DROP_CNT_COUNT).release f.handle
      else
        let (k, s) := s.fresh
        let ws := portWords f d (Config.missRule k) (beNat ((rcd.drop 8).take 8))
        match s.arrive ⟨some d.outcome.domain, d.outcome.prio, d.outcome.group, 0, ws, Tag.low6 f.handle.tag, true,
            d.version, none⟩ with
        | (s, some _) => s
        | (s, none) => (s.refusedPort f.port).release f.handle

/-- CLASSIFY (spec/08 R283). -/
def execClassify (s : State) : Out := .next s.classify

end Sys2Proof.Machine
end

