-- ==== Sys2Proof/Machine/RingBase.lean ====
section
/-! DEFINITION. Ring time, ring frames and their sending (spec/10). -/

namespace Sys2Proof.Machine

/-! ### The node -/

/-- RING_STATUS.STATE: 0 OFF, 1 LISTEN, 2 SPLICING, 3 INSERTED, 4 LEAVING. -/
def State.rstate (s : State) : Nat := s.rd F.RING_STATUS_STATE

/-- RING_STATUS.ROLE: 0 none, 1 follower, 2 candidate, 3 master. -/
def State.role (s : State) : Nat := s.rd F.RING_STATUS_ROLE

/-- The node's address. -/
def State.raddr (s : State) : Nat := s.rd F.RING_ADDR_ADDR

/-- The node's ring sequence number; 0 means the address (spec/10 R349). -/
def State.rseq (s : State) : Nat := if s.rd F.RING_ADDR_SEQ = 0 then s.raddr else s.rd F.RING_ADDR_SEQ

/-- A ring port beside its registers. -/
def State.rport (s : State) (p : Nat) : RPort := tget (fun _ => RPort.init) s.ring.ports p

/-- Change a ring port. -/
def State.modPort (s : State) (p : Nat) (f : RPort → RPort) : State :=
  { s with ring := { s.ring with ports := tset (fun _ => RPort.init) s.ring.ports p (f (s.rport p)) } }

/-- Change the node beside its registers. -/
def State.modRing (s : State) (f : Ring → Ring) : State := { s with ring := f s.ring }

/-- PERIOD_US, GAP_US and SPLICE_US of the node's own registers, SPLICE_US held within 10–GAP_US (spec/00 R665), or at 10 where
that is empty. (log entry 241, DESIGN CHOICE). -/
def State.ownTimes (s : State) : Nat × Nat × Nat :=
  let g := s.rd F.RING_GAP_GAP_US
  (s.rd F.RING_CYCLE_CFG_PERIOD_US, g, clampTo 10 (max 10 g) (s.rd F.RING_GAP_SPLICE_US))

/-- PERIOD_US, GAP_US and SPLICE_US in force (spec/10 R364). -/
def State.ringTimes (s : State) : Nat × Nat × Nat := s.ring.times.getD s.ownTimes

/-- The cycle period in ns. -/
def State.periodNs (s : State) : Nat := s.ringTimes.1 * 1000

/-- Ring time in ns (spec/10 after R388). -/
def State.ringNow (s : State) : Nat := (s.nowNs + s.pair F.RING_OFS_LO_OFS F.RING_OFS_HI_OFS) % 2 ^ 64

/-- The number of the cycle that ring time lies in. -/
def State.ringCycle (s : State) : Nat := s.ringNow / s.periodNs

/-- Ring time within its cycle, in ns. -/
def State.inCycle (s : State) : Nat := s.ringNow % s.periodNs

/-- Whether ring time lies in the quiet gap (spec/10 R363). -/
def State.inGap (s : State) : Bool := s.inCycle + s.ringTimes.2.1 * 1000 ≥ s.periodNs

/-- The register of a ring port that tells it to be UP. -/
def State.linkOf (s : State) (p : Nat) : Nat := s.rd (F.PORT_STATUS_LINK p)

/-- Whether a side is wrapped (spec/10 R393). -/
def State.wrapped (s : State) (p : Nat) : Bool := s.is (if p = 0 then F.RING_STATUS_WRAP_E else F.RING_STATUS_WRAP_W)

/-- Whether any side is wrapped. -/
def State.anyWrap (s : State) : Bool := s.wrapped 0 || s.wrapped 1

/-! ### Frames (spec/10 Table 10.3) -/

/-- A ring frame without its CRC. -/
structure RFrame where
  type : Nat
  wrap : Bool
  dst : Nat
  src : Nat
  hops : Nat
  cycle : Nat
  payload : List Byte
  deriving DecidableEq, Repr

/-- The bytes of a frame, CRC included. -/
def RFrame.bytes (f : RFrame) : List Byte :=
  let b := beBytes 1 (f.type * 16 + 1) ++ beBytes 1 (if f.wrap then 0x80 else 0) ++ beBytes 1 f.dst ++ beBytes 1 f.src
    ++ beBytes 2 f.hops ++ beBytes 2 f.payload.length ++ beBytes 4 f.cycle ++ f.payload
  b ++ fcsOf b

/-- The header and payload of arriving bytes. -/
def RFrame.of (bs : List Byte) : RFrame :=
  ⟨byteAt bs 0 / 16, byteAt bs 1 ≥ 128, byteAt bs 2, byteAt bs 3, halfAt bs 4, beNat ((bs.drop 8).take 4),
    (bs.drop 12).take (bs.length - 16)⟩

/-- Whether VER, TYPE and LEN are ones that a receiver takes (spec/10 R354). -/
def headerOk (bs : List Byte) : Bool :=
  let t := byteAt bs 0
  t % 16 == 1 && 1 ≤ t / 16 && t / 16 ≤ 5 && halfAt bs 6 ≤ 2048

/-- Whether the CRC stands where LEN puts it, and is good (spec/10 Table 10.3). -/
def ringCrcOk (bs : List Byte) : Bool :=
  bs.length ≥ 16 && halfAt bs 6 + 16 == bs.length && fcsOf (bs.take (bs.length - 4)) == bs.drop (bs.length - 4)

/-- The blocks between a frame's first seven bytes and its end: eight bytes each, the rest with the terminate block. -/
def dataBlocks (good : Bool) : List Byte → List Block
  | b0 :: b1 :: b2 :: b3 :: b4 :: b5 :: b6 :: b7 :: r => .data [b0, b1, b2, b3, b4, b5, b6, b7] :: dataBlocks good r
  | l => [.terminate l (!good)]

/-- A frame in blocks (spec/10 R340, R341): the start block with bytes 0 to 6, data blocks, the terminate block, with the error
control character where the frame is ended as bad, and the idle block that separates it from the next frame. -/
def frameBlocks (bs : List Byte) (good : Bool) : List Block :=
  .start (bs.take 7) :: dataBlocks good (bs.drop 7) ++ [.idle]

/-- A port that does not train sends blocks on its transmit pair; a training port carries no frames (spec/10 R350). -/
def State.ringPut (s : State) (p : Nat) (f : RFrame) (good : Bool) : State :=
  if s.linkOf p = 1 then s else { s with out := s.out ++ [Output.ring p (frameBlocks f.bytes good)] }

/-- Whether both sides are wrapped, so that the node has no transmit pair for a frame. -/
def State.cutOff (s : State) : Bool := s.wrapped 0 && s.wrapped 1

/-- Put a frame out on the transmit pair of a port, or on the other port's where that side is wrapped (spec/10 R393); with both
sides wrapped it is lost. -/
def State.ringOut (s : State) (p : Nat) (f : RFrame) (good : Bool) : State :=
  if !s.wrapped p then s.ringPut p f good
  else if !s.wrapped (1 - p) then s.ringPut (1 - p) { f with wrap := true } good
  else s

/-- Whether the node is a master that has still to start the SWEEP and TIME of the present cycle (spec/10 R362). -/
def State.sweepDue (s : State) : Bool := s.role == 3 && s.ring.cycle != some s.ringCycle

/-- Whether the node may start a frame of its own that is not LINK (spec/10 R362, R363): not in the quiet gap, a master not
before the TIME of the cycle. While both sides are wrapped the frame waits, which R22 and R393 leave open. (log entry 204,
DESIGN CHOICE). -/
def State.mayStart (s : State) : Bool := !s.inGap && !s.sweepDue && !s.cutOff

/-- A frame of the node's own. -/
def State.ownFrame (s : State) (type dst cycle : Nat) (payload : List Byte) : RFrame :=
  ⟨type, false, dst, s.raddr, 512, cycle, payload⟩

/-- An inserted node sends a SWEEP or TIME on the primary ring (spec/10, Forwarding and removal, R378). -/
def State.ringSend (s : State) (type dst cycle : Nat) (payload : List Byte) : State :=
  if s.rstate = 3 ∨ s.rstate = 4 then s.ringOut 0 (s.ownFrame type dst cycle payload) true else s

/-- An MGMT frame of an inserted node waits behind those that wait already. -/
def State.ringHold (s : State) (dst : Nat) (payload : List Byte) : State :=
  if s.rstate = 3 ∨ s.rstate = 4 then s.modRing (fun g => { g with held := g.held ++ [(dst, payload)] }) else s

/-- An inserted node sends an MGMT frame, or holds it behind those that wait for the next cycle (spec/10 R362, R363). (log entry
113, DEDUCED). -/
def State.ringMgmt (s : State) (dst : Nat) (payload : List Byte) : State :=
  if (s.rstate = 3 ∨ s.rstate = 4) ∧ s.mayStart ∧ s.ring.held = [] then s.ringOut 0 (s.ownFrame 2 dst 0 payload) true
  else s.ringHold dst payload

/-! ### Responses on their way out (spec/12 R443, R454) -/

/-- A response has left the node: what follows it begins (spec/12 R454). -/
def State.hasLeft (s : State) (a : After) : State :=
  match a with
  | .reset kind => { s with dict := { s.dict with reset := s.dict.reset ++ [(kind, s.nowNs)] } }
  | .nothing | .standby => s

/-- Whether a response no more waits: sent by the ring or dropped with its frames, sent by software, which has moved RD past its
slot, or fetched by the host. (log entry 209, DEDUCED). -/
def State.leftNode (s : State) (x : Leaving) : Bool :=
  if x.path = 2 then
    let size := s.rd F.DICT_RPL_SIZE_SIZE
    let rd := s.rd F.DICT_RPL_RD_RD
    decide ((s.rd F.DICT_RPL_WR_WR + size - rd) % size ≤ (x.place + size - rd) % size)
  else x.place == 0 || (x.path == 1 && decide (s.ring.held.length < x.place))

/-- What follows the responses that have left begins. -/
def State.settleLeaving (s : State) : State :=
  (s.dict.leaving.filter s.leftNode).foldl (fun s x => s.hasLeft x.after)
    { s with dict := { s.dict with leaving := s.dict.leaving.filter (fun x => !s.leftNode x) } }

/-- A frame or message of a transport leaves from its queue: the places behind it move up. -/
def State.shiftLeaving (s : State) (path : Nat) : State :=
  { s with dict := { s.dict with leaving := s.dict.leaving.map (fun (x : Leaving) =>
    if x.path = path then { x with place := x.place - 1 } else x) } }.settleLeaving

/-- The MGMT frame that has waited longest goes out, one at a time, so that a forwarded frame waits for at most one of them
(spec/10 R361). (log entry 113, DEDUCED). -/
def State.ringFlush (s : State) : State :=
  match s.ring.held with
  | [] => s
  | e :: r =>
    if s.mayStart then ((s.modRing (fun g => { g with held := r })).ringOut 0 (s.ownFrame 2 e.1 0 e.2) true).shiftLeaving 1
    else s

/-- Send an ordered set on a port (spec/10 Table 10.1). -/
def State.orderedSet (s : State) (p d1 d2 d3 : Nat) : State := { s with out := s.out ++ [Output.oset p d1 d2 d3] }

/-! ### Bytes in management memory -/

/-- Write bytes from a management-memory address on: whole words where the address is one of a word, else bytes; beyond the
memory nothing is written. (log entry 205, DESIGN CHOICE). -/
def State.mgmtPut (s : State) (a : Nat) (bs : List Byte) : State :=
  if a + bs.length ≤ 0x80000 then
    (if a % 8 = 0 then s.portWrite (mbusWindow + a) bs else s.narrowBytes (mbusWindow + a) bs)
  else s

/-- An engine reads bytes of management memory, whose errors the memory corrects or reports (spec/02 R48, R49); beyond the
memory they are zero. (log entry 205, DESIGN CHOICE). -/
def State.mgmtGet (s : State) (a n : Nat) : State × List Byte :=
  if a + n ≤ 0x80000 then
    let (s, r) := s.readBytes (mbusWindow + a) n
    (s, r.bytes)
  else (s, List.replicate n 0)

/-! ### Ring Ethernet transmission (spec/10 R356) -/

/-- The port of the ring sends a frame of its queue (spec/10 R356); a payload outside the 14 to 2,048 bytes of Table 10.4 is
aborted as a bad prefix is. (log entries 114, DEDUCED; 206, DESIGN CHOICE). -/
def State.ringTransmit (s : State) (f : TxFrame) : State :=
  let (s, r) := s.readBytes (s.hAddr f.handle (hOffset f.handle.val)) f.len
  let bad := f.len < 18 || decide (2052 < f.len) || byteAt r.bytes 0 == 0 || byteAt r.bytes 1 != 0 || byteAt r.bytes 2 != 0 || byteAt r.bytes 3 != 0
  let s := if bad || r.ue then s.bump F.RING_ETH_TX_ERR_CNT_COUNT else s
  let s := if bad then s
    else s.ringOut 0 (s.ownFrame 3 (byteAt r.bytes 0) 0 (r.bytes.drop 4)) (!r.ue)
  s.release f.handle

/-- An uplink sends a frame (spec/11 R402, R409, R425); an aborted one with all its bytes. (log entry 86, DEDUCED). -/
def State.uplTransmit (s : State) (u : Nat) (f : TxFrame) (time : Nat) : State :=
  if f.len > 9212 then (s.bump (F.UPL_TX_LEN_ERR_CNT_COUNT u)).release f.handle
  else
    let (s, r) := s.readBytes (s.hAddr f.handle (hOffset f.handle.val)) f.len
    let data := r.bytes ++ List.replicate (60 - r.bytes.length) 0
    if r.ue then
      ({ s with out := s.out ++ [Output.frame f.port data false] }.bump (F.UPL_TX_ABORT_CNT_COUNT u)).release f.handle
    else
      let s := { s with out := s.out ++ [Output.frame f.port (data ++ fcsOf data) true] }
      ((s.bump (F.UPL_TX_OK_CNT_COUNT u)).txStamp u f.handle data time).release f.handle

/-- A frame on a cell link (spec/11 R413): /S/, its bytes, /T/ or /E/, and the idle pair that separates it from the next. -/
def cellChars (bs : List Byte) (good : Bool) : List CellChar :=
  .start :: bs.map .byte ++ [if good then .stop else .abort, .idle1]

/-- A cell link sends a frame (spec/11 R424, R425); an aborted one with all its bytes. (log entry 86, DEDUCED). -/
def State.cellTransmit (s : State) (n : Nat) (f : TxFrame) : State :=
  if f.len > 528 then (s.bump (F.CL_TX_LEN_ERR_CNT_COUNT n)).release f.handle
  else
    let (s, r) := s.readBytes (s.hAddr f.handle (hOffset f.handle.val)) f.len
    if r.ue then
      ({ s with out := s.out ++ [Output.cell n (cellChars r.bytes false)] }.bump (F.CL_TX_ABORT_CNT_COUNT n)).release f.handle
    else
      ({ s with out := s.out ++ [Output.cell n (cellChars (r.bytes ++ fcsOf r.bytes) true)] }.bump
        (F.CL_TX_OK_CNT_COUNT n)).release f.handle

/-- Whether a port may start its next frame: UP and not paused; the ring while inserted, when the node may
start a frame of its own. -/
def State.mayTransmit (s : State) (port : Nat) : Bool :=
  if port = 80 then (s.rstate == 3 || s.rstate == 4) && s.mayStart && s.ring.held.isEmpty
  else s.portUp port && !((port == 64 || port == 65) && s.is (F.UPL_STATUS_PAUSED (port - 64)))

/-- A port transmits the next frame of its queue and returns its buffer (spec/11 R422); on the ring the MGMT frames that wait go
before it. (log entries 86, DEDUCED; 113, DEDUCED). -/
def State.transmit (s : State) (port time : Nat) : State :=
  if port = 80 ∧ !s.ring.held.isEmpty then (if s.rstate = 3 ∨ s.rstate = 4 then s.ringFlush else s)
  else match (s.txOf port).queue with
  | [] => s
  | f :: r =>
    if !s.mayTransmit port then s
    else
      let s := (s.setTx port { s.txOf port with queue := r }).refill port
      if port < 48 then s.cellTransmit port f
      else if port = 80 then s.ringTransmit f
      else s.uplTransmit (port - 64) f time

/-- FRAME_TRANSMIT (spec/11 R422, spec/10 R356). -/
def execFrameTransmit (port : BitVec 8) (time : BitVec 96) (s : State) : Out := .next (s.transmit port.toNat time.toNat)

end Sys2Proof.Machine
end

