-- ==== Sys2Proof/Machine/DictBase.lean ====
section
/-! DEFINITION. The dictionary engine (spec/12): messages, responses, sessions, device states, the forward queue. -/

namespace Sys2Proof.Machine

/-! ### Messages (spec/12 Tables 12.6, 12.7, 12.13) -/

/-- Result codes of Table 12.13. -/
inductive Res where
  | ok | noEntry | noSub | access | state | length | range | busy | auth | lifecycle | hwError
  deriving DecidableEq, Repr

/-- The code of a result. -/
def Res.code : Res → Nat
  | .ok => 0 | .noEntry => 1 | .noSub => 2 | .access => 3 | .state => 4 | .length => 5 | .range => 6 | .busy => 7
  | .auth => 8 | .lifecycle => 9 | .hwError => 10

/-- SERVICE [6:0] of a message. -/
def EfMsg.service (m : EfMsg) : Nat := byteAt m.bytes 1 % 128
/-- FLAGS.TAGGED. -/
def EfMsg.tagged (m : EfMsg) : Bool := byteAt m.bytes 3 % 2 == 1
/-- SESSION. -/
def EfMsg.session (m : EfMsg) : Nat := halfAt m.bytes 4
/-- COUNTER. -/
def EfMsg.counter (m : EfMsg) : Nat := beNat ((m.bytes.drop 6).take 4)
/-- BODY_LEN. -/
def EfMsg.bodyLen (m : EfMsg) : Nat := halfAt m.bytes 12
/-- The body. -/
def EfMsg.body (m : EfMsg) : List Byte := (m.bytes.drop 16).take m.bodyLen

/-- Check 1 (spec/12 R449, R450). -/
def EfMsg.wellFormed (m : EfMsg) : Bool :=
  m.bytes.length ≥ 16 && m.bytes.length ≤ 2048 && byteAt m.bytes 0 == 1 && byteAt m.bytes 1 < 128 && 1 ≤ m.service && m.service ≤ 8
    && m.service != 7 && decide (m.bodyLen ≤ 2016) && byteAt m.bytes 3 < 2 && halfAt m.bytes 14 == 0
    && m.bytes.length == 16 + m.bodyLen + (if m.tagged then 16 else 0)

/-- A message that the device sends: tagged with a key, or untagged (spec/12 Table 12.6, R456). -/
def mkMessage (service result session : Nat) (echo : List Byte) (body : List Byte) (key : Option (List Byte)) : List Byte :=
  let m := [1] ++ beBytes 1 (128 + service) ++ beBytes 1 result ++ [if key.isSome then 1 else 0] ++ beBytes 2 session ++ echo
    ++ beBytes 2 body.length ++ [0, 0] ++ body
  match key with
  | some k => m ++ (hmac k m).take 16
  | none => m

/-- COUNTER and TXID of a request, echoed in its response. -/
def EfMsg.echo (m : EfMsg) : List Byte := (m.bytes.drop 6).take 6

/-! ### Transports (spec/12 Table 12.9, R474, R475) -/

/-- HOST_IRQ_n is low while the pending queue holds a message (spec/12 Table 12.9). -/
def State.hostIrq (s : State) : Bool := !s.dict.pending.isEmpty

/-- A message leaves for a peer on its transport. (log entries 113, DEDUCED; 120, DEDUCED). -/
def State.sendTo (s : State) (path peer : Nat) (bs : List Byte) : State :=
  if path = 1 then s.ringMgmt peer bs
  else if path = 2 then
    let size := s.rd F.DICT_RPL_SIZE_SIZE
    let wr := s.rd F.DICT_RPL_WR_WR
    if size = 0 || (wr + 1) % size == s.rd F.DICT_RPL_RD_RD then s.bump F.DICT_RPL_LOST_CNT_COUNT
    else
      (s.mgmtPut (s.rd F.DICT_RPL_BASE_BASE + 2080 * wr) (beBytes 16 peer ++ beBytes 2 bs.length
        ++ List.replicate 6 0 ++ bs)).wr F.DICT_RPL_WR_WR ((wr + 1) % size)
  else if s.dict.pending.length ≥ 8 then s.bump F.DICT_RPL_LOST_CNT_COUNT
  else { s with dict := { s.dict with pending := s.dict.pending ++ [bs] } }

/-- The key of a session that still exists and is open. -/
def State.openKey (s : State) (n : Nat) : Option (List Byte) :=
  (oget s.dict.sessions n).bind (fun x => if x.opened then some x.key else none)

/-- Results are counted (spec/12 Table 12.11). -/
def State.countRes (s : State) (r : Res) : State :=
  match r with
  | .busy => s.bump F.DICT_BUSY_CNT_COUNT
  | .auth => s.bump F.DICT_AUTH_CNT_COUNT
  | _ => s

/-- The writer of a posted write as entry 0140.01 holds it (spec/12 Table 12.8). -/
def EfMsg.writer (m : EfMsg) : Nat := m.path * 256 + (if m.path = 1 then m.peer else 0)

/-- The key that tags the ALARM of a failed posted write: that of the session under which the write was accepted, or, of one that
was not, of the session of its peer that it names; none where that session is not open any more (spec/12 R465). (log entry 236,
DEDUCED). -/
def State.alarmKey (s : State) (m : EfMsg) : Option (List Byte) :=
  match m.key with
  | some k => if s.openKey m.session = some k then some k else none
  | none => (oget s.dict.sessions m.session).bind (fun x =>
    if x.opened && x.path == m.path && x.peer == m.peer then some x.key else none)

/-- A failed posted write: entry 0140 and an ALARM, tagged while the writer's session is still open (spec/12 R465, R466). -/
def State.alarm (s : State) (m : EfMsg) (cause : Nat) : State :=
  let e := beNat ((m.body ++ [0, 0, 0]).take 3)
  let s := { s with dict := { s.dict with postErr :=
    ⟨m.writer, e * 256, cause, s.nowNs, satTo 0xFFFFFFFF (s.dict.postErr.count + 1)⟩ } }
  s.sendTo m.path m.peer (mkMessage 7 0x0B m.session m.echo
    ((m.body ++ [0, 0, 0]).take 3 ++ beBytes 1 cause ++ (m.echo.drop 4) ++ [0, 0]) (s.alarmKey m))

/-- What follows a response begins once it has left the node (spec/12 R443, R454): `sent` is the state after the response was
given to its transport, where it left at once, or waits until its place in the queue comes; one that could not be queued has
left. (log entry 209, DEDUCED). -/
def State.leaveAs (s sent : State) (r : Reply) : State :=
  let wr := s.rd F.DICT_RPL_WR_WR
  let n := s.dict.pending.length
  let h := s.ring.held.length
  let s := sent
  if r.after = .nothing then s
  else
    let place :=
      if r.path = 3 ∧ n < s.dict.pending.length then some (n + 1)
      else if r.path = 2 ∧ s.rd F.DICT_RPL_WR_WR ≠ wr then some wr
      else if r.path = 1 ∧ h < s.ring.held.length then some (h + 1)
      else none
    match place with
    | some k => { s with dict := { s.dict with leaving := s.dict.leaving ++ [⟨r.after, r.path, k⟩] } }
    | none => s.hasLeft r.after

/-- A response is sent. -/
def State.leave (s : State) (r : Reply) : State := s.leaveAs (s.sendTo r.path r.peer r.bytes) r

/-- A response leaves, or waits behind those to earlier requests on its transport (spec/12 R444). -/
def State.reply (s : State) (r : Reply) : State :=
  if s.dict.replies.any (fun x => x.path == r.path) then { s with dict := { s.dict with replies := s.dict.replies ++ [r] } }
  else s.leave r

/-- Send the responses of a transport that no earlier one holds back any more; `blocked` once one still waits for firmware. On the
ring only the first may start at once, so that a forwarded frame waits for no second one (spec/10 R361): once `sent`, the others
wait. (log entry 113, DEDUCED). -/
def State.drainReplies (s : State) (path : Nat) (sent blocked : Bool) (kept : List Reply) : List Reply → State
  | [] => { s with dict := { s.dict with replies := kept } }
  | r :: rs =>
    if r.path = path ∧ r.slot = none ∧ !blocked then
      (if sent ∧ path = 1 then s.leaveAs (s.ringHold r.peer r.bytes) r else s.leave r).drainReplies path true blocked kept rs
    else s.drainReplies path sent (blocked || r.path == path) (kept ++ [r]) rs

/-- The bytes of the response to a request: tagged with the key of an accepted tagged request; empty on failure (spec/12 R447,
R452, R458). -/
def EfMsg.response (m : EfMsg) (code : Nat) (body : List Byte) : List Byte :=
  mkMessage m.service code m.session m.echo (if code = 0 then body else []) m.key

/-- Answer a request with a result code: a response, or for a posted write an ALARM on failure (spec/12 R465). -/
def State.answerCode (s : State) (m : EfMsg) (code : Nat) (body : List Byte) (after : After := .nothing) : State :=
  if m.service = 3 then (if code = 0 then s else s.alarm m code)
  else s.reply ⟨m.path, m.peer, none, m.response code body, after⟩

/-- Answer a request (spec/12 R447). -/
def State.answer (s : State) (m : EfMsg) (r : Res) (body : List Byte) (after : After := .nothing) : State :=
  (s.countRes r).answerCode m r.code body after

/-- A message reaches the engine (spec/12 R445, R467): BUSY to a full queue leaves at once. (log entries 117, DEDUCED; 119,
DEDUCED). -/
def State.dictArrive (s : State) (m : EfMsg) : State :=
  if m.bcast && byteAt m.bytes 1 != 3 then s.bump F.DICT_DROP_CNT_COUNT
  else if s.dict.inbox.length ≥ 32 then
    if m.bytes.length < 16 then s.bump F.DICT_DROP_CNT_COUNT
    else
      let s := (s.bump F.DICT_REQ_CNT_COUNT).countRes .busy
      if m.service = 3 then s.alarm m Res.busy.code else s.sendTo m.path m.peer (m.response Res.busy.code [])
  else { s with dict := { s.dict with inbox := s.dict.inbox ++ [m] } }

/-! ### The forward queue (spec/12 R461 to R464) -/

/-- A slot of the forward queue that is free; which of several is not stated. (log entry 121, DESIGN CHOICE). -/
def State.freeSlot (s : State) : State × Option Nat :=
  let free := (List.range 16).filter (fun i => !(s.dict.fwd.any (fun x => x.slot == i)))
  if free.isEmpty then (s, none)
  else
    let (k, s) := s.fresh
    (s, free[Config.slotPick k % free.length]?)

/-- Queue an item in a slot; EVPEND.DICT_FWD is set while the queue holds one. -/
def State.forward (s : State) (slot : Nat) (x : Nat → FwdItem) : State :=
  let n := tget (fun _ => 0) s.dict.serials slot
  { s with dict := { s.dict with
    fwd := s.dict.fwd ++ [x n]
    serials := tset (fun _ => 0) s.dict.serials slot ((n + 1) % 16) } }.event 0 .dictFwd

/-- EVPEND.DICT_FWD is set again while an item is in the queue. -/
def State.pokeFwd (s : State) : State := if s.dict.fwd.isEmpty then s else s.event 0 .dictFwd

/-- A STATE notice takes a slot, or is dropped and counted (spec/12 R464). -/
def State.notice (s : State) (new : Nat) : State :=
  match s.freeSlot with
  | (s, some i) => s.forward i (fun n => ⟨i, n, 0, new, 0, 0, 0, 0, 0, 0, none, s.nowNs⟩)
  | (s, none) => s.bump F.DICT_FWD_LATE_CNT_COUNT

/-- The ID of an item. (log entry 122, DEDUCED). -/
def FwdItem.id (x : FwdItem) : Nat := x.serial % 16 * 16 + x.slot

/-- An item leaves the queue. -/
def State.dropFwd (s : State) (x : FwdItem) : State :=
  { s with dict := { s.dict with fwd := s.dict.fwd.filter (fun y => y.slot != x.slot) } }

/-- FWD_POP: the head STATE notice is removed. (log entry 125, DEDUCED). -/
def State.fwdPop (s : State) : State :=
  match s.dict.fwd with
  | x :: _ => if x.msg.isNone then s.dropFwd x else s
  | [] => s

/-- FWD_POP (spec/12 R464). -/
def execFwdPop (s : State) : Out := .next (s.whenOn State.fwdPop)

/-- A forwarded request is answered: its response takes its place in the order of its transport (spec/12 R444). -/
def State.answerFwd (s : State) (x : FwdItem) (m : EfMsg) (code : Nat) (body : List Byte) : State :=
  if m.service = 3 then (if code = 0 then s else s.alarm m code)
  else
    s.drainReplies m.path false false [] (s.dict.replies.map (fun r => if r.slot = some x.slot
      then { r with slot := none, bytes := m.response code body } else r))

/-- DICT_FWD_TMO as it acts (spec/12 Table 12.11). -/
def State.fwdTmo (s : State) : Nat := max 1 (s.rd F.DICT_FWD_TMO_MS) * 1000000

/-- A request not answered in time is answered BUSY (spec/12 R463). -/
def State.fwdTimeout (s : State) (slot : Nat) : State :=
  match s.dict.fwd.find? (fun x => x.slot == slot) with
  | some x => match x.msg with
    | some m => if s.nowNs < x.at_ + s.fwdTmo then s else ((s.dropFwd x).countRes .busy).answerFwd x m Res.busy.code []
    | none => s
  | none => s

/-- FWD_TIMEOUT (spec/12 R463). -/
def execFwdTimeout (slot : Fin 16) (s : State) : Out := .next (s.fwdTimeout slot.val)

/-- The result code that a DICT_FWD_RESP carries, a reserved one as HW_ERROR (spec/12 R447); POSTED_FAILED, which Table 12.13
has only in the RESULT byte of an ALARM, as well. (log entry 210, DEDUCED). -/
def fwdResult (r : Nat) : Nat := if r ≥ 0x0B then 0x0A else r

/-- A write to DICT_FWD_RESP (spec/12 R452, R462, R463): of a READ it answers as many bytes as TOTAL and OFFSET give, or RANGE
for an OFFSET above TOTAL. (log entry 211, DEDUCED). -/
def State.fwdResp (s : State) (v : BitVec 32) : State :=
  match s.dict.fwd.find? (fun x => x.msg.isSome && x.id == bits v.toNat 0 8) with
  | some x => match x.msg with
    | some m =>
      let code := fwdResult (bits v.toNat 8 8)
      let total := s.dict.total
      let code := if code = 0 ∧ x.service = 1 ∧ total < x.offset then Res.range.code else code
      let len := min (total - x.offset) 2008
      let (s, val) := if code = 0 ∧ x.service = 1 then s.mgmtGet (s.rd F.DICT_FWD_BASE_ADDR + x.slot * 0x800) len else (s, [])
      let s := s.dropFwd x
      let s := if code = 7 then s.countRes .busy else if code = 8 then s.countRes .auth else s
      s.answerFwd x m code (if x.service = 1 then
        beBytes 1 x.type ++ [0] ++ beBytes 2 len ++ beBytes 4 total ++ val else [])
    | none => s
  | none => s.bump F.DICT_FWD_LATE_CNT_COUNT

/-- FWD_RESP (spec/12 R462, R463). -/
def execFwdResp (v : BitVec 32) (s : State) : Out := .next (s.whenOn (fun s => s.fwdResp v))

/-! ### Device states (spec/12 R435 to R443) -/

/-- The device takes a new state (spec/12 R442). -/
def State.enterState (s : State) (new : Nat) : State :=
  let old := s.devState
  if old = new then s
  else (((s.wr F.DICT_STATE_STATE new).wr F.DICT_STATE_CHG 1).offer 0x30 new old).notice new

/-- The ingress ports are disabled (spec/12 R439). -/
def State.disableIngress (s : State) : State :=
  let s := [0, 1].foldl (fun s u => (s.wr (F.UPL_CTL_EN u) 0).uplRefresh u none none) s
  let s := (List.range 48).foldl (fun s n => (s.wr (F.CL_CTL_EN n) 0).cellOff n none none) s
  s.wr F.RING_ETH_RX_EN 0

/-- The device enters SAFE (spec/12 R439). -/
def State.enterSafe (s : State) : State := (s.enterState 4).disableIngress

/-- Whether the device is quiescent (spec/12 R437). -/
def State.quiescent (s : State) : Bool :=
  s.tasks.isEmpty && [0, 1].all (fun u => !s.is (F.UPL_CTL_EN u))
    && (List.range 48).all (fun n => !s.is (F.CL_CTL_EN n)) && !s.is F.RING_ETH_RX_EN

/-- Table 12.4: the new state, the least role and whether the device must be quiescent, for a state and a command. -/
def stateCommand (from_ cmd : Nat) : Option (Nat × Nat × Bool) :=
  match from_, cmd with
  | 1, 2 => some (2, 1, false)
  | 1, 4 => some (4, 2, false)
  | 1, 5 => some (5, 2, false)
  | 2, 3 => some (3, 1, false)
  | 2, 4 => some (4, 1, false)
  | 3, 2 => some (2, 1, false)
  | 3, 4 => some (4, 1, false)
  | 3, 1 => some (1, 2, true)
  | 3, 5 => some (5, 2, true)
  | 4, 1 => some (1, 2, true)
  | 4, 5 => some (5, 2, false)
  | _, _ => none

/-- A state command is given under a role, or by P-core 0 without one (spec/12 R436, R441, R443); a STANDBY command is
answered, and STANDBY_ENTRY follows unless another command is accepted before. (log entry 209, DEDUCED). -/
def State.stateCmd (s : State) (role : Option Nat) (cmd : Nat) : State × Res :=
  if cmd < 1 || cmd > 5 then (s, .range)
  else match stateCommand s.devState cmd with
    | none => (s, .state)
    | some (new, least, quiet) =>
      if (match role with | some r => decide (r < least) | none => false) then (s, .access)
      else if quiet && !s.quiescent then (s, .state)
      else if new = 5 then ({ s with standby := { s.standby with asked := true } }, .ok)
      else
        let s := { s with standby := { s.standby with asked := false } }
        (if new = 4 then s.enterSafe else s.enterState new, .ok)

/-- P-core 0 writes DICT_STATE_CMD (spec/12 R441). -/
def State.pcoreStateCmd (s : State) (cmd : Nat) : State :=
  let (s, r) := s.stateCmd none cmd
  s.wr F.DICT_STATE_CMD_RESULT r.code

/-- STATE_CMD_CONFIG (spec/12 R436, R441). -/
def execStateCmdConfig (s : State) : Out := .next (s.whenOn (fun s => s.pcoreStateCmd 1))
/-- STATE_CMD_RUN (spec/12 R436, R441). -/
def execStateCmdRun (s : State) : Out := .next (s.whenOn (fun s => s.pcoreStateCmd 2))
/-- STATE_CMD_HOLD (spec/12 R436, R441). -/
def execStateCmdHold (s : State) : Out := .next (s.whenOn (fun s => s.pcoreStateCmd 3))
/-- STATE_CMD_SAFE (spec/12 R436, R439, R441). -/
def execStateCmdSafe (s : State) : Out := .next (s.whenOn (fun s => s.pcoreStateCmd 4))
/-- STATE_CMD_STANDBY (spec/12 R436, R441, R443). -/
def execStateCmdStandby (s : State) : Out := .next (s.whenOn (fun s => s.pcoreStateCmd 5))

/-! ### Sessions (spec/12 R455 to R459) -/

/-- A session that was not opened within 5 s of OPEN is deleted. -/
def State.sessOpenTimeout (s : State) (n : Nat) : State :=
  match oget s.dict.sessions n with
  | some x =>
    if !x.opened && decide (x.at_ + 5000000000 ≤ s.nowNs)
    then { s with dict := { s.dict with sessions := odel n s.dict.sessions } } else s
  | none => s

/-- SESSION_OPEN_TIMEOUT (spec/12 R459). -/
def execSessionOpenTimeout (n : BitVec 16) (s : State) : Out := .next (s.sessOpenTimeout n.toNat)

/-- An open session idle for IDLE_S seconds is deleted; IDLE_S 0 acts as 1 (spec/12 R459, Table 12.11, spec/00 R665). (log
entry 123, DEDUCED). -/
def State.sessIdleTimeout (s : State) (n : Nat) : State :=
  match oget s.dict.sessions n with
  | some x =>
    if x.opened && decide (x.at_ + max 1 (s.rd F.DICT_SESS_CFG_IDLE_S) * 1000000000 ≤ s.nowNs)
    then { s with dict := { s.dict with sessions := odel n s.dict.sessions } } else s
  | none => s

/-- SESSION_IDLE_TIMEOUT (spec/12 R459). -/
def execSessionIdleTimeout (n : BitVec 16) (s : State) : Out := .next (s.sessIdleTimeout n.toNat)

/-! ### The host transports (spec/12 R473, R475) -/

/-- A write of 1 to DICT_SUB_GO copies a submit block into the engine (spec/12 R473). -/
def State.subGo (s : State) : State :=
  let a := s.rd F.DICT_SUB_ADDR_ADDR
  let (s, head) := s.mgmtGet a 24
  let (s, msg) := s.mgmtGet (a + 24) (halfAt head 16)
  s.dictArrive ⟨2, beNat (head.take 16), false, msg, none⟩

/-- SUB_GO (spec/12 R473). -/
def execSubGo (s : State) : Out := .next (s.whenOn State.subGo)

/-- The SPI host sends a message: LEN, then the message (spec/12 Table 12.10); one that the transaction cuts short is no
message. (log entry 124, DEDUCED). -/
def State.spiSend (s : State) (mosi : List Byte) : State :=
  let len := halfAt mosi 0
  if mosi.length < 2 || mosi.length - 2 < len then s else s.dictArrive ⟨3, 0, false, (mosi.drop 2).take len, none⟩

/-- SEND_TRANSACTION (spec/12 R475). -/
def execSendTransaction (mosi : List Byte) (s : State) : Out := .next (s.whenOn (fun s => s.spiSend mosi))

/-- POLL's status byte and the length of the head (spec/12 Table 12.10). -/
def State.spiStatus (s : State) : List Byte :=
  let head := s.dict.pending.headD []
  let alarm := byteAt head 1 == 0x87
  let busy := s.dict.inbox.any (fun m => m.path == 3) ||
    s.dict.fwd.any (fun x => match x.msg with | some m => m.path == 3 | none => false)
  beBytes 1 ((if s.dict.pending.isEmpty then 0 else 1) + (if alarm then 2 else 0) + (if busy then 4 else 0))
    ++ beBytes 2 head.length

/-- POLL (spec/12 R475). -/
def execPoll (s : State) : Out :=
  .next (s.whenOn (fun s => { s with out := s.out ++ [Output.reply s.spiStatus] }))

/-- FETCH returns the head message, and removes it when all bytes were clocked (spec/12 Table 12.10). -/
def State.spiFetch (s : State) (all : Bool) : State :=
  let head := s.dict.pending.headD []
  let s := { s with out := s.out ++ [Output.reply (beBytes 2 head.length ++ head)] }
  if all then { s with dict := { s.dict with pending := s.dict.pending.drop 1 } }.shiftLeaving 3 else s

/-- FETCH (spec/12 R475). -/
def execFetch (all : Bool) (s : State) : Out := .next (s.whenOn (fun s => s.spiFetch all))

end Sys2Proof.Machine
end

