-- ==== Sys2Proof/Machine/Ring.lean ====
section
/-! DEFINITION. The ring node (spec/10): states, links, forwarding, the sweep, master election, ring time, wrap. -/

namespace Sys2Proof.Machine

/-! ### Roles and states -/

/-- A change of role (spec/10 R386). (log entry 101, DEDUCED). -/
def State.roleTo (s : State) (r : Nat) : State :=
  if s.role = r then s
  else
    let s := s.wr F.RING_STATUS_ROLE r
    let s := if r = 3 then s.wr F.RING_STATUS_MASTER s.raddr else s
    let s := ((s.eventBoth .ringState).bump F.ELECTION_CNT_COUNT).offer 0x03 0x03 (s.rd F.RING_STATUS_MASTER * 256 + r)
    s.modRing (fun g => { g with claims := 0, beaten := false, sweepOut := false })

/-- A node enters INSERTED (spec/10 R378, R379, R384): as a follower, or as a candidate after an insertion under R377. -/
def State.inserted (s : State) : State :=
  let direct := s.ring.direct
  let s := (s.wr F.RING_STATUS_STATE 3).modRing (fun g => { g with heard := s.nowNs, timeAt := s.nowNs, since := s.nowNs })
  let s := (s.eventBoth .ringState).offer 0x03 0x01 (s.rd F.RING_CYCLE_NUM_CYCLE)
  s.roleTo (if direct && s.is F.RING_CTL_MASTER_CAPABLE then 2 else 1)

/-- The node leaves the ring: the bypass closes (spec/10 R343, R344), its role ends (R386), and the node is OFF; on the way
into standby the drain of the tasks begins (spec/15 Sequence 15.1, step 3). (log entry 105, DEDUCED). -/
def State.ringOff (s : State) : State :=
  if s.rstate = 0 then s
  else
    let s := s.roleTo 0
    let s := (s.wr F.RING_STATUS_STATE 0).wr F.RING_STATUS_SYNCED 0
    let s := (s.wr F.RING_STATUS_WRAP_E 0).wr F.RING_STATUS_WRAP_W 0
    let s := (s.wr (F.PORT_STATUS_LINK 0) 0).wr (F.PORT_STATUS_LINK 1) 0
    let s := { s with ring := { Ring.init with cycle := s.ring.cycle } }.settleLeaving
    if s.phase = .entering ∧ s.standby.drainAt = none then { s with standby := { s.standby with drainAt := some s.nowNs } } else s

/-- The node returns to or enters LISTEN. -/
def State.listen (s : State) (skip : Nat) : State :=
  (s.wr F.RING_STATUS_STATE 1).modRing (fun g =>
    { Ring.init with cycle := g.cycle, since := s.nowNs, skip := skip, times := g.times })

/-- A write to RING_CTL (spec/10 R375, R382): the RWC fields, then JOIN, then LEAVE. (log entry 99, DEDUCED). -/
def State.writeRingCtl (s : State) (v : BitVec 32) : State :=
  let s := s.plainWrite A.RING_CTL v
  let s := if v.toNat.testBit 1 then
      if s.rstate == 0 && s.is F.RING_CTL_ENABLE && 1 ≤ s.raddr && s.raddr ≤ 254 then s.listen 0
      else s.wr F.RING_STATUS_JOIN_ERR 1
    else s
  if v.toNat.testBit 2 && s.rstate == 3 then s.wr F.RING_STATUS_STATE 4 else s

/-- JOIN (spec/10 R375). -/
def execJoin (v : BitVec 32) (s : State) : Out := .next (s.whenOn (fun s => s.writeRingCtl (v ||| 2)))

/-- LEAVE (spec/10 R382). -/
def execLeave (v : BitVec 32) (s : State) : Out := .next (s.whenOn (fun s => s.writeRingCtl (v ||| 4)))

/-! ### Links: training, breaks, acknowledgement (spec/10 R342, R350, R351, R392, R393) -/

/-- A port of an inserted node goes DOWN: it sends BREAK, and the node wraps that side (spec/10 R392, R393). -/
def State.portDown (s : State) (p reason : Nat) : State :=
  if s.linkOf p = 0 then s
  else
    let s := ((s.wr (F.PORT_STATUS_LINK p) 0).bump (F.PORT_DOWN_CNT_COUNT p)).modPort p (fun x =>
      { x with lock := false, ack := false, delayOk := false, removed := none, lost := none, since := s.nowNs, reason := reason,
               breakAt := some s.nowNs, echo := none, linkAt := none })
    let s := s.orderedSet p 0xA3 reason s.rseq
    if s.wrapped p || s.rstate < 3 then s
    else ((s.wr (if p = 0 then F.RING_STATUS_WRAP_E else F.RING_STATUS_WRAP_W) 1).eventBoth .ringState).bump F.WRAP_CNT_COUNT

/-- Both ring ports of a node whose reference has stopped go DOWN (spec/14 R503). -/
def State.ringPortsDown (s : State) : State := if s.rstate ≥ 2 then (s.portDown 0 1).portDown 1 1 else s

/-- The number of bypassed nodes on the link of port `p` towards sequence number `q` (spec/10 R348). -/
def State.bypassed (s : State) (p q : Nat) : Nat :=
  let size := clampTo 2 254 (s.rd F.RING_SIZE_SIZE)
  let d := if p = 0 then (q + 2 * size * 256 - s.rseq) % size else (s.rseq + 2 * size * 256 - q) % size
  d - 1

/-- Whether the supplies hold the bypass open at a node that has joined (spec/10 R343), and the reference runs, without which
every port is DOWN (spec/15 R531). -/
def State.mayOpen (s : State) : Bool := s.supply.vsd && s.supply.vio18 && s.is F.TMR_REF_REF25_OK

/-- A port trains (spec/10 Sequence 10.1): to UP at the rate that both ends allow, or not. The node's TRAIN set says FULL_OK
where its own end allows full rate, and HALF once the link goes to half rate (Table 10.1). (log entry 115, DEDUCED). -/
def State.train (s : State) (p : Nat) (ok : Bool) (loss addr seq : Nat) (peerFull : Bool) : State :=
  if s.linkOf p ≠ 1 then s
  else
    let s := s.wr (F.PORT_STATUS_LOSS_EST p) loss
    if !ok || !s.is F.TMR_REF_REF25_OK then
      ((s.wr (F.PORT_STATUS_LINK p) 0).modPort p (fun x =>
        { x with since := s.nowNs, reason := 2, breakAt := some s.nowNs })).orderedSet p 0xA3 2 s.rseq
    else
      let own := decide (loss ≤ 220) && decide (s.bypassed p (if seq = 0 then addr else seq) ≤ 3)
      let full := own && peerFull
      let s := s.orderedSet p 0xA2 (if own then 1 else 0) s.rseq
      let s := if full then s else s.orderedSet p 0xA2 2 s.rseq
      let s := (s.wr (F.PORT_STATUS_LINK p) 2).wr (F.PORT_STATUS_RATE p) (if full then 0 else 1)
      let s := (s.wr (F.PORT_STATUS_PEER_ADDR p) addr).wr (F.PORT_STATUS_PEER_SEQ p) seq
      let s := s.orderedSet p 0xA1 s.raddr s.rseq
      let s := s.modPort p (fun x => { x with lock := true, ack := true, ackAt := some s.nowNs, linkAt := none, delayOk := false })
      if s.rstate = 2 ∧ s.ring.direct then
        let s := s.inserted
        if s.linkOf (1 - p) = 2 then s
        else
          ((s.wr (if p = 1 then F.RING_STATUS_WRAP_E else F.RING_STATUS_WRAP_W) 1).eventBoth .ringState).bump
            F.WRAP_CNT_COUNT
      else s

/-- LINK_TRAINING (spec/10 R350, R351). -/
def execLinkTraining (p : Fin 2) (ok : Bool) (loss : BitVec 10) (addr seq : BitVec 8) (peerFull : Bool) (s : State) : Out :=
  .next (s.train p.val ok loss.toNat addr.toNat seq.toNat peerFull)

/-- TRAINING_RETRY: 100 ms after it failed or went DOWN a port starts training again (spec/10 R351). -/
def execTrainingRetry (p : Fin 2) (s : State) : Out :=
  .next (if decide (2 ≤ s.rstate) && s.linkOf p.val == 0 && !(s.rstate == 2 && !s.ring.direct) && s.is F.TMR_REF_REF25_OK
      && decide ((s.rport p.val).since + 100000000 ≤ s.nowNs)
    then (s.wr (F.PORT_STATUS_LINK p.val) 1).orderedSet p.val 0xA2 0 s.rseq else s)

/-- Whether `ns` have passed since a time of sending. -/
def State.dueAgain (s : State) (t : Option Nat) (ns : Nat) : Bool :=
  match t with
  | some t => decide (t + ns ≤ s.nowNs)
  | none => true

/-- LINK_ACK_SEND (spec/10 Table 10.1). -/
def execLinkAckSend (p : Fin 2) (s : State) : Out :=
  .next (if s.linkOf p.val == 2 && s.dueAgain (s.rport p.val).ackAt 100000
    then (s.orderedSet p.val 0xA1 s.raddr s.rseq).modPort p.val (fun x => { x with ackAt := some s.nowNs }) else s)

/-- Whether the time of an insertion at a splice point is past: 1 µs before the end of its cycle (spec/10 Sequence 10.2, R381). -/
def State.spliceOver (s : State) : Bool := decide ((s.ring.splice + 1) * s.periodNs ≤ s.ringNow + 1000)

/-- A port receives LINK_ACK (spec/10 Sequence 10.2, step 4, R381, R398): with one on both ports in time an inserting node is
INSERTED. Without the reference the ports are DOWN and receive none (spec/15 R531). -/
def State.ackReceive (s : State) (p addr seq : Nat) : State :=
  if s.rstate < 2 || !s.is F.TMR_REF_REF25_OK then s
  else
    let s := (s.wr (F.PORT_STATUS_PEER_ADDR p) addr).wr (F.PORT_STATUS_PEER_SEQ p) seq
    let s := s.modPort p (fun x => { x with ack := true })
    if s.rstate == 2 && !s.ring.direct && (s.rport 0).ack && (s.rport 1).ack && !s.spliceOver then
      ((s.wr (F.PORT_STATUS_LINK 0) 2).wr (F.PORT_STATUS_LINK 1) 2).inserted.bump F.SPLICE_OK_CNT_COUNT
    else s

/-- LINK_ACK_RECEIVE (spec/10 Table 10.1). -/
def execLinkAckReceive (p : Fin 2) (addr seq : BitVec 8) (s : State) : Out :=
  .next (s.ackReceive p.val addr.toNat seq.toNat)

/-- BREAK_SEND (spec/10 Table 10.1). -/
def execBreakSend (p : Fin 2) (s : State) : Out :=
  .next (if decide (2 ≤ s.rstate) && s.linkOf p.val == 0 && !(s.rstate == 2 && !s.ring.direct)
      && s.dueAgain (s.rport p.val).breakAt 10000
    then (s.orderedSet p.val 0xA3 (s.rport p.val).reason s.rseq).modPort p.val (fun x =>
      { x with breakAt := some s.nowNs }) else s)

/-- A port faces a new transmitter: the first LINK exchange of the new link is still to come (spec/10 Sequence 10.2, step 5). -/
def RPort.newLink (x : RPort) : RPort := { x with delayOk := false, echo := none, linkAt := none }

/-- A port receives BREAK (spec/10 R383, R392): with reason 0x03 its neighbour is being removed, and it keeps its rate. (log
entry 102, DEDUCED). -/
def State.breakReceive (s : State) (p reason : Nat) : State :=
  if s.rstate < 2 then s
  else if reason = 3 ∧ s.linkOf p = 2 then
    s.modPort p (fun x => { x.newLink with lock := false, lost := none, removed := some s.ringCycle })
  else s.portDown p 1

/-- BREAK_RECEIVE (spec/10 R392). -/
def execBreakReceive (p : Fin 2) (reason : BitVec 8) (s : State) : Out := .next (s.breakReceive p.val reason.toNat)

/-- The splice point S within a cycle, in ns. -/
def State.spliceAt (s : State) : Nat := s.periodNs - s.ringTimes.2.2 * 1000

/-- Whether ring time lies at or after S in the cycle of an open window (spec/10 R379). -/
def State.pastSplice (s : State) : Bool :=
  s.ring.opened == some (s.ringCycle % 2 ^ 32) && decide (s.spliceAt ≤ s.inCycle)

/-- Whether the receiver of port `p` seeks the lock that its neighbour's removal took (spec/10 R383). -/
def State.relocks (s : State) (p : Nat) : Bool := (s.rport p).removed.isSome && !(s.rport p).lock && (s.rport p).lost.isNone

/-- Whether step 3 of the removal that port `p` was told of has passed: 8.5 µs after S of the cycle in which its BREAK came
(spec/10 Sequence 10.2, R383). -/
def State.relockLate (s : State) (p : Nat) : Bool :=
  (s.rport p).removed != some s.ringCycle || decide (s.spliceAt + 8500 < s.inCycle)

/-- Whether a loss of lock that began 4 µs ago began within 0.5 µs after S of an open window (spec/10 R380). -/
def State.spliceLoss (s : State) : Bool :=
  s.ring.opened == some (s.ringCycle % 2 ^ 32) && decide (s.spliceAt + 4000 ≤ s.inCycle)
    && decide (s.inCycle ≤ s.spliceAt + 4500)

/-- A receiver has been without block lock for 4 µs (spec/10 R392): the port goes DOWN, but for a splice's loss, which leaves it
UP with a new neighbour until it has lasted 10 µs (R380), or after its neighbour's removal until step 3 has passed (R383). (log
entry 208, DEDUCED). -/
def State.lockLoss (s : State) (p : Nat) : State :=
  if s.rstate < 2 then s.modPort p (fun x => { x with lock := false })
  else if s.relocks p then (if s.relockLate p then s.portDown p 1 else s)
  else match (s.rport p).lost with
    | some t => if t + 10000 ≤ s.nowNs then s.portDown p 1 else s
    | none =>
      if s.spliceLoss then s.modPort p (fun x => { x.newLink with lock := false, lost := some (s.nowNs - 4000) })
      else s.portDown p 1

/-- LOCK_LOSS (spec/10 R380, R392). -/
def execLockLoss (p : Fin 2) (s : State) : Out := .next (s.lockLoss p.val)

/-- Whether a receiver that takes block lock again takes it too late (spec/10 R380, R383). -/
def State.lockLate (s : State) (p : Nat) : Bool :=
  (s.relocks p && s.relockLate p) || (match (s.rport p).lost with | some t => decide (t + 10000 ≤ s.nowNs) | none => false)

/-- A receiver takes block lock (spec/10 R375, Sequence 10.2, steps 2, 3 and 5): from a tapped pair in LISTEN, or again after a
splice, when it sends LINK_ACK; an inserting node's links, and a neighbour's that locks again after S of an open window, are new
ones. A lock that comes too late after a splice finds the port DOWN (R380, R383); without the reference none is taken (spec/15
R531). (log entry 232, DEDUCED). -/
def State.blockLock (s : State) (p : Nat) (half : Bool) : State :=
  if s.rstate = 0 || !s.is F.TMR_REF_REF25_OK then s
  else if decide (3 ≤ s.rstate) && s.linkOf p == 2 && s.lockLate p then s.portDown p 1
  else
    let fresh := s.rstate == 2 || s.pastSplice
    let s := s.modPort p (fun x => { x with lock := true, lost := none })
    if s.rstate = 1 then s.wr (F.PORT_STATUS_RATE p) (if half then 1 else 0)
    else if s.linkOf p == 2 || (s.rstate == 2 && !s.ring.direct) then
      (s.orderedSet p 0xA1 s.raddr s.rseq).modPort p (fun x =>
        { (if fresh then x.newLink else x) with ackAt := some s.nowNs })
    else s

/-- RING_BLOCK_LOCK (spec/10 R375, R379). -/
def execRingBlockLock (p : Fin 2) (half : Bool) (s : State) : Out := .next (s.blockLock p.val half)

/-! ### Splicing (spec/10 R376 to R382, R394) -/

/-- The sides whose port is UP again unwrap (spec/10 R394). -/
def State.unwrap (s : State) : State :=
  let s := if s.wrapped 0 && s.linkOf 0 == 2 then s.wr F.RING_STATUS_WRAP_E 0 else s
  if s.wrapped 1 && s.linkOf 1 == 2 then s.wr F.RING_STATUS_WRAP_W 0 else s

/-- The splice point of the open window (spec/10 R376, R382, R394): `passing`, whether a frame passes the node. (log entry
103, DEDUCED). -/
def State.splicePoint (s : State) (passing : Bool) : State :=
  match s.ring.window with
  | none => s
  | some w =>
    if s.ringCycle % 2 ^ 32 ≠ w || s.inCycle < s.spliceAt then s
    else
      let s := s.modRing (fun g => { g with window := none })
      if s.rstate = 1 then
        if s.ring.skip > 0 then s.modRing (fun g => { g with skip := g.skip - 1 })
        else if s.is F.ST_RING_CAL_BUSY || s.scanning || !s.mayOpen then s
        else if passing then s.bump F.SPLICE_DEFER_CNT_COUNT
        else
          let s := ((s.wr F.RING_STATUS_STATE 2).modRing (fun g => { g with splice := s.ringCycle, direct := false })).modPort 0
            (fun x => { x with lock := false, ack := false }) |>.modPort 1 (fun x => { x with lock := false, ack := false })
          { s with out := s.out ++ [Output.ring 0 [.idle], Output.ring 1 [.idle]] }
      else if s.rstate = 4 ∧ !passing then
        let s := (s.orderedSet 0 0xA3 3 s.rseq).orderedSet 1 0xA3 3 s.rseq
        s.ringOff.offer 0x03 0x02 (s.rd F.RING_CYCLE_NUM_CYCLE)
      else if 3 ≤ s.rstate then s.unwrap
      else s

/-- SPLICE_POINT (spec/10 R376, R379, R394). -/
def execSplicePoint (passing : Bool) (s : State) : Out := .next (s.splicePoint passing)

/-- LISTEN_TIMEOUT (spec/10 R377). -/
def execListenTimeout (s : State) : Out :=
  .next (if s.rstate == 1 && !(s.rport 0).lock && !(s.rport 1).lock && decide (s.ring.since + 2000000 ≤ s.nowNs)
      && !s.is F.ST_RING_CAL_BUSY && !s.scanning && s.mayOpen
    then
      let s := (s.wr F.RING_STATUS_STATE 2).modRing (fun g => { g with direct := true })
      let s := (s.wr (F.PORT_STATUS_LINK 0) 1).wr (F.PORT_STATUS_LINK 1) 1
      (s.orderedSet 0 0xA2 0 s.rseq).orderedSet 1 0xA2 0 s.rseq
    else s)

/-- SPLICE_DEADLINE (spec/10 R381): the next try comes no sooner than 16 open windows later. (log entry 104, DEDUCED). -/
def execSpliceDeadline (s : State) : Out :=
  .next (if s.rstate == 2 && !s.ring.direct
      && s.spliceOver
    then (s.listen 15).bump F.SPLICE_FAIL_CNT_COUNT else s)

/-! ### LINK frames (spec/10 R383, R389) -/

/-- A port sends a LINK frame, every 16 cycles, and not within 1 µs either side of S (spec/10 R363, R389). -/
def State.linkSend (s : State) (p time : Nat) : State :=
  let c := s.rd F.RING_CYCLE_NUM_CYCLE
  let due := match (s.rport p).linkAt with
    | some k => decide (16 ≤ (c + 2 ^ 32 - k) % 2 ^ 32)
    | none => true
  let sp := s.spliceAt
  if s.rstate < 2 || s.linkOf p ≠ 2 || !due || s.sweepDue || (decide (sp < s.inCycle + 1000) && decide (s.inCycle < sp + 1000)) then s
  else
    let t := s.stamp time / 2 ^ 32
    let (a, b) := (s.rport p).echo.getD (0, 0)
    let pay := beBytes 1 s.raddr ++ beBytes 1 s.rseq ++ beBytes 1 p
      ++ beBytes 1 (s.rd (F.PORT_STATUS_RATE p) + (if s.role = 3 then 2 else 0)) ++ beBytes 8 t ++ beBytes 8 a ++ beBytes 8 b
    (s.ringPut p (s.ownFrame 5 0 0 pay) true).modPort p (fun x => { x with linkAt := some c })

/-- LINK_FRAME_SEND (spec/10 R389). -/
def execLinkFrameSend (p : Fin 2) (time : BitVec 96) (s : State) : Out := .next (s.linkSend p.val time.toNat)

/-- A port takes a LINK frame (spec/10 R383, R389): the link's delay in 0.1 ns from ECHO_TX, ECHO_RX and T_TX, which are whole
ns, and its receipt, with its fraction. (log entry 110, DEDUCED). -/
def State.linkTake (s : State) (p : Nat) (f : RFrame) (time : Nat) : State :=
  let t4 := s.stampPast time
  let at_ := fun n => beNat ((f.payload.drop n).take 8)
  let t3 := at_ 4
  let seq := byteAt f.payload 1
  let s' := s.modPort p (fun x => { x with echo := some (t3, t4 / 2 ^ 32), removed := none })
  let q := if seq = 0 then byteAt f.payload 0 else seq
  if (s.rport p).removed.isSome && s.rd (F.PORT_STATUS_RATE p) == 0 && decide (s.bypassed p q > 3) then s'.portDown p 1
  else if at_ 12 = 0 ∧ at_ 20 = 0 then s'
  else
    let d : Int := ((t4 : Int) - ((at_ 12 : Int) + t3 - at_ 20) * 2 ^ 32) * 5 / 2 ^ 32
    (s'.wr (F.PORT_DELAY_DELAY p) (d % 65536).toNat).modPort p (fun x => { x with delayOk := true })

/-! ### Ring time and election (spec/10 R384 to R391) -/

/-- Whether a claim of (PRIO, address) beats this node's (spec/10 R385). -/
def State.beatenBy (s : State) (prio src : Nat) : Bool :=
  let own := s.rd F.RING_CTL_MASTER_PRIO
  decide (prio > own) || (prio == own && decide (src < s.raddr))

/-- Ring time follows a master TIME (spec/10 R388, R390, R391). (log entries 109, DESIGN CHOICE; 110, DEDUCED). -/
def State.takeTime (s : State) (p : Nat) (f : RFrame) (time : Nat) : State :=
  let m : Int := beNat (f.payload.take 8) * 2 ^ 32 + beNat ((f.payload.drop 8).take 4)
  let corr := signedOf 64 (beNat ((f.payload.drop 12).take 8))
  let d : Int := s.rd (F.PORT_DELAY_DELAY p) * 2 ^ 32 / 10
  let ofs := (m + corr * 65536 + d - s.stampPast time) / 2 ^ 32
  let (k, s) := s.fresh
  let s := s.wrPair F.RING_OFS_LO_OFS F.RING_OFS_HI_OFS (ofs % 2 ^ 64).toNat
  let s := { s with ringRate := Config.ringTrim k }.modRing (fun g => { g with timeAt := s.nowNs })
  let s := s.wr F.RING_STATUS_MASTER f.src
  if s.rstate ≥ 3 && (s.rport p).delayOk then s.wr F.RING_STATUS_SYNCED 1 else s

/-- A node takes a TIME frame: an election claim, or master time (spec/10 R385, R386, R390). (log entry 112, DEDUCED). -/
def State.timeTake (s : State) (p : Nat) (f : RFrame) (time : Nat) : State :=
  let beats := s.beatenBy (byteAt f.payload 20) f.src
  if s.role = 3 then if beats then s.modRing (fun g => { g with beaten := true }) else s
  else if byteAt f.payload 21 % 2 = 1 then if s.role = 2 ∧ beats then s.roleTo 1 else s
  else if s.role = 2 then if beats then (s.roleTo 1).takeTime p f time else s
  else s.takeTime p f time

/-! ### The sweep (spec/10 R367 to R373) -/

/-- Whether a map is enabled. -/
def State.mapOn (s : State) (tx : Bool) (m : Nat) : Bool := s.is (if tx then F.PDM_TX_EN m else F.PDM_RX_EN m)

/-- Whether the node has an enabled map. -/
def State.anyMap (s : State) : Bool := (List.range 64).any (fun m => s.mapOn false m || s.mapOn true m)

/-- The first byte of a bank of a map's image (spec/10 R372), from PDM_IMG without its low three bits. (log entry 205, DESIGN
CHOICE). -/
def bankAddr (img len bank : Nat) : Nat := img / 8 * 8 + (if bank = 0 then 0 else (len + 7) / 8 * 8)

/-- OFF and LEN of a map; LEN outside 1–2,008 acts as the nearer end (spec/10 Table 10.7, spec/00 R665). -/
def State.mapWindow (s : State) (tx : Bool) (m : Nat) : Nat × Nat :=
  (s.rd (if tx then F.PDM_TX_OFF m else F.PDM_RX_OFF m), clampTo 1 2008 (s.rd (if tx then F.PDM_TX_LEN m else F.PDM_RX_LEN m)))

/-- The address of a bank of a map. -/
def State.mapBank (s : State) (tx : Bool) (m bank : Nat) : Nat :=
  bankAddr (s.rd (if tx then F.PDM_TX_IMG_ADDR m else F.PDM_RX_IMG_ADDR m)) (s.mapWindow tx m).2 bank

/-- Each enabled receive map's window goes into its back bank (spec/10 R367). -/
def State.copyRx (s : State) (payload : List Byte) : State :=
  (List.range 64).foldl (fun s m => if s.mapOn false m then
    let (off, len) := s.mapWindow false m
    s.mgmtPut (s.mapBank false m (1 - s.rd (F.PDM_RX_BANK_FRONT m))) ((payload.drop (40 + off)).take len)
    else s) s

/-- Each enabled receive map flips its front bank, or is stale (spec/10 R369). -/
def State.endRx (s : State) (good : Bool) : State :=
  (List.range 64).foldl (fun s m => if s.mapOn false m then
    if good then
      let s := (s.wr (F.PDM_RX_BANK_FRONT m) (1 - s.rd (F.PDM_RX_BANK_FRONT m))).wr (F.PDM_RX_BANK_STALE m) 0
      { s with dict := { s.dict with flipped := tset (fun _ => false) s.dict.flipped m true } }
    else s.wr (F.PDM_RX_BANK_STALE m) 1
    else s) s

/-- The committed transmit banks become front as a SWEEP starts (spec/10 R372). -/
def State.takeCommits (s : State) : State :=
  (List.range 64).foldl (fun s m => if s.is (F.PDM_TX_BANK_PENDING m) then
    (s.wr (F.PDM_TX_BANK_FRONT m) (1 - s.rd (F.PDM_TX_BANK_FRONT m))).wr (F.PDM_TX_BANK_PENDING m) 0
    else s) s

/-- Replace bytes of a list from a place on, as far as it reaches. -/
def overlay (bs : List Byte) (n : Nat) (new : List Byte) : List Byte :=
  bs.take n ++ new.take (bs.length - n) ++ bs.drop (n + new.length)

/-- The node's attendance bit in a SWEEP's payload (spec/10 R367). -/
def State.attend (s : State) (pay : List Byte) : List Byte :=
  let i := 8 + s.raddr / 8
  if s.anyMap then overlay pay i [BitVec.ofNat 8 (Nat.lor (byteAt pay i) (2 ^ (s.raddr % 8)))] else pay

/-- The node's transmit windows and attendance bit in a SWEEP's payload; the higher-numbered map stands (spec/10 R367,
R368). -/
def State.fillTx (s : State) (payload : List Byte) : State × List Byte :=
  let (s, pay) := (List.range 64).foldl (fun (acc : State × List Byte) m =>
    let (s, pay) := acc
    if s.mapOn true m then
      let (off, len) := s.mapWindow true m
      let (s, img) := s.mgmtGet (s.mapBank true m (s.rd (F.PDM_TX_BANK_FRONT m))) len
      (s, overlay pay (40 + off) img)
    else acc) (s, payload)
  (s, s.attend pay)

/-- New cycle parameters come into force within a cycle that has started: it goes on under its number in them (spec/10 R364).
(log entry 233, DEDUCED). -/
def State.newTimes (s : State) (t : Nat × Nat × Nat) : State :=
  let started := s.ring.cycle == some s.ringCycle
  let s' := s.modRing (fun g => { g with times := some t })
  if started && s'.ring.cycle != some s'.ringCycle then
    (s'.wr F.RING_CYCLE_NUM_CYCLE s'.ringCycle).modRing (fun g => { g with cycle := some s'.ringCycle })
  else s'

/-- A node hears a good SWEEP (spec/10 R364, R376, R384): its cycle parameters, master, and open window. -/
def State.hearSweep (s : State) (f : RFrame) : State :=
  let p := f.payload
  let s := (s.newTimes (halfAt p 4, byteAt p 6, byteAt p 7)).modRing (fun g => { g with
    heard := s.nowNs
    window := if byteAt p 1 % 2 = 1 then some f.cycle else g.window
    opened := if byteAt p 1 % 2 = 1 then some f.cycle else g.opened })
  if s.rstate ≥ 3 then s.wr F.RING_STATUS_MASTER (byteAt p 0) else s

/-- A follower processes the cycle's SWEEP: the payload it forwards, and the state (spec/10 R367, R369). (log entry 107,
DEDUCED). -/
def State.sweepTake (s : State) (f : RFrame) (good : Bool) : State × RFrame :=
  let s := s.takeCommits.copyRx f.payload
  let (s, pay) := s.fillTx f.payload
  let f' := { f with payload := pay }
  let s := s.endRx good
  let s := s.modRing (fun g => { g with processed := some f.cycle })
  (if good then s.hearSweep f else s.bump F.SWEEP_BAD_CNT_COUNT, f')

/-- SWEEP_ATTEND registers from a returned SWEEP (spec/10 R371). -/
def State.takeAttend (s : State) (payload : List Byte) : State :=
  (List.range 8).foldl (fun s k => s.setReg (A.SWEEP_ATTEND k) (BitVec.ofNat 32 (leNat ((payload.drop (8 + 4 * k)).take 4)))) s

/-- An inserted node has received a good SWEEP (spec/10 R384). -/
def State.heardSweep (s : State) (good : Bool) : State :=
  if good && decide (3 ≤ s.rstate) then s.modRing (fun g => { g with heard := s.nowNs }) else s

/-- The SWEEP returns to its master before the gap of its cycle (spec/10 R370, R371). -/
def State.sweepReturn (s : State) (f : RFrame) (good : Bool) : State :=
  let s := s.heardSweep good
  if s.role ≠ 3 || !s.ring.sweepOut || f.cycle ≠ s.rd F.RING_CYCLE_NUM_CYCLE || s.inGap || s.ring.cycle ≠ some s.ringCycle then s
  else
    let s := ((s.copyRx f.payload).endRx good).modRing (fun g => { g with sweepOut := false })
    if good then (s.takeAttend f.payload).wr F.SWEEP_ATTEND_STAT_STALE 0
    else (s.bump F.SWEEP_BAD_CNT_COUNT).wr F.SWEEP_ATTEND_STAT_STALE 1

/-! ### Arriving frames (spec/10 R354, R358, R359, Table 10.5) -/

/-- What Table 10.5 does with a frame. -/
inductive Disposal where
  | taken | hopsOut | home | takenOnly | takenAndOn | on
  deriving DecidableEq, Repr

/-- Table 10.5 for a frame that arrives on port `p`. -/
def State.disposal (s : State) (p : Nat) (f : RFrame) : Disposal :=
  let eth := f.type == 3 && !s.is F.RING_ETH_RX_EN
  if f.type = 5 then .taken
  else if f.hops ≤ 1 then .hopsOut
  else if f.src = s.raddr ∧ p = 1 then .home
  else if f.dst = s.raddr then (if eth then .on else .takenOnly)
  else if f.dst = 255 then (if eth then .on else .takenAndOn)
  else .on

/-- A ring ETH frame is taken into a buffer (spec/10 R357, spec/07 R247). -/
def State.ethTake (s : State) (f : RFrame) (good : Bool) : State :=
  match s.ingress (s.rd F.RING_ETH_RX_POOL) (s.rd F.RING_ETH_RX_ACCOUNT) with
  | (s, none) => s
  | (s, some (h, l, i)) =>
    let s := s.writeFrame l i f.payload
    if f.payload.length > l.size - 64 then (s.bump (F.POOL_TOO_LONG_COUNT (hPool h.val))).release h
    else if good then s.accept ⟨h, 80, f.payload.length, s.nowNs, f.src, none, false⟩
    else s.release h

/-- A node takes a frame by its type (spec/10 R358); a good SWEEP that it does not process, as one that reaches it on the
secondary ring, it still hears (R364, R384, R393); a master, whose cycle is its own, notes only that it came (R364, R384). (log
entry 234, DEDUCED). -/
def State.takeFrame (s : State) (p : Nat) (f : RFrame) (good : Bool) (time : Nat) : State :=
  if f.type = 3 then s.ethTake f good
  else if !good then s
  else if f.type = 2 then s.dictArrive ⟨1, f.src, f.dst == 255, f.payload, none⟩
  else if f.type = 4 then s.timeTake p f time
  else if f.type = 1 ∧ 3 ≤ s.rstate then (if s.role = 3 then s.heardSweep good else s.hearSweep f)
  else s

/-- The frame that a node passes on: one hop less; TIME with the node's residence and link delay, a SWEEP with WRAPPED while
the node is wrapped (spec/10 R358, R390, R393). -/
def State.onward (s : State) (p res : Nat) (f : RFrame) : RFrame :=
  let f := { f with hops := f.hops - 1 }
  if f.type = 4 then
    let c := beNat ((f.payload.drop 12).take 8) + res + s.rd (F.PORT_DELAY_DELAY p) * 65536 / 10
    { f with payload := overlay f.payload 12 (beBytes 8 (c % 2 ^ 64)) }
  else if f.type = 1 ∧ s.anyWrap then
    { f with payload := overlay f.payload 1 [BitVec.ofNat 8 (Nat.lor (byteAt f.payload 1) 2)] }
  else f

/-- A listening node hears a good SWEEP or a master TIME on a tapped pair (spec/10 R376, Example 10.1). -/
def State.listenFrame (s : State) (p : Nat) (f : RFrame) (time : Nat) : State :=
  if f.type = 1 then s.hearSweep f
  else if f.type = 4 ∧ byteAt f.payload 21 % 2 = 0 then s.takeTime p f time
  else s

/-- Whether the node processes an arriving SWEEP (spec/10 R367, R378). (log entry 111, DEDUCED). -/
def State.processes (s : State) (p : Nat) (f : RFrame) : Bool :=
  f.type == 1 && p == 1 && decide (s.rstate ≥ 3) && s.role != 3 && s.ring.processed != some f.cycle

/-- A frame with a bad header goes where Table 10.5 sends it, ended under R341 where that forwards it (spec/10 R354); of a frame
shorter than its header nothing goes on. -/
def State.passBad (s : State) (p : Nat) (f : RFrame) (whole : Bool) : State :=
  match s.disposal p f with
  | .hopsOut => s.bump (F.PORT_HOPS_DROP_CNT_COUNT p)
  | .takenAndOn | .on => if whole then s.ringOut (1 - p) (s.onward p 0 f) false else s
  | .taken | .home | .takenOnly => s

/-- A ring frame arrives on port `p` (spec/10 R341, R354, R358, R359); without the reference the ports are DOWN and take none
(spec/15 R531). (log entry 106, DEDUCED). -/
def State.ringReceive (s : State) (p : Nat) (rx : RingRx) : State :=
  let f := RFrame.of rx.bytes
  let head := headerOk rx.bytes
  let good := !rx.cut && head && ringCrcOk rx.bytes
  let t := rx.time.toNat
  if s.rstate = 0 ∨ s.linkOf p = 1 ∨ s.is F.TMR_REF_REF25_OK = false then s
  else
    let s := if rx.cut then s.bump (F.PORT_CUT_CNT_COUNT p)
      else if !head then s.bump (F.PORT_LEN_ERR_CNT_COUNT p)
      else if !good && s.rstate != 1 then s.bump (F.PORT_CRC_ERR_CNT_COUNT p) else s
    if s.rstate = 1 then (if good then s.listenFrame p f t else s)
    else if !head then s.passBad p f (decide (12 ≤ rx.bytes.length))
    else match s.disposal p f with
      | .taken => if good then s.linkTake p f t else s
      | .hopsOut => s.bump (F.PORT_HOPS_DROP_CNT_COUNT p)
      | .home => if f.type = 1 then s.sweepReturn f good else s
      | .takenOnly => s.takeFrame p f good t
      | .takenAndOn =>
        if s.processes p f then
          let (s, f) := s.sweepTake f good
          s.ringOut (1 - p) (s.onward p rx.res.toNat f) good
        else (s.takeFrame p f good t).ringOut (1 - p) (s.onward p rx.res.toNat f) good
      | .on => s.ringOut (1 - p) (s.onward p rx.res.toNat f) good

/-- RING_FRAME_RECEIVE (spec/10 R358). -/
def execRingFrameReceive (p : Fin 2) (rx : RingRx) (s : State) : Out := .next (s.ringReceive p.val rx)

/-- A frame of one type arrives; a frame of another type is not this event. (log entry 116, DEDUCED). -/
def State.receiveType (s : State) (type p : Nat) (rx : RingRx) : State :=
  if byteAt rx.bytes 0 / 16 = type then s.ringReceive p rx else s

/-- SWEEP_PROCESS: a SWEEP reaches a follower's West port (spec/10 R367). -/
def execSweepProcess (rx : RingRx) (s : State) : Out :=
  .next (if s.role = 3 then s else s.receiveType 1 1 rx)

/-- SWEEP_RETURN: a SWEEP reaches its master's West port (spec/10 R370). -/
def execSweepReturn (rx : RingRx) (s : State) : Out :=
  .next (if s.role = 3 then s.receiveType 1 1 rx else s)

/-- LINK_FRAME_RECEIVE (spec/10 R389). -/
def execLinkFrameReceive (p : Fin 2) (rx : RingRx) (s : State) : Out := .next (s.receiveType 5 p.val rx)

/-- TIME_FRAME_RECEIVE (spec/10 R385, R390). -/
def execTimeFrameReceive (p : Fin 2) (rx : RingRx) (s : State) : Out := .next (s.receiveType 4 p.val rx)

/-! ### The cycle (spec/10 R362, R364, R365, R370, R371, R374, R384, R385) -/

/-- A TIME frame of this node (spec/10 Table 10.4). -/
def State.sendTime (s : State) (claim : Bool) (cycle time : Nat) : State :=
  let t := (s.stamp time + s.pair F.RING_OFS_LO_OFS F.RING_OFS_HI_OFS * 2 ^ 32) % 2 ^ 96
  s.ringSend 4 255 cycle (beBytes 8 (t / 2 ^ 32) ++ beBytes 4 t ++ List.replicate 8 0
    ++ beBytes 1 (s.rd F.RING_CTL_MASTER_PRIO) ++ [if claim then 1 else 0] ++ [0, 0])

/-- The master sends the SWEEP of a cycle (spec/10 R362, R365, R370, R371). (log entry 108, DESIGN CHOICE). -/
def State.sendSweep (s : State) (k : Nat) : State :=
  let (per, gap, sp) := s.ringTimes
  let wide := s.rd F.RING_GAP_SPLICE_EVERY
  let opens := k % 2 ^ wide == 0
  let (n, s) := s.takeCommits.fresh
  let area := (List.range (min 2008 (s.rd F.RING_SWEEP_AREA_LEN))).map (Config.sweepByte n)
  let pay := beBytes 1 s.raddr ++ beBytes 1 ((if opens then 1 else 0) + (if s.anyWrap then 2 else 0)) ++ [0, 0]
    ++ beBytes 2 per ++ beBytes 1 gap ++ beBytes 1 sp ++ List.replicate 32 0 ++ area
  let (s, pay) := s.fillTx pay
  (s.ringSend 1 255 (k % 2 ^ 32) pay).modRing (fun g =>
    { g with
      sweepOut := true
      window := if opens then some (k % 2 ^ 32) else g.window
      opened := if opens then some (k % 2 ^ 32) else g.opened })

/-- The role that a node takes at a cycle start (spec/10 R385, R386); a master takes its own cycle parameters (R364). -/
def State.cycleTurn (s : State) : State :=
  let s := if s.role = 3 ∧ s.ring.beaten then s.roleTo 1 else s
  let s := if s.role = 2 ∧ s.ring.claims ≥ 3 then s.roleTo 3 else s
  if s.role = 3 then s.modRing (fun g => { g with times := some s.ownTimes }) else s

/-- What the node sends at a cycle start under its role (spec/10 R362, R384 to R386). -/
def State.cycleRole (s : State) (k time : Nat) : State :=
  if s.role = 3 then
    (s.sendSweep k).sendTime false (k % 2 ^ 32) time
  else if s.role = 2 then
    (s.sendTime true (k % 2 ^ 32) time).modRing (fun g => { g with claims := g.claims + 1 })
  else s

/-- A cycle of the node's ring time starts (spec/10 R374); under a new PERIOD_US it has the number that the new period gives
(R364). Where it sends nothing of its role, an MGMT frame that waits goes (R361). (log entries 100, DEDUCED; 113, DEDUCED; 233,
DEDUCED). -/
def State.cycleStart (s : State) (time : Nat) : State :=
  if !s.is F.RING_CTL_ENABLE || s.ring.cycle == some s.ringCycle then s
  else
    let s := if s.rstate = 3 ∨ s.rstate = 4 then s.cycleTurn else s
    let k := s.ringCycle
    let s := ((s.wr F.RING_CYCLE_NUM_CYCLE k).modRing (fun g => { g with cycle := some k })).eventBoth .ringCycle
    if s.rstate = 3 ∨ s.rstate = 4 then (if s.role < 2 then s.ringFlush else s.cycleRole k time) else s

/-- CYCLE_START (spec/10 R362, R374, R384). -/
def execCycleStart (time : BitVec 96) (s : State) : Out := .next (s.cycleStart time.toNat)

/-- GAP_START: a master whose SWEEP has not returned counts it lost (spec/10 R370, R371). -/
def execGapStart (s : State) : Out :=
  .next (if s.inGap && s.role == 3 && s.ring.sweepOut then
      ((s.modRing (fun g => { g with sweepOut := false })).bump F.SWEEP_LOST_CNT_COUNT).wr F.SWEEP_ATTEND_STAT_STALE 1
    else s)

/-- SWEEP_ABSENCE_TIMEOUT (spec/10 R384). -/
def execSweepAbsenceTimeout (s : State) : Out :=
  .next (if s.rstate == 3 && s.is F.RING_CTL_MASTER_CAPABLE && decide (s.role < 2)
      && decide (s.ring.heard + 3 * s.periodNs ≤ s.nowNs)
    then s.roleTo 2 else s)

/-- SYNC_TIMEOUT (spec/10 R391). -/
def execSyncTimeout (s : State) : Out :=
  .next (if s.is F.RING_STATUS_SYNCED && decide (s.ring.timeAt + 3 * s.periodNs ≤ s.nowNs)
    then s.wr F.RING_STATUS_SYNCED 0 else s)

/-- PDM_TX_COMMIT (spec/10 R372): a write of 1 to COMMIT. -/
def State.pdmCommit (s : State) (m : Nat) : State := s.wr (F.PDM_TX_BANK_PENDING m) 1

/-- PDM_TX_COMMIT (spec/10 R372). -/
def execPdmTxCommit (m : Fin 64) (s : State) : Out := .next (s.whenOn (fun s => s.pdmCommit m.val))

/-! ### The loss of the reference (spec/14 R503) -/

/-- REF25_LOSS: the source changes to the crystal, and every port goes DOWN. -/
def execRef25Loss (s : State) : Out :=
  .next ((s.wr F.TMR_REF_REF25_OK 0).sourceFlags).portsRefresh.ringPortsDown

end Sys2Proof.Machine
end

