-- ==== Sys2Proof/Machine/Supply.lean ====
section
/-! DEFINITION. The supply loop, the thermal states and the halt of the data plane, standby (spec/15). -/

namespace Sys2Proof.Machine

/-! ### The halt of the data plane (spec/15 R539, R549) -/

/-- The bypass closes, and the device goes from CONFIG, RUN or HOLD to SAFE (spec/10 R344, spec/12 R440). -/
def State.tripSafe (s : State) : State :=
  let s := s.ringOff
  let d := s.devState
  if d = 1 || d = 2 || d = 3 then s.enterSafe else s

/-- Whether an address is that of an ACCT_INUSE register (spec/06 Table 6.7). -/
def acctInUseAddr (a : Nat) : Bool :=
  decide (A.ACCT_INUSE 0 0 ≤ a) && decide (a < A.ACCT_INUSE 16 0) && (a - A.ACCT_INUSE 0 0) % 16 == 0

/-- A pool without buffers: its layout unbuilt, its counts zero. -/
def State.poolLost (s : State) (p : Nat) : State :=
  (((((s.wr (F.POOL_STATUS_READY p) 0).wr (F.POOL_STATUS_BUILDING p) 0).wr (F.POOL_FREE_FREE p) 0).wr
    (F.POOL_LENT_COUNT p) 0).wr (F.POOL_RETIRED_COUNT p) 0).wr (F.POOL_INUSE_COUNT p) 0

/-- Every pool without buffers, and no account's use of one. -/
def State.poolsLost (s : State) : State :=
  let s := (List.range 16).foldl State.poolLost s
  { s with regs := s.regs.filter (fun (e : Nat × BitVec 32) => !acctInUseAddr e.1) }

/-- The data plane stops: the bypass closes, the device goes to SAFE, worker threads stop, VCORE goes off, and tasks, buffers
and memory contents are lost. (log entry 153, DEDUCED). -/
def State.haltDataPlane (s : State) (cause code data : Nat) : State :=
  let s := s.tripSafe.poolsLost
  let s := ((s.threads.map (·.1)).filter (fun t => !isPcore t)).foldl State.switchThread s
  let s := { s with
    threads := s.threads.filter (fun (e : Nat × Thread) => isPcore e.1)
    helpers := [], pools := [], tasks := [], txq := [], frames := [], caches := []
    icache := s.icache.filter (fun (e : Nat × OTable Word) => 48 ≤ e.1)
    bad := s.bad.filter (fun (e : Nat × Ecc) => mbusWindow ≤ e.1)
    mem := s.mem.filter (fun (e : Nat × Word) => mbusWindow ≤ e.1)
    sched := { s.sched with cpl := [], esc := [], escHeld := [] }
    field := { s.field with mem := { s.field.mem with lent := none } }
    vcoreOn := false
    loop := { s.loop with halted := true }
    out := s.out ++ [Output.vcore 0] }
  (((s.wr F.PWR_THERM_STAT_TRIPPED 1).wr F.PWR_THERM_STAT_CAUSE cause).offer 0x02 code data).pokeSend

/-! ### The supply loop (spec/15 R537 to R547) -/

/-- A voltage held within 600 to 900 mV. -/
def heldMv (mv : Nat) : Nat := clampTo 600 900 mv

/-- V_SAFE of a canary floor: plus 20 mV, rounded up to 5 mV (R537). (log entry 149, DESIGN CHOICE). -/
def safeOf (floor : Nat) : Nat := (floor + 20 + 4) / 5 * 5

/-- V_SAFE after a measurement: a rise at once, a fall by at most 5 mV (R538). -/
def nextSafe (old new : Nat) : Nat := if old ≤ new then new else max new (old - 5)

/-- What a decision comes to. -/
structure Decision where
  v : Nat
  limit : Bool
  conflict : Bool
  below : Bool
  deriving DecidableEq, Repr

/-- The procedure of spec/15 that bounds a candidate request `v`. -/
def bound (envMin envMax safe last v : Nat) (emerg up : Bool) : Decision :=
  let conflict := decide (envMin > envMax) || decide (safe > envMax)
  let ceil := if conflict then max envMax safe else envMax
  let floor := max envMin safe
  let floor := if conflict then min floor ceil else floor
  let floor := if emerg then safe else floor
  let v := if emerg then last - 5 else v
  let limit := decide (v > ceil) && up
  let v := max (min v ceil) floor
  ⟨v, limit, conflict, decide (v < envMin)⟩

/-- The candidate of SEEK: a step up, a step down, or the last request (R542). (log entry 148, DEDUCED). -/
def State.seek (s : State) (b f last : Nat) : Nat × Bool :=
  if s.rd F.PWR_UP_BACKLOG_COUNT ≤ b ∨ s.rd F.PWR_UP_FE_COUNT ≤ f then (last + 5, true)
  else if b ≤ s.rd F.PWR_DOWN_BACKLOG_COUNT ∧ f ≤ s.rd F.PWR_DOWN_FE_COUNT then (last - 5, false)
  else (last, false)

/-- Set a sticky bit of PWR_LOOP_STAT; the first time writes a recorder entry (R547). -/
def State.sticky (s : State) (on : Bool) (f : Fld) (code mv : Nat) : State :=
  if on && !s.is f then (s.wr f 1).offer 0x01 code mv else s

/-- A bit as a number. -/
def bnat (b : Bool) : Nat := if b then 1 else 0

/-- A decision of the loop on the present V_SAFE (R541 to R547). (log entry 150, DEDUCED). -/
def State.decideMv (s : State) : State :=
  let b := s.rd F.PWR_BACKLOG_PEAK
  let f := s.rd F.PWR_FE_PEAK
  let last := s.rd F.PWR_VCORE_MV
  let (v, up) := if s.is F.PWR_LOOP_CTL_MODE then s.seek b f last else (heldMv (s.rd F.PWR_FIXED_MV), false)
  let emerg := s.loop.zone == 2
  let d := bound (heldMv (s.rd F.PWR_ENV_MIN_MV)) (heldMv (s.rd F.PWR_ENV_MAX_MV)) (s.rd F.PWR_VSAFE_MV) last v emerg up
  let s := s.sticky d.conflict F.PWR_LOOP_STAT_ENVELOPE_CONFLICT 1 d.v
  let s := s.sticky d.limit F.PWR_LOOP_STAT_LIMIT 0 d.v
  let s := s.sticky d.below F.PWR_LOOP_STAT_BELOW_MIN 2 d.v
  let s := (s.wr F.PWR_LOOP_STAT_LIMIT_NOW (bnat d.limit)).wr F.PWR_LOOP_STAT_CONFLICT_NOW (bnat d.conflict)
  let s := (s.wr F.PWR_LOOP_STAT_EMERG_NOW (bnat emerg)).wr F.PWR_VCORE_MV d.v
  { s with out := s.out ++ [Output.vcore d.v] }

/-- A decision interval ends: the peaks are kept, V_SAFE is measured, and the loop decides or halts the data plane; it
takes the newest read-back and waits for none (R543), and makes no decision while station time holds (spec/14 R677). (log
entries 147, DEDUCED; 151, DEDUCED). -/
def State.loopDecision (s : State) (floor : Nat) : State :=
  if !s.mainOn || !s.vcoreOn || s.is F.PWR_THERM_STAT_TRIPPED || s.is F.TMR_REF_STOPPED ||
      (match s.loop.last with | some t => decide (s.nowNs < t + 100000) | none => false) then s
  else
    let s := (s.wr F.PWR_BACKLOG_PEAK (satTo 0x1FFFF s.loop.peakB)).wr F.PWR_FE_PEAK (satTo 0x1FFFF s.loop.peakF)
    let s := { s with loop := { s.loop with last := some s.nowNs, peakB := s.backlog, peakF := s.frames.length, used := s.loop.readback } }
    let safe := satTo 1023 (nextSafe (s.rd F.PWR_VSAFE_MV) (safeOf floor))
    let s := s.wr F.PWR_VSAFE_MV safe
    if safe > 900 then s.haltDataPlane 2 0x04 safe else s.decideMv

/-- LOOP_DECISION (spec/15 R541). -/
def execLoopDecision (floorMv : BitVec 10) (s : State) : Out := .next (s.loopDecision floorMv.toNat)

/-- A write of PWR_FIXED: until the first measurement of V_SAFE the loop requests it (R537), but not while station time holds
(spec/14 R677). -/
def State.writeFixed (s : State) (v : BitVec 32) : State :=
  let s := s.plainWrite A.PWR_FIXED v
  if s.vcoreOn && s.rd F.PWR_VSAFE_MV == 0 && !s.is F.TMR_REF_STOPPED then
    let mv := heldMv (s.rd F.PWR_FIXED_MV)
    if mv = s.rd F.PWR_VCORE_MV then s else { s.wr F.PWR_VCORE_MV mv with out := s.out ++ [Output.vcore mv] }
  else s

/-- Whether a read-back that has waited for a transfer of the I2C controller goes before the controller's next one: the PWR block
reads back while VCORE is on (spec/18 R660, spec/15 R543). (log entry 180, DEDUCED). -/
def State.pmbFirst (s : State) : Bool := s.host.pmbDue && s.mainOn && s.vcoreOn

/-- A read-back completes: not while the I2C controller holds the bus, nor while the PWR block stands (spec/18 R660). (log entry
180, DEDUCED). -/
def State.readBack (s : State) (mv : Nat) : State :=
  if !s.mainOn || !s.vcoreOn || (s.host.i2c.isSome && !s.host.pmbDue) then s
  else { s with loop := { s.loop with readback := some mv }, host := { s.host with pmbDue := false } }

/-- PMBUS_READBACK (spec/15 R543, spec/18 R660). -/
def execPmbusReadback (mv : BitVec 16) (s : State) : Out := .next (s.readBack mv.toNat)

/-! ### Thermal states (spec/15 R548, R549) -/

/-- A signed 16-bit reading. -/
def temp16 (v : Nat) : Int := if v % 65536 ≥ 32768 then (v % 65536 : Int) - 65536 else v % 65536

/-- The state that a temperature gives: 0 normal, 1 SOFT, 2 EMERG. -/
def zoneOf (soft t : Int) : Nat := if t ≥ 1100 then 2 else if t ≥ soft then 1 else 0

/-- The next state: a rise at the threshold, a fall 5 °C below it to the state of the temperature (R548). -/
def nextZone (soft : Int) (old : Nat) (t : Int) : Nat :=
  let z := zoneOf soft t
  if old ≤ z then z
  else if old ≥ 2 then (if t ≤ 1050 then z else old)
  else if t ≤ soft - 50 then z
  else old

/-- THERM_SOFT as it acts: 50 to 105 °C. -/
def State.softLimit (s : State) : Int := max 500 (min 1050 (temp16 (s.rd F.PWR_THERM_SOFT_TEMP)))

/-- A tile takes its new state; each threshold it reaches writes a recorder entry. (log entry 152, DEDUCED). -/
def State.tileZone (s : State) (tile : Nat) (t : Int) : State :=
  let old := s.tileTherm tile
  let new := nextZone s.softLimit old t
  let s := s.wr ⟨A.PWR_TILE_THERM, 2 * tile, 2⟩ new
  let s := if old < 1 ∧ 1 ≤ new then s.offer 0x02 0x01 tile else s
  if old < 2 ∧ 2 ≤ new then (s.offer 0x02 0x02 tile).eventBoth .therm else s

/-- Whether the trip of R549 has taken place and a sensor has stayed at THERM_TRIP since. -/
def State.tripStands (s : State) : Bool :=
  s.rd F.PWR_THERM_STAT_CAUSE == 1 && s.is F.PWR_THERM_STAT_TRIPPED &&
    (List.range 14).any (fun k => decide (temp16 (s.rd (F.PWR_TEMP_TEMP k)) ≥ 1250))

/-- The sensors are read (R548, R549). A sensor that reaches THERM_TRIP after a halt of R539, or anew, has the whole effect of
R549 again. (log entry 153, DEDUCED). -/
def State.thermal (s : State) (temps : List (BitVec 16)) : State :=
  let stands := s.tripStands
  let v : Nat → BitVec 16 := fun k => (temps[k]?).getD 0
  let t := fun k => temp16 (v k).toNat
  let s := (List.range 14).foldl (fun s k => s.wr (F.PWR_TEMP_TEMP k) (v k).toNat) s
  let top := (List.range 14).foldl (fun m k => if t k > t m then k else m) 0
  let s := s.wr F.PWR_TJ_MAX_TEMP (v top).toNat
  let s := (List.range 6).foldl (fun s i => s.tileZone i (max (t (2 * i)) (t (2 * i + 1)))) s
  let old := s.loop.zone
  let new := nextZone s.softLimit old (t top)
  let s := { s with loop := { s.loop with zone := new, hot := decide (t top ≥ 1100) } }
  let s := if old < 2 ∧ 2 ≤ new then s.eventBoth .therm else s
  match (List.range 14).find? (fun k => decide (t k ≥ 1250)) with
  | some k => if stands || !(s.mainOn || s.vcoreOn) then s.tripSafe else s.haltDataPlane 1 0x03 k
  | none => s

/-- THERMAL_SAMPLE (spec/15 R548, R549). -/
def execThermalSample (temps : List (BitVec 16)) (s : State) : Out :=
  if temps.length ≠ 14 then .fault .illFormed
  else .next (if s.phase == .standby then s else s.thermal temps)

/-! ### Standby (spec/15 R551 to R554) -/

/-- Whether every response to a STANDBY command has left the node (spec/12 R443): none is held behind others, and none stands in
the queue of its transport. -/
def State.replyLeft (s : State) : Bool :=
  s.dict.replies.all (fun x => x.after != .standby) && s.dict.leaving.all (fun x => x.after != .standby || s.leftNode x)

/-- Steps 1 and 2 of Sequence 15.1. -/
def State.standbyEntry (s : State) : State :=
  if !s.standby.asked || !s.mainOn || !s.replyLeft then s
  else
    let s := (s.enterState 5).disableIngress
    let s := if s.rstate = 3 then s.wr F.RING_STATUS_STATE 4 else s
    { s with
      phase := .entering
      standby := ⟨false, if s.rstate = 4 then none else some s.nowNs, none, false, 0, false, false⟩ }

/-- STANDBY_ENTRY (spec/15 R551). -/
def execStandbyEntry (s : State) : Out := .next s.standbyEntry

/-- A slot that is not empty writes a recorder entry and is discarded (spec/05 R200). -/
def State.postedLost (s : State) (e : Nat × Thread) : State :=
  match e.2.perr with
  | some p => s.offer (0x10 + tileOf e.1) 0x0D p.addr
  | none => s

/-- The levels of the uplink pins stand whatever the reset. -/
def State.keepPins (s old : State) (u : Nat) : State :=
  ((s.wr (F.UPL_STATUS_MOD_ABS u) (old.rd (F.UPL_STATUS_MOD_ABS u))).wr (F.UPL_STATUS_LOS u)
    (old.rd (F.UPL_STATUS_LOS u))).wr (F.UPL_STATUS_TX_FAULT u) (old.rd (F.UPL_STATUS_TX_FAULT u))

/-- What a reset of the main domains, or their loss of power, leaves (spec/16 Table 16.1): the always-on domain, the fuses,
the balls, the boundary port, and what outlives the manual's resets by its own rule. (log entry 156, DEDUCED). -/
def State.mainLost (s : State) (keepSessions : Bool) : State :=
  (({ State.reset with
    pending := s.pending
    regs := s.regs.filter (fun e => regAon e.1)
    out := s.out
    tap := s.tap
    dict := { Dict.init with sessions := if keepSessions then s.dict.sessions else [] }
    recorder := s.recorder
    acc := s.acc
    timers := s.timers
    chans := s.chans
    events := s.events
    timeBase := s.timeBase
    sioIn := s.sioIn
    ringRate := s.ringRate
    phase := .held
    vcoreOn := s.vcoreOn
    loop := { State.reset.loop with zone := 0, hot := s.loop.hot, halted := s.loop.halted }
    standby := { s.standby with asked := false }
    supply := s.supply
    boot := { Boot.init with otp := s.boot.otp, wrong := s.boot.wrong }
    field := { Field.init with flush := s.field.flush }
    freeCount := s.freeCount }.keepPins s 0).keepPins s 1).dropEvents

/-- Steps 5 and 6 of Sequence 15.1, after the records of the posted-error slots (R200): VCORE off, STBY_OUT high, the main domains
without power. (log entry 246, DESIGN CHOICE). -/
def State.standbyOff (s : State) : State :=
  let s := (s.threads.foldl State.postedLost s).offer 0x01 0x10 0
  let s := { s.ringOff with vcoreOn := false, out := s.out ++ [Output.vcore 0] }.mainLost false
  { s with phase := .standby, standby := { s.standby with out := true, outAt := s.nowNs } }

/-- The posted writes of each thread whose tile's timeout has passed since the drain of R200 began fail (spec/05 R195). -/
def State.standbyLateAll (s : State) : State := (s.threads.map (·.1)).foldl State.standbyLate s

/-- Whether every posted write has drained (spec/05 R195, R200). -/
def State.postedDrained (s : State) : Bool := s.threads.all (fun (e : Nat × Thread) => e.2.posted.isEmpty)

/-- The remaining tasks are lost (step 3 of Sequence 15.1): a thread that held one holds none. (log entry 154, DEDUCED). -/
def State.tasksLost (s : State) : State :=
  (s.threads.map (·.1)).foldl (fun s t => s.modTh t (fun x => { x with held := none, cancel := false })) { s with tasks := [] }

/-- Steps 3 to 6 of Sequence 15.1, as far as they have come: the tasks drain or DRAIN_MS passes, then the posted writes. (log
entry 154, DEDUCED). -/
def State.standbyDrainEnd (s : State) : State :=
  if s.phase != .entering || s.rstate == 4 then s
  else match s.standby.posted with
    | some _ => let s := s.standbyLateAll
      if s.postedDrained then s.standbyOff else s
    | none =>
      let late := match s.standby.drainAt with
        | some t => decide (t + s.rd F.PWR_SBY_CTL_DRAIN_MS * 1000000 ≤ s.nowNs)
        | none => false
      if s.tasks.isEmpty || late then
        let s := { s.tasksLost with standby := { s.standby with posted := some s.nowNs } }.pokeSend
        if s.postedDrained then s.standbyOff else s
      else s

/-- STANDBY_DRAIN_END (spec/15 R551). -/
def execStandbyDrainEnd (s : State) : Out := .next s.standbyDrainEnd

/-- WAKE_N_ASSERT (spec/15 R553). -/
def execWakeNAssert (s : State) : Out := .next (if s.is F.PWR_WAKE_EN_PIN then s.latchWake 1 0 else s)

/-- STBY_MIN_EXPIRY (spec/15 R552, R553). -/
def execStbyMinExpiry (s : State) : Out :=
  .next (if s.standby.out && s.standby.wake && decide (s.standby.outAt + 2000000 ≤ s.nowNs)
    then { s with standby := { s.standby with out := false } } else s)

end Sys2Proof.Machine
end

