-- ==== Sys2Proof/Machine/Reset.lean ====
section
/-! DEFINITION. Resets of the main domains, the always-on domain and the Puppeteer cores, the watchdog, the fuses and the
life-cycle states (spec/16). -/

namespace Sys2Proof.Machine

/-! ### The fuses (spec/16 R574 to R576) -/

/-- A fuse word: its factory bits and the bits programmed since. -/
def State.otpWord (s : State) (k : Nat) : BitVec 32 :=
  (if k < 32 then Config.otpFactory k else 0) ||| tget (fun _ => 0) s.boot.otp k

/-- The checks of R576. -/
def State.fuseReady (s : State) : Bool := s.supply.pfailHigh && s.supply.fuseOk

/-- Program a word to a target; the answer tells whether it verifies. (log entry 160, DEDUCED). -/
def State.otpProgram (s : State) (k : Nat) (target stuck : BitVec 32) : State × Bool :=
  let old := s.otpWord k
  let add := target &&& ~~~stuck
  let tab := tset (fun _ => (0 : BitVec 32)) s.boot.otp k (tget (fun _ => (0 : BitVec 32)) s.boot.otp k ||| add)
  ({ s with boot := { s.boot with otp := tab } }, old ||| add == target)

/-- The bits of word `k` that do not program. -/
def stuckAt (stuck : Option (BitVec 8 × BitVec 32)) (k : Nat) : BitVec 32 :=
  match stuck with
  | some (w, m) => if w.toNat = k then m else 0
  | none => 0

/-- Program words in turn, up to the first that does not verify. -/
def State.otpWords (s : State) (stuck : Option (BitVec 8 × BitVec 32)) : List (Nat × BitVec 32) → State × Bool
  | [] => (s, true)
  | (k, v) :: r => match s.otpProgram k v (stuckAt stuck k) with
    | (s, true) => s.otpWords stuck r
    | (s, false) => (s, false)

/-- The secret words, which no register returns (R575). -/
def otpSecret (k : Nat) : Bool := (0x10 ≤ k && k < 0x20) || (0x68 ≤ k && k < 0x88)

/-- SYS_OTP_DATA (Table 16.3). -/
def State.otpData (s : State) : BitVec 32 :=
  let k := s.rd F.SYS_OTP_ADDR_WORD
  if otpSecret k then 0 else s.otpWord k

/-! ### Life-cycle states (spec/16 R577 to R579) -/

/-- The number of three copies that hold a value. -/
def State.copies (s : State) (k : Nat) (v : BitVec 32) : Nat :=
  ([k, k + 1, k + 2].filter (fun w => s.otpWord w == v)).length

/-- The first word of INTENT_k and of DONE_k, and their patterns. -/
def intentAt (k : Nat) : Nat := 0x20 + 6 * (k - 1)
def doneAt (k : Nat) : Nat := intentAt k + 3
def intentWord (k : Nat) : BitVec 32 := BitVec.ofNat 32 (0x4C490000 + k)
def doneWord (k : Nat) : BitVec 32 := BitVec.ofNat 32 (0x4C440000 + k)

/-- INTENT_k counts as present: its copies are PRESENT or UNDECIDED. -/
def State.intent (s : State) (k : Nat) : Bool :=
  2 ≤ s.copies (intentAt k) (intentWord k) || s.copies (intentAt k) 0 < 2

/-- DONE_k is PRESENT. -/
def State.done (s : State) (k : Nat) : Bool := 2 ≤ s.copies (doneAt k) (doneWord k)

/-- The life-cycle state that the fuses give. -/
def State.lcState (s : State) : Nat :=
  if s.done 4 then 4 else if s.done 3 then 3 else if s.done 2 then 2 else if s.done 1 then 1 else 0

/-- The target of the pending transition, 0 for none. -/
def State.lcPending (s : State) : Nat :=
  let p := fun k => s.intent k && !s.done k && decide (s.lcState < k)
  if p 4 then 4 else if p 3 then 3 else if p 2 then 2 else if p 1 then 1 else 0

/-- Whether a life-cycle state admits a role's sessions, and a debug level (Table 16.4). -/
def lcRole (lc role : Nat) : Bool := ((lc == 1 || lc == 2) && decide (role ≤ 2)) || (lc == 3 && role == 3)
def lcLevel (lc level : Nat) : Bool := level == 0 || (decide (lc ≤ 2) && level == 1) || (lc == 3 && level == 2)

/-- The life-cycle state allows what Table 16.4 states: a debug level and sessions kept over a debug reset end where a
roll-forward reaches a state that does not admit them. (log entry 212, DEDUCED). -/
def State.lcAdmit (s : State) : State :=
  let lc := s.lcState
  let s := { s with dict := { s.dict with sessions := s.dict.sessions.filter (fun (e : Nat × Session) => lcRole lc e.2.role) } }
  if lcLevel lc (s.rd F.SYS_DBG_STAT_LEVEL) then s else s.wr F.SYS_DBG_STAT_LEVEL 0

/-- SYS_LC shows what the fuses give. -/
def State.lcShow (s : State) : State := ((s.wr F.SYS_LC_STATE s.lcState).wr F.SYS_LC_PENDING s.lcPending).lcAdmit

/-- The three copies of a word. -/
def three (k : Nat) (v : BitVec 32) : List (Nat × BitVec 32) := [(k, v), (k + 1, v), (k + 2, v)]

/-- Whether a transition is permitted. -/
def lcPermitted (from_ dest : Nat) : Bool :=
  (from_ == 1 && dest == 2) || (from_ == 2 && dest == 3) || (from_ < 4 && dest == 4)

/-- A refused life-cycle command. -/
def State.lcRefuse (s : State) (cause : Nat) : State := (s.wr F.SYS_LC_CMD_ERR 1).wr F.SYS_LC_ERR_CAUSE cause

/-- A write of target `k` to SYS_LC_CMD (R578). (log entry 161, DEDUCED). -/
def State.lcCommand (s : State) (k : Nat) (stuck : Option (BitVec 8 × BitVec 32)) : State :=
  let s := { s with kick := false }
  if !lcPermitted (s.rd F.SYS_LC_STATE) k || s.lcPending != 0 || k < 2 then s.lcRefuse 2
  else if !s.fuseReady then s.lcRefuse 1
  else match s.otpWords stuck (three (intentAt k) (intentWord k)) with
    | (s, true) => { s.lcShow with boot := { s.boot with lcAt := some s.nowNs } }
    | (s, false) => s.lcShow.lcRefuse 3

/-- LC_CMD (spec/16 R578). -/
def execLcCmd (v : BitVec 32) (stuck : Option (BitVec 8 × BitVec 32)) (s : State) : Out :=
  .next (s.whenOn (fun s => s.lcCommand (v.toNat % 8) stuck))

/-! ### Resets (spec/16 R560 to R563, Table 16.1) -/

/-- How far a reset of the main domains reaches. -/
inductive Reset where
  | cold | warm | debug
  deriving DecidableEq, Repr

/-- A reset of the main domains begins (Table 16.1): `bit` is its bit of SYS_RST_CAUSE. The data plane stays halted, and
PWR_THERM_STAT says so, but for PORST_n and SYSRST_n (spec/15 R550). (log entry 213, DEDUCED). -/
def State.mainReset (s : State) (kind : Reset) (bit : Nat) (clearLock : Bool := false) : State :=
  let level := s.rd F.SYS_DBG_STAT_LEVEL
  let lockout := s.rd F.SYS_DBG_STAT_LOCKOUT
  let was := if s.phase = .standby then 5 else s.devState
  let s := if was = 0 then s else s.offer 0x30 0 was
  let s := if s.phase = .standby && !s.standby.wake then
    (s.wr F.PWR_WAKE_CAUSE_CAUSE 0).wr F.PWR_WAKE_CAUSE_NUMBER 0 else s
  let waking := s.standby.waking || (s.phase == .standby && s.standby.wake)
  let halted := s.loop.halted && bit != 1 && bit != 2
  let trip := (s.reg A.PWR_THERM_STAT)
  let s := s.ringOff.mainLost (kind == .debug)
  let s := { s with loop := { s.loop with halted := halted } }
  let s := if halted then s.setReg A.PWR_THERM_STAT trip else s
  let s := s.wr ⟨A.SYS_RST_CAUSE, bit, 1⟩ 1
  let s := if kind = .debug then s.wr F.SYS_DBG_STAT_LEVEL level else s
  let s := if clearLock then { s with boot := { s.boot with wrong := 0 } } else s.wr F.SYS_DBG_STAT_LOCKOUT lockout
  { s with standby := ⟨false, none, none, false, 0, false, waking⟩ }

/-- Whether a low pulse of `ns` on a reset pin asserts the reset (R561). (log entry 155, DESIGN CHOICE). -/
def State.pulseResets (s : State) (ns : Nat) : State × Bool :=
  if ns < 100 then (s, false)
  else if 1000 ≤ ns then (s, true)
  else let (k, s) := s.fresh
       (s, Config.glitch k)

/-- PORST_N_ASSERT (spec/16 R560, R561, R590). In standby the main domains have no power, and PORST_n falls before their
rails do (R559): the cold start that ends standby is that of PORST_N_RELEASE. -/
def execPorstNAssert (ns : BitVec 32) (s : State) : Out :=
  .next (match s.pulseResets ns.toNat with
    | (s, true) => if s.phase = .standby then s else s.mainReset .cold 1 true
    | (s, false) => s)

/-- SYSRST_N_ASSERT (spec/16 R560, R561). -/
def execSysrstNAssert (ns : BitVec 32) (s : State) : Out :=
  .next (match s.pulseResets ns.toNat with
    | (s, true) => if s.phase = .standby then s else s.mainReset .warm 2
    | (s, false) => s)

/-- A port's intervals as station time begins anew `n` ns later. -/
def RPort.rebase (x : RPort) (n : Nat) : RPort :=
  { x with since := x.since - n, ackAt := x.ackAt.map (· - n), breakAt := x.breakAt.map (· - n), lost := x.lost.map (· - n) }

/-- A drain's interval as station time begins anew `n` ns later. -/
def Thread.rebase (x : Thread) (n : Nat) : Thread :=
  match x.wait with
  | some (.drain k (some t)) => { x with wait := some (.drain k (some (t - n))) }
  | _ => x

/-- Station time begins anew at 0: an interval that ends at a known time ends as much later as before, one that has begun
begins now, and the scrubbers' passes go on. (log entry 214, DESIGN CHOICE). -/
def State.rebase (s : State) : State :=
  let n := s.nowNs
  let later := fun (t : Nat) => t - n
  { s with
    scrub := { s.scrub with start := s.scrub.start - n }
    patrols := s.patrols.map (fun (e : Nat × Patrol) => (e.1, { e.2 with start := e.2.start - n }))
    ceLast := []
    threads := s.threads.map (fun (e : Nat × Thread) => (e.1, e.2.rebase n))
    audit := ⟨s.audit.next.map later⟩
    pauseAt := []
    pauseEnd := (s.pauseEnd.map (fun (e : Nat × Nat) => (e.1, e.2 - s.acc))).filter (fun (e : Nat × Nat) => e.2 != 0)
    cls := { s.cls with follow := s.cls.follow.map (fun (e : Follow) => { e with made := later e.made }) }
    ring := { s.ring with
      since := later s.ring.since, heard := later s.ring.heard, timeAt := later s.ring.timeAt
      ports := s.ring.ports.map (fun (e : Nat × RPort) => (e.1, e.2.rebase n)) }
    dict := { s.dict with
      sessions := s.dict.sessions.map (fun (e : Nat × Session) => (e.1, { e.2 with at_ := later e.2.at_ }))
      fwd := s.dict.fwd.map (fun (e : FwdItem) => { e with at_ := later e.at_ })
      reset := s.dict.reset.map (fun (e : Nat × Nat) => (e.1, later e.2)) }
    loop := { s.loop with last := s.loop.last.map later }
    standby := { s.standby with
      drainAt := s.standby.drainAt.map later, posted := s.standby.posted.map later, outAt := later s.standby.outAt }
    boot := { s.boot with lcAt := s.boot.lcAt.map later }
    field := { s.field with
      test := { s.field.test with began := later s.field.test.began }, mem := { s.field.mem with ms := 0, loans := 0 } }
    acc := 0 }

/-- The always-on domain takes its reset values (spec/00 R16, spec/14 Table 14.2, R676): both source flags are 0 until they
qualify again, so every port goes DOWN. (log entry 158, DEDUCED). -/
def State.aonReset (s : State) : State :=
  { s.rebase with
    regs := s.regs.filter (fun e => !regAon e.1)
    timers := [], chans := [], events := []
    timeBase := State.reset.timeBase
    recorder := State.reset.recorder }.portsRefresh.ringPortsDown

/-- ALWAYS_ON_POWER_RESET (spec/16 Table 16.1): every domain; the fuses and the levels at the balls stand. (log entry 157,
DEDUCED). -/
def execAlwaysOnPowerReset (s : State) : Out :=
  .next { State.reset with
    pending := s.pending, out := s.out, sioIn := s.sioIn
    boot := { Boot.init with otp := s.boot.otp }
    supply := { s.supply with vio18 := false, fuseOk := false }
    freeCount := s.freeCount }

/-- A write to SYS_AON_RST (spec/16 Table 16.1): 0xA0A0 in CONFIG, and by a debug WRITE. -/
def State.writeAonRst (s : State) (v : BitVec 32) (debug : Bool) : State :=
  let s := { s with kick := false }
  if v.toNat % 65536 = 0xA0A0 && (debug || s.inConfig) then s.aonReset else s

/-- SYS_AON_RST (spec/16 R560). -/
def execSysAonRst (v : BitVec 32) (s : State) : Out := .next (s.whenOn (fun s => s.writeAonRst v false))

/-! ### Puppeteer cores (spec/16 R563, R679) -/

/-- The entry of core `c`. -/
def State.coreEntry (s : State) (c : Nat) : Nat :=
  s.pair (F.SYS_PCORE_ENTRY_LO_ENTRY c) (F.SYS_PCORE_ENTRY_HI_ENTRY c) / 4 * 4

/-- Core `c` starts at its entry with registers cleared, its events those whose cause stands (spec/18 R658, spec/12 R461); at
0x1000_0000 it waits in the boot ROM (R679). (log entry 30, DEDUCED). -/
def State.startCore (s : State) (c : Nat) : State :=
  let e := s.coreEntry c
  s.setTh (192 + c) { Thread.init (192 + c) with
    pc := e, life := if e = 0x10000000 then Life.offline else Life.running, evpend := s.standing (192 + c) }

/-- Core `c` is held in reset; what the boot ROM did on P-core 0 ends (R679). -/
def State.holdCore (s : State) (c : Nat) : State :=
  let s := s.setTh (192 + c) { Thread.init (192 + c) with evpend := s.standing (192 + c) }
  if c = 0 then { s.wr F.DICT_FW_CTL_READY 0 with boot := { s.boot with serving := false } } else s

/-- The boot ROM starts on P-core 0: the reset's record, and the life-cycle words (R562, step 6 of Sequence 16.2). -/
def State.romStart (s : State) : State :=
  let cause := (s.reg A.SYS_RST_CAUSE).toNat
  let low := ((List.range 8).find? (fun i => cause.testBit i)).getD 0
  (s.offer 0x00 low cause).lcShow

/-- Whether P-core 1 is out of its reset. -/
def State.freeCore1 (s : State) (b : Bool) : State := { s with boot := { s.boot with free1 := b } }

/-- Whether an exchange of firmware holds core `c` in reset until its step 4 (spec/17 R625). -/
def State.exchHolds (s : State) (c : Nat) : Bool := s.field.exch.any (·.target == c)

/-- A Puppeteer core is reset (R563, R679); P-core 1 stays held until RUN_1, and the target of an exchange until that releases
it (spec/17 R625). (log entry 52, DEDUCED). -/
def State.resetCore (s : State) (c : Nat) : State :=
  let s := s.holdCore c
  if s.exchHolds c then s
  else if c = 0 then
    let s := if s.boot.romHalt then { s with boot := { s.boot with romHalt := false } }.romStart else s
    s.startCore 0
  else if s.is F.SYS_PCORE_CTL_RUN_1 then s.startCore 1 else s.freeCore1 false

/-- A write to SYS_PCORE_RST. -/
def State.writePcoreRst (s : State) (v : BitVec 32) : State :=
  let s := { s with kick := false }
  let s := if v.toNat.testBit 0 then s.resetCore 0 else s
  if v.toNat.testBit 1 then s.resetCore 1 else s

/-- PCORE_RESET (spec/16 R563). -/
def execPcoreReset (v : BitVec 32) (s : State) : Out := .next (s.whenOn (fun s => s.writePcoreRst v))

/-- A write to SYS_PCORE_CTL: RUN_1 releases P-core 1 from its reset; one that runs, or waits in the boot ROM, goes on
(R679). -/
def State.writePcoreCtl (s : State) (v : BitVec 32) : State :=
  let s := { s with kick := false }.plainWrite A.SYS_PCORE_CTL v
  if !s.boot.free1 && s.is F.SYS_PCORE_CTL_RUN_1 then (s.freeCore1 true).startCore 1 else s

/-- PCORE_RUN_1 (spec/16 R563, Table 16.8). -/
def execPcoreRun1 (v : BitVec 32) (s : State) : Out := .next (s.whenOn (fun s => s.writePcoreCtl (v ||| 2)))

/-! ### The watchdog (spec/16 R564) -/

/-- A write to SYS_WDT_KICK: 0x5A, then 0xA5 with no other SYS write between, restarts the count. -/
def State.wdtKick (s : State) (v : BitVec 32) : State :=
  let b := v.toNat % 256
  if b = 0xA5 && s.kick then { s with wdt := 0, kick := false }
  else { s with kick := b == 0x5A }

/-- WATCHDOG_KICK (spec/16 R564). -/
def execWatchdogKick (v : BitVec 32) (s : State) : Out := .next (s.whenOn (fun s => s.wdtKick v))

/-- A write to SYS_WDT_CTL: EN stays 1 once set. -/
def State.writeWdtCtl (s : State) (v : BitVec 32) : State :=
  let en := s.rd F.SYS_WDT_CTL_EN
  let s := { s with kick := false }.plainWrite A.SYS_WDT_CTL v
  if en = 1 then s.wr F.SYS_WDT_CTL_EN 1 else s

/-- WATCHDOG_EXPIRY (spec/16 R564). -/
def execWatchdogExpiry (s : State) : Out :=
  .next (if s.mainOn && s.is F.SYS_WDT_CTL_EN &&
      decide (max 1 (s.rd F.SYS_WDT_CTL_TIMEOUT_MS) * 1000000 * tUnit ≤ s.wdt)
    then s.mainReset .warm 3 else s)

/-- LC_RESET_BEGIN (spec/16 R578). -/
def execLcResetBegin (s : State) : Out :=
  .next (match s.boot.lcAt with
    | some t => if t + 1000000 ≤ s.nowNs then s.mainReset .warm 7 else s
    | none => s)

/-! ### Revocation and rollback (spec/16 R585, R586) -/

/-- Whether key slot `n` holds a hash. -/
def State.slotHash (s : State) (n : Nat) : List (BitVec 32) :=
  (List.range 8).map (fun i => s.otpWord ((if n = 4 then 0x08 else 0x40 + 8 * n) + i))

/-- Whether key slot `n` is revoked. -/
def State.revoked (s : State) (n : Nat) : Bool := (s.otpWord 0x61).toNat.testBit n

/-- Whether key slot `n` can verify an image. -/
def State.slotLive (s : State) (n : Nat) : Bool := (s.slotHash n).any (fun w => w != 0) && !s.revoked n

/-- The consecutive 1 bits of a word, from bit 0. -/
def onesFrom (v : Nat) : Nat → Nat
  | 0 => 0
  | n + 1 => if v % 2 = 1 then 1 + onesFrom (v / 2) n else 0

/-- The rollback count (R586). -/
def State.rollback (s : State) : Nat := onesFrom (s.otpWord 0x62).toNat 32

/-- A refused fuse operation. -/
def State.otpRefuse (s : State) (cause : Nat) : State := (s.wr F.SYS_OTP_STAT_ERR 1).wr F.SYS_OTP_STAT_CAUSE cause

/-- A write to SYS_OTP_OP (R585); one while an operation runs is ignored. (log entry 166, DEDUCED). -/
def State.otpOp (s : State) (v : BitVec 32) : State :=
  let s := { s with kick := false }
  let op := v.toNat % 4
  let slot := bits v.toNat 8 2
  let lc := s.rd F.SYS_LC_STATE
  if s.is F.SYS_OTP_STAT_BUSY || (op != 1 && op != 2) then s
  else
    let refused := !(lc == 1 || lc == 2) ||
      (if op = 1 then !((List.range 4).any (fun n => n != slot && s.slotLive n)) else decide (s.boot.sec < s.rollback + 1))
    if refused then s.otpRefuse 2
    else if !s.fuseReady then s.otpRefuse 1
    else
      let job : Nat × BitVec 32 := if op = 1 then (0x61, s.otpWord 0x61 ||| (1#32 <<< slot))
        else (0x62, s.otpWord 0x62 ||| (1#32 <<< s.rollback))
      { s.wr F.SYS_OTP_STAT_BUSY 1 with boot := { s.boot with otpOp := some job } }

/-- REVOKE (spec/16 R585). -/
def execRevoke (v : BitVec 32) (s : State) : Out :=
  .next (s.whenOn (fun s => s.otpOp (BitVec.ofNat 32 (putBits v.toNat 0 2 1))))

/-- ROLLBACK_INC (spec/16 R585). -/
def execRollbackInc (v : BitVec 32) (s : State) : Out :=
  .next (s.whenOn (fun s => s.otpOp (BitVec.ofNat 32 (putBits v.toNat 0 2 2))))

/-- The operation of SYS_OTP_OP ends (R576). -/
def State.otpDone (s : State) (stuck : BitVec 32) : State :=
  match s.boot.otpOp with
  | none => s
  | some (k, v) =>
    let s := { s.wr F.SYS_OTP_STAT_BUSY 0 with boot := { s.boot with otpOp := none } }
    if !s.fuseReady then s.otpRefuse 1
    else match s.otpProgram k v stuck with
      | (s, true) => s
      | (s, false) => s.otpRefuse 3

/-- OTP_OPERATION_DONE (spec/16 R576). -/
def execOtpOperationDone (stuck : BitVec 32) (s : State) : Out := .next (s.otpDone stuck)

end Sys2Proof.Machine
end

