-- ==== Sys2Proof/Machine/Boot.lean ====
section
/-! DEFINITION. Boot: images and their checks, slots, the life-cycle roll-forward, recovery and provisioning (spec/16). -/

namespace Sys2Proof.Machine

/-! ### Images (spec/16 R567, R568) -/

/-- Four bytes, big-endian. -/
def quadOf (bs : List Byte) (n : Nat) : Nat := beNat ((bs.drop n).take 4)

/-- A segment of an image. -/
structure Seg where
  dest : Nat
  len : Nat
  off : Nat
  deriving DecidableEq, Repr

/-- The header fields of an image (Table 16.2). -/
def imgVersion (b : List Byte) : Nat := quadOf b 8
def imgSec (b : List Byte) : Nat := quadOf b 12
def imgTotal (b : List Byte) : Nat := quadOf b 16
def imgCount (b : List Byte) : Nat := byteAt b 20
def imgKey (b : List Byte) : Nat := byteAt b 21
def imgEntry (b : List Byte) : Nat := beNat ((b.drop 24).take 8)
def imgSegs (b : List Byte) : List Seg :=
  (List.range (imgCount b)).map (fun i =>
    ⟨beNat ((b.drop (128 + 16 * i)).take 8), quadOf b (136 + 16 * i), quadOf b (140 + 16 * i)⟩)

/-- The Puppeteer-map key of a loadable byte: management, ingot or tile memory (check 4). -/
def loadKey (mgmtOnly : Bool) (a n : Nat) : Option Nat :=
  if a + n ≤ 0x78000 then some (mbusWindow + a)
  else if mgmtOnly then none
  else if 0x100000000 ≤ a ∧ a + n ≤ 0x101000000 then some (a - 0x100000000)
  else if 0x110000000 ≤ a ∧ a + n ≤ 0x110600000 then some (a - 0x100000000)
  else none

/-- No two destinations overlap. -/
def apart : List Seg → Bool
  | [] => true
  | g :: r => r.all (fun h => !overlap g.dest g.len h.dest h.len) && apart r

/-- Check 1: the header. -/
def imgCheck1 (b : List Byte) : Bool :=
  quadOf b 0 == 0x53565849 && halfAt b 4 == 1 && halfAt b 6 == 128 && decide (1 ≤ imgCount b) && decide (imgCount b ≤ 16)
    && decide (imgTotal b + 64 ≤ 0x800000) && decide (imgTotal b + 64 ≤ b.length) && decide (128 ≤ b.length)

/-- Check 2: the key slot and its hash. -/
def State.imgCheck2 (s : State) (b : List Byte) : Bool :=
  let k := imgKey b
  let lc := s.rd F.SYS_LC_STATE
  let admitted := ((lc == 1 || lc == 2) && decide (k ≤ 3)) || (lc == 3 && k == 4)
  admitted && !s.revoked k && sha256 ((b.drop 32).take 64) == (s.slotHash k).flatMap (fun w => beBytes 4 w.toNat)

/-- Check 3: rollback. -/
def State.imgCheck3 (s : State) (b : List Byte) : Bool :=
  s.rd F.SYS_LC_STATE != 2 || decide (s.rollback ≤ imgSec b)

/-- Check 4: the segments. -/
def imgCheck4 (mgmtOnly : Bool) (b : List Byte) : Bool :=
  (imgSegs b).all (fun g => decide (128 + 16 * imgCount b ≤ g.off) && decide (g.off + g.len ≤ imgTotal b)
    && g.dest % 8 == 0 && g.len % 8 == 0 && (loadKey mgmtOnly g.dest g.len).isSome) && apart (imgSegs b)

/-- Check 5: ENTRY. -/
def imgCheck5 (b : List Byte) : Bool :=
  imgEntry b % 4 == 0 && (imgSegs b).any (fun g => decide (g.dest < 0x78000) && decide (g.dest ≤ imgEntry b)
    && decide (imgEntry b < g.dest + g.len))

/-- Check 6: the signature. -/
def imgCheck6 (b : List Byte) : Bool :=
  let t := imgTotal b
  ecdsaOk (beNat ((b.drop 32).take 32)) (beNat ((b.drop 64).take 32)) (beNat (sha256 (b.take t)))
    (beNat ((b.drop t).take 32)) (beNat ((b.drop (t + 32)).take 32))

/-- The number of the first check of R568 that fails; 0 for none. -/
def State.imageFail (s : State) (mgmtOnly : Bool) (b : List Byte) : Nat :=
  if !imgCheck1 b then 1 else if !s.imgCheck2 b then 2 else if !s.imgCheck3 b then 3
  else if !imgCheck4 mgmtOnly b then 4 else if !imgCheck5 b then 5 else if !imgCheck6 b then 6 else 0

/-- The bytes of a segment. -/
def segBytes (b : List Byte) (g : Seg) : List Byte := (b.drop g.off).take g.len

/-- Load bytes at their Puppeteer-map destinations, as native words with tag DATA. -/
def State.loadSegs (s : State) : List (Nat × List Byte) → State
  | [] => s
  | (d, bs) :: r => match loadKey false d bs.length with
    | some k => (s.portWrite k bs).loadSegs r
    | none => s.loadSegs r

/-- Write zeros over every destination that a rejected candidate wrote (R569). -/
def State.clearSegs (s : State) (b : List Byte) : State :=
  if !imgCheck1 b then s
  else s.loadSegs (((imgSegs b).filter (fun g => g.dest % 8 == 0 && (loadKey false g.dest g.len).isSome)).map
    (fun g => (g.dest, List.replicate g.len 0)))

/-- Firmware starts at the image's ENTRY on P-core 0. -/
def State.enter (s : State) (b : List Byte) : State :=
  let e := imgEntry b
  let s := s.loadSegs ((imgSegs b).map (fun g => (g.dest, segBytes b g)))
  let s := (s.wr F.SYS_BOOT_VER_VERSION (imgVersion b)).wrPair (F.SYS_PCORE_ENTRY_LO_ENTRY 0) (F.SYS_PCORE_ENTRY_HI_ENTRY 0) e
  let s := { s with phase := .up, boot := { s.boot with sec := imgSec b } }
  let x := s.th 192
  s.setTh 192 { Thread.init 192 with pc := e, life := .running, evpend := x.evpend, evmask := x.evmask }

/-! ### The boot flash (spec/16 R566) -/

/-- Four bytes, little-endian, as JESD216 lays out a DWORD. -/
def dwordOf (bs : List Byte) (n : Nat) : Nat := leNat ((bs.drop n).take 4)

/-- Single mode: command 0x03, 3-byte addressing, 12.5 MHz. -/
def singleRead : FlashRead := ⟨0x03, 3, 0, false, 12500, 0, 0⟩

/-- The place of the basic parameter table where the SFDP header is valid. (log entry 215, PRESUMED). -/
def sfdpTable (b : List Byte) : Option Nat :=
  if dwordOf b 0 == 0x50444653 && byteAt b 5 == 1 && byteAt b 8 == 0 && byteAt b 10 == 1 && byteAt b 15 == 0xFF
      && decide (9 ≤ byteAt b 11) then some (leNat ((b.drop 12).take 3)) else none

/-- The read that the SFDP table gives: the 1-1-4 fast read with its command, address bytes and dummy cycles, where the table is
valid and has it. (log entry 215, PRESUMED). -/
def sfdpRead (b : List Byte) : FlashRead :=
  match sfdpTable b with
  | none => singleRead
  | some p =>
    let d1 := dwordOf b p
    let d3 := dwordOf b (p + 8)
    if b.length < p + 36 || !d1.testBit 22 then singleRead
    else ⟨bits d3 24 8, if bits d1 17 2 = 2 then 4 else 3, bits d3 16 5 + bits d3 21 3, true, 50000, 0, 0⟩

/-- The boot ROM reads the boot flash. -/
def State.flashRead (s : State) (r : FlashRead) (addr len : Nat) : State :=
  { s with out := s.out ++ [Output.flashRead { r with addr := addr, len := len }] }

/-- The flash is discovered (step 7): the SFDP header, then the table that it points to. -/
def State.discover (s : State) (b : List Byte) : State :=
  let r : FlashRead := ⟨0x5A, 3, 8, false, 12500, 0, 0⟩
  let s := s.flashRead r 0 16
  match sfdpTable b with
  | some p => s.flashRead r p (4 * byteAt b 11)
  | none => s

/-! ### Boot (spec/16 R565 to R572) -/

/-- The fill: every word of ingot, tile, scratch and management memory takes 0 with tag DATA, and no error stays in it
(spec/02 R50). -/
def State.memFill (s : State) : State :=
  let sdram := fun (k : Nat) => decide (0x1000000000 ≤ k) && decide (k < mbusWindow)
  { s with mem := s.mem.filter (fun (e : Nat × Word) => sdram e.1), bad := s.bad.filter (fun (e : Nat × Ecc) => sdram e.1) }

/-- The reset that ends was that of PORST_n at power-up where it set no cause bit of its own (Sequence 16.1, R562). (log entry 157,
DEDUCED). -/
def State.powerUpCause (s : State) : State :=
  if s.rd F.SYS_RST_CAUSE_CAUSE / 2 = 0 then s.wr ⟨A.SYS_RST_CAUSE, 1, 1⟩ 1 else s

/-- PORST_N_RELEASE: steps 1 to 6 of Sequence 16.2 up to the classification of the life-cycle words; in standby it is the
cold start that ends it (spec/15 R554, Sequence 15.2). VCORE is turned on but where the data plane stays halted, and not
while the device is hot (spec/15 R550). Matches that have fallen due by now are no tasks (spec/14 R522). (log entries 4,
DESIGN CHOICE; 159, DEDUCED). -/
def State.releaseReset (s : State) : State :=
  if !s.supply.vsd || !s.supply.vio18 then s
  else
    let s := if s.phase = .standby then s.mainReset .cold 1 true else s
    if s.phase != .held || (!s.vcoreOn && !s.loop.halted && s.loop.hot) then s
    else
      let mv := heldMv (s.rd F.PWR_FIXED_MV)
      let s := s.settleAll.memFill
      let s := if s.loop.halted then s else { s with vcoreOn := true, out := s.out ++ [Output.vcore mv] }
      let s := { (s.wr F.PWR_VCORE_MV mv).wr F.SYS_LC_STATE s.lcState with
        phase := .boot, timeBase := { s.timeBase with released := s.nowNs }
        scrub := ⟨s.is F.MEMECC_CTRL_INGOT_SCRUB_EN, 0, s.nowNs⟩ }
      let s := s.wakeRecord
      let s := s.powerUpCause
      if s.boot.romHalt then s else s.romStart

/-- PORST_N_RELEASE (spec/16 R565, R680). -/
def execPorstNRelease (s : State) : Out := .next s.releaseReset

/-- Whether the boot ROM can go on with the boot: in BOOT, P-core 0 not HALTED (spec/17 R609), no fault. -/
def State.booting (s : State) : Bool :=
  s.phase == .boot && s.devState == 0 && (s.th 192).life != .halted && !s.is F.SYS_LC_FAULT

/-- OK and TRY of a slot. -/
def slotOk (slot : Nat) : Fld := if slot = 0 then F.SYS_BOOT_TRY_OK_A else F.SYS_BOOT_TRY_OK_B
def slotTry (slot : Nat) : Fld := if slot = 0 then F.SYS_BOOT_TRY_TRY_A else F.SYS_BOOT_TRY_TRY_B
def slotFail (slot : Nat) : Fld := if slot = 0 then F.SYS_BOOT_FAIL_A else F.SYS_BOOT_FAIL_B

/-- A field of BOOT_CFG with its value while blank. -/
def State.bootCfg (s : State) (lo n blank : Nat) : Nat :=
  let v := bits (s.otpWord 0x60).toNat lo n
  if v = 0 then blank else v

/-- Whether a slot's tries are used up. -/
def State.exhausted (s : State) (slot : Nat) : Bool :=
  !s.is (slotOk slot) && decide (s.bootCfg 24 2 3 ≤ s.rd (slotTry slot))

/-- The slot with the higher version, A on a tie. -/
def versionFirst (a b : List Byte) : Nat := if imgVersion a < imgVersion b then 1 else 0

/-- The candidate order (R570). -/
def State.slotOrder (s : State) (a b : List Byte) : List Nat :=
  let f := versionFirst a b
  if s.exhausted f && !s.exhausted (1 - f) then [1 - f, f] else [f, 1 - f]

/-- Step 11: the accepted image starts. (log entry 164, DEDUCED). -/
def State.startSlot (s : State) (slot first : Nat) (b : List Byte) : State :=
  let s := if s.is (slotOk slot) then s
    else (s.wr (slotTry slot) (satTo 3 (s.rd (slotTry slot) + 1))).wr F.SYS_BOOT_FALLBACK (if slot = first then 0 else 1)
  let s := (s.wr F.SYS_BOOT_SLOT slot).wr F.SYS_BOOT_STATUS 1
  let s := (s.wr F.SYS_WDT_CTL_EN 1).wr F.SYS_WDT_CTL_TIMEOUT_MS (s.bootCfg 26 6 2 * 1000)
  let s := { s with wdt := 0 }.enterState 1
  (s.setEpoch 0).enter b

/-- A slot's place in the boot flash. -/
def State.slotAt (s : State) (slot : Nat) : Nat :=
  (if slot = 0 then s.bootCfg 0 8 1 else s.bootCfg 8 8 0x81) * 65536

/-- Step 9 reads a candidate whose header passes check 1. -/
def State.readSlot (s : State) (rd : FlashRead) (slot : Nat) (b : List Byte) : State :=
  if imgCheck1 b then s.flashRead rd (s.slotAt slot) (imgTotal b + 64) else s

/-- Try the candidates in order. -/
def State.tryslots (s : State) (rd : FlashRead) (first : Nat) : List (Nat × List Byte) → State
  | [] => { (s.wr F.SYS_BOOT_STATUS 3).enterSafe with boot := { s.boot with serving := true } }
  | (slot, b) :: r =>
    let s := s.readSlot rd slot b
    let f := s.imageFail false b
    if f = 0 then s.startSlot slot first b
    else ((s.wr (slotFail slot) f).clearSegs b).tryslots rd first r

/-- Steps 7 to 11 of Sequence 16.2: not while a transition is pending, and not before a flush has ended (spec/17 R603); with
no image the ROM stays and serves the SPI host port (R573). -/
def State.boots (s : State) (a b : List Byte) : State :=
  if !s.booting || s.rd F.SYS_LC_PENDING != 0 || s.field.flush.isSome then s
  else
    let rd := sfdpRead Config.sfdp
    let s := { s.discover Config.sfdp with phase := .up }
    let s := (s.flashRead rd (s.slotAt 0) 128).flashRead rd (s.slotAt 1) 128
    s.tryslots rd (versionFirst a b) ((s.slotOrder a b).map (fun i => (i, if i = 0 then a else b)))

/-- BOOT_ENTRY (spec/16 R565 to R571). -/
def execBootEntry (slotA slotB : List (BitVec 8)) (s : State) : Out := .next (s.boots slotA slotB)

/-- A write to SYS_BOOT_TRY: CONFIRM for the slot that runs, CLEAR_A, CLEAR_B (R571). -/
def State.writeBootTry (s : State) (v : BitVec 32) : State :=
  let s := { s with kick := false }
  let s := if v.toNat.testBit 8 && s.rd F.SYS_BOOT_STATUS == 1 then
      let slot := s.rd F.SYS_BOOT_SLOT
      (s.wr (slotOk slot) 1).wr (slotTry slot) 0
    else s
  let clear := fun (s : State) (i : Nat) => (s.wr (slotOk i) 0).wr (slotTry i) 0
  let s := if v.toNat.testBit 9 then clear s 0 else s
  if v.toNat.testBit 10 then clear s 1 else s

/-- CONFIRM (spec/16 R571). -/
def execConfirm (v : BitVec 32) (s : State) : Out := .next (s.whenOn (fun s => s.writeBootTry (v ||| 0x100)))

/-- CLEAR_A (spec/16 R572, Table 16.8). -/
def execClearA (v : BitVec 32) (s : State) : Out := .next (s.whenOn (fun s => s.writeBootTry (v ||| 0x200)))

/-- CLEAR_B (spec/16 R572, Table 16.8). -/
def execClearB (v : BitVec 32) (s : State) : Out := .next (s.whenOn (fun s => s.writeBootTry (v ||| 0x400)))

/-! ### Transitions (spec/16 R580 to R583, Table 16.5) -/

/-- The words of a provisioning record, in record order. -/
def provWords (r : List Byte) : List (Nat × BitVec 32) :=
  (List.range 33).map (fun i => (0x40 + i, BitVec.ofNat 32 (quadOf r (8 + 4 * i)))) ++
  (List.range 32).map (fun i => (0x68 + i, BitVec.ofNat 32 (quadOf r (140 + 4 * i))))

/-- The checks of R583. -/
def recordOk (r : List Byte) : Bool :=
  decide (300 ≤ r.length) && quadOf r 0 == 0x53565850 && quadOf r 4 == 300 && sha256 (r.take 268) == (r.drop 268).take 32
    && (List.range 8).any (fun i => quadOf r (8 + 4 * i) != 0)

/-- Words to erase: every bit programmed. -/
def eraseWords (lo n : Nat) : List (Nat × BitVec 32) := (List.range n).map (fun i => (lo + i, 0xFFFFFFFF))

/-- The words between INTENT and DONE (Table 16.5); none where the transition's check fails. -/
def State.lcSteps (s : State) (k : Nat) (r : List Byte) : Option (List (Nat × BitVec 32)) :=
  match k with
  | 1 => if recordOk r then some (provWords r) else none
  | 2 => if (List.range 4).any s.slotLive then some [] else none
  | 3 => some (eraseWords 0x68 32)
  | _ => some (eraseWords 0x10 16 ++ eraseWords 0x68 32)

/-- The steps of a transition to `k`, then INTENT again, then DONE. -/
def State.lcRun (s : State) (k : Nat) (r : List Byte) (stuck : Option (BitVec 8 × BitVec 32)) : State × Bool :=
  match s.lcSteps k r with
  | none => (s, false)
  | some ws =>
    match s.otpWords stuck (ws ++ three (intentAt k) (intentWord k) ++ three (doneAt k) (doneWord k)) with
    | (s, true) => (s.lcShow, true)
    | (s, false) => (s.lcShow.wr F.SYS_LC_ERR_CAUSE 3, false)

/-- The roll-forward of step 6 (R580, R582). (log entry 162, DEDUCED). -/
def State.rollForward (s : State) (r : List Byte) (stuck : Option (BitVec 8 × BitVec 32)) : State :=
  let k := s.lcPending
  if !s.booting || k = 0 then s
  else if !s.fuseReady then
    if s.boot.waited then s else { s.offer 0x31 0x01 k with boot := { s.boot with waited := true } }
  else match s.lcRun k r stuck with
    | (s, true) => s
    | (s, false) => { (s.wr F.SYS_LC_FAULT 1).wr F.SYS_BOOT_STATUS 4 with phase := .up }.enterSafe

/-- LC_ROLL_FORWARD (spec/16 R580 to R582). -/
def execLcRollForward (rcd : List (BitVec 8)) (stuck : Option (BitVec 8 × BitVec 32)) (s : State) : Out :=
  .next (s.rollForward rcd stuck)

/-! ### Recovery (spec/16 R573) -/

/-- Whether the boot ROM serves the SPI host port: from the boot that found no image until P-core 0 leaves it (R573, R679). -/
def State.romServes (s : State) : Bool := s.mainOn && s.devState == 4 && s.rd F.SYS_BOOT_STATUS == 3 && s.boot.serving

/-- Whether it goes on with a command of that port: it waits while P-core 0 is HALTED (spec/17 R609). -/
def State.recovering (s : State) : Bool := s.romServes && (s.th 192).life != .halted

/-- The status byte that ends a transaction. -/
def State.send (s : State) (bs : List Byte) : State := { s with out := s.out ++ [Output.reply bs] }

/-- A refusal without a check number. (log entry 163, DESIGN CHOICE). -/
def State.refuseByte (s : State) : State :=
  let (k, s) := s.fresh
  s.send (beBytes 1 (Config.refuseByte k % 255 + 1))

/-- RECOVER_WRITE: OFFSET, LEN, data into management memory. -/
def State.recoverWrite (s : State) (d : List Byte) : State :=
  if !s.recovering then s
  else
    let off := quadOf d 0
    let len := halfAt d 4
    if 0x80000 < off + len || d.length < 6 + len then s.refuseByte
    else (s.mergeBytes (mbusWindow + off) ((d.drop 6).take len)).send [0]

/-- RECOVER_WRITE (spec/16 R573). -/
def execRecoverWrite (data : List (BitVec 8)) (s : State) : Out := .next (s.recoverWrite data)

/-- RECOVER_RUN: the staged image is checked and started in CONFIG. (log entry 165, DEDUCED). -/
def State.recoverRun (s : State) : State :=
  if !s.recovering then s
  else
    let (s, b) := s.mgmtGet 0 0x80000
    let f := s.imageFail true b
    if f != 0 then s.send (beBytes 1 f)
    else ((s.wr F.SYS_BOOT_STATUS 2).pcoreStateCmd 1).enter b |>.send [0]

/-- RECOVER_RUN (spec/16 R573). -/
def execRecoverRun (s : State) : Out := .next s.recoverRun

/-- Provision a BLANK part: INTENT_1, the steps of Table 16.5, DONE_1 (R581, R583). -/
def State.provision (s : State) (r : List Byte) (stuck : Option (BitVec 8 × BitVec 32)) : State × Bool :=
  if s.rd F.SYS_LC_STATE != 0 || !recordOk r then (s, false)
  else if !s.fuseReady then (s.wr F.SYS_LC_ERR_CAUSE 1, false)
  else match s.otpWords stuck (three (intentAt 1) (intentWord 1)) with
    | (s, false) => (s.lcShow.wr F.SYS_LC_ERR_CAUSE 3, false)
    | (s, true) => s.lcRun 1 r stuck

/-- PROVISION (spec/16 R573, R583). -/
def execProvision (rcd : List (BitVec 8)) (stuck : Option (BitVec 8 × BitVec 32)) (s : State) : Out :=
  .next (if !s.recovering then s
    else match s.provision rcd stuck with
      | (s, true) => s.send [0]
      | (s, false) => s.refuseByte)

end Sys2Proof.Machine
end

