-- ==== Sys2Proof/Machine/FieldLife.lean ====
section
/-! DEFINITION. The Pewter recorder and its flush, core and memory self-test, ring recalibration, program exchange
(spec/17), and the UART, the I2C controller and the supply ranges (spec/18). -/

namespace Sys2Proof.Machine

/-! ### The recorder (spec/17 R593 to R600) -/

/-- Whether a match register of the recorder is enabled and matches a record. -/
def State.trigMatch (s : State) (r : Rec) (k : Nat) : Bool :=
  bits (s.rd F.REC_CTL_TRIG_EN) k 1 == 1
    && Nat.land (s.rd (F.REC_TRIG_SOURCE k)) (s.rd (F.REC_TRIG_SRC_MASK k)) == Nat.land r.source (s.rd (F.REC_TRIG_SRC_MASK k))
    && Nat.land (s.rd (F.REC_TRIG_CODE k)) (s.rd (F.REC_TRIG_CODE_MASK k)) == Nat.land r.code (s.rd (F.REC_TRIG_CODE_MASK k))

/-- Whether a stored record is a trigger. -/
def State.isTrigger (s : State) (r : Rec) : Bool :=
  [0, 1, 2, 3].any (s.trigMatch r)
    || (s.is F.REC_CTL_TRIG_TRIP && r.source == 2 && (r.code == 3 || r.code == 4))
    || (s.is F.REC_CTL_TRIG_PCORE && (r.source == 0x20 || r.source == 0x21))
    || (s.is F.REC_CTL_TRIG_PFAIL && r.source == 0 && r.code == 0x38)

/-- Store a record in the ring of 4,096 with its time (R594). -/
def Recorder.store (x : Recorder) (time : Nat) (r : Rec) : Recorder :=
  { x with stored := (if x.stored.length ≥ 4096 then x.stored.drop 1 else x.stored) ++ [⟨time % 2 ^ 48, r⟩] }

/-- The recorder freezes at the end of a post-trigger count (R598). (log entry 168, DEDUCED). -/
def State.recFreeze (s : State) : State := { s with recorder := { s.recorder with frozen := true } }.eventBoth .recFreeze

/-- The post-trigger count stands at `n`; at 0 the recorder freezes. -/
def State.recPost (s : State) (n : Nat) : State :=
  let s := { s with recorder := { s.recorder with post := some n } }
  if n = 0 then s.recFreeze else s

/-- A record is stored, and counted against the trigger (R594, R598). (log entry 170, DEDUCED). -/
def State.record (s : State) (r : Rec) : State :=
  let s := { s with recorder := s.recorder.store s.nowNs r }
  match s.recorder.post with
  | some n => s.recPost (n - 1)
  | none => if s.isTrigger r then s.recPost (s.rd F.REC_CTL_POST_TRIG) else s

/-- The recorder accepts the oldest offered record. (log entry 169, DEDUCED). -/
def State.recordAccept (s : State) : State :=
  match s.recorder.offered with
  | r :: rest => if s.recorder.frozen then s else { s with recorder := { s.recorder with offered := rest } }.record r
  | [] => s

/-- RECORD_ACCEPT (spec/17 R594, R595). -/
def execRecordAccept (s : State) : Out := .next s.recordAccept

/-- A write to REC_CMD: FREEZE, then UNFREEZE (R599). (log entry 167, DEDUCED). -/
def State.writeRecCmd (s : State) (v : BitVec 32) : State :=
  let s := if v.toNat.testBit 0 then { s with recorder := { s.recorder with frozen := true } } else s
  if v.toNat.testBit 1 then { s with recorder := { s.recorder with frozen := false, post := none } } else s

/-- FREEZE (spec/17 R599). -/
def execFreeze (s : State) : Out := .next (s.whenOn (fun s => s.writeRecCmd 1))

/-- UNFREEZE (spec/17 R599). -/
def execUnfreeze (s : State) : Out := .next (s.whenOn (fun s => s.writeRecCmd 2))

/-- The sixteen bytes of a record (Table 17.1). -/
def Stored.bytes (r : Stored) : List Byte :=
  beBytes 6 r.time ++ beBytes 1 r.body.source ++ beBytes 1 r.body.code ++ beBytes 8 r.body.data

/-- A write to REC_RD_SEL copies a record into REC_DATA_0 to REC_DATA_3 (R600). -/
def State.writeRecSel (s : State) (v : BitVec 32) : State :=
  let s := s.plainWrite A.REC_RD_SEL v
  let b := match s.recorder.stored[s.rd F.REC_RD_SEL_INDEX]? with
    | some r => r.bytes
    | none => List.replicate 16 0
  (List.range 4).foldl (fun s k => s.setReg (A.REC_DATA k) (BitVec.ofNat 32 (beNat ((b.drop (4 * k)).take 4)))) s

/-- REC_RD_SEL_WRITE (spec/17 R600). -/
def execRecRdSelWrite (v : BitVec 32) (s : State) : Out := .next (s.whenOn (fun s => s.writeRecSel v))

/-- REC_STATUS (Table 17.5). -/
def State.recStatus (s : State) : BitVec 32 :=
  BitVec.ofNat 32 (s.recorder.stored.length % 8192 + (if s.recorder.frozen then 2 ^ 16 else 0)
    + (match s.recorder.post with | some n => 2 ^ 17 + n % 256 * 2 ^ 24 | none => 0))

/-! ### The power-fail flush (spec/17 R601 to R604) -/

/-- Record 0x38 is stored ahead of every other, unless the recorder is frozen. -/
def State.storeFirst (s : State) (r : Rec) : State :=
  if s.recorder.frozen then s.bump F.REC_LOST_COUNT else { s with recorder := s.recorder.store s.nowNs r }

/-- PFAIL_n has been low for 10 µs; `header`: what the flash holds at REC_FLUSH_ADDR. A flush that runs goes on. -/
def State.pfail (s : State) (header : Nat) : State :=
  let s := { s with supply := { s.supply with pfailHigh := false } }.eventBoth .pfail
  if !s.is F.REC_FLUSH_EN then s.offer 0x00 0x38 0
  else
    let s := s.storeFirst ⟨0x00, 0x38, 1⟩
    let s := { s with recorder := { s.recorder with frozen := true } }.wr F.REC_FLUSH_STAT_STARTED 1
    if s.field.flush.isSome then s
    else if header ≠ 0xFFFFFFFF then s.wr F.REC_FLUSH_STAT_SKIPPED 1
    else { s with field := { s.field with
      flush := some ⟨s.recorder.stored.reverse.take 512, s.nowNs, s.rd F.REC_LOST_COUNT⟩ } }

/-- PFAIL_ASSERT (spec/17 R601). -/
def execPfailAssert (header : BitVec 32) (s : State) : Out := .next (s.pfail header.toNat)

/-- The header page of a flush (Table 17.3). -/
def Flush.header (f : Flush) : List Byte :=
  let b := beBytes 4 0x50455752 ++ beBytes 2 f.records.length ++ [0, 0] ++ beBytes 8 f.time ++ beBytes 4 f.lost
  b ++ beBytes 4 (crc32 0xFFFFFFFF true b)

/-- The record pages of a flush, newest record first (step 4 of Sequence 17.1), each with its flash address. -/
def Flush.pages (f : Flush) (a : Nat) : List (Nat × List Byte) :=
  (List.range ((f.records.length + 15) / 16)).map (fun i =>
    (a + 256 + 256 * i, ((f.records.drop (16 * i)).take 16).flatMap Stored.bytes))

/-- Pages that a flush programs. -/
def State.program (s : State) (l : List (Nat × List Byte)) : State :=
  { s with out := s.out ++ l.map (fun (p : Nat × List Byte) => Output.flash p.1 p.2) }

/-- The flush ends (steps 4 and 5 of Sequence 17.1). -/
def State.flushDone (s : State) : State :=
  match s.field.flush with
  | none => s
  | some f =>
    let a := s.rd F.REC_FLUSH_ADDR_ADDR
    let s := { s with field := { s.field with flush := none } }.program (f.pages a ++ [(a, f.header)])
    (s.wr F.REC_FLUSH_STAT_COUNT f.records.length).wr F.REC_FLUSH_STAT_DONE 1

/-- FLUSH_DONE (spec/17 R601). -/
def execFlushDone (s : State) : Out := .next s.flushDone

/-! ### Core self-test (spec/17 R610 to R613) -/

/-- Step 7 of Sequence 17.2: the result, its record, EVPEND.SELFTEST. -/
def State.testResult (s : State) (core outcome detail : Nat) : State :=
  let s := ((s.wr F.ST_RESULT_CORE core).wr F.ST_RESULT_OUTCOME outcome).wr F.ST_RESULT_DETAIL detail
  (s.offer 0x40 outcome (s.reg A.ST_RESULT).toNat).event 0 .selftest

/-- A core test ends. -/
def State.testEnd (s : State) (outcome detail : Nat) : State :=
  (s.wr F.ST_STATUS_STATE 0).testResult (s.rd F.ST_STATUS_CORE) outcome detail

/-- A step of the test that takes time begins. -/
def State.testStep (s : State) (n : Nat) : State :=
  { s.wr F.ST_STATUS_STATE n with field := { s.field with test := { s.field.test with began := s.nowNs } } }

/-- Step 2: the supervisor role leaves the core; then step 3. -/
def State.handover (s : State) : State :=
  let core := s.rd F.ST_STATUS_CORE
  let tile := core / 8
  let s := s.wr F.ST_STATUS_STATE 2
  if coreOf (s.activeSup tile) != core then s.testStep 3
  else if coreOf (s.otherSup tile) == core || !s.available (s.otherSup tile) then s.testEnd 4 0
  else (s.wr (F.TILE_SUPV_ACTIVE tile) (1 - s.rd (F.TILE_SUPV_ACTIVE tile))).testStep 3

/-- A write of a core number to ST_CTL (R610). (log entry 172, DEDUCED). -/
def State.testStart (s : State) (core : Nat) : State :=
  if core > 47 || s.rd F.ST_STATUS_STATE != 0 then s.testResult core 5 0
  else
    let s := (s.wr F.ST_STATUS_CORE core).testStep 1
    if s.rd F.ST_ADMIT_DEADLINE = 0 then s.handover else s

/-- CORE_TEST_START (spec/17 R610). -/
def execCoreTestStart (core : BitVec 6) (s : State) : Out := .next (s.whenOn (fun s => s.testStart core.toNat))

/-- ST_ADMIT_END (spec/17 R610, steps 1 and 2). (log entry 173, DEDUCED). -/
def execStAdmitEnd (s : State) : Out :=
  .next (if s.rd F.ST_STATUS_STATE == 1 && (decide (s.backlog ≤ s.rd F.ST_ADMIT_BACKLOG) ||
      decide (s.field.test.began + s.rd F.ST_ADMIT_DEADLINE * 1000000 ≤ s.nowNs)) then s.handover else s)

/-- The threads of a core. -/
def coreThreads (core : Nat) : List Nat := (List.range 4).map (fun i => 4 * core + i)

/-- ST_DRAIN_DONE (spec/17 R610, step 4): where the tile's supervisors cannot take records any more, those queued go to P-core
0 (spec/05 R191). -/
def State.testDrained (s : State) : State :=
  let l := coreThreads (s.rd F.ST_STATUS_CORE)
  if s.rd F.ST_STATUS_STATE = 3 && l.all (fun t => (s.th t).life == .idle || (s.th t).life == .offline) then
    let idle := l.filter (fun t => (s.th t).life == .idle)
    let s := { s with field := { s.field with test := { s.field.test with idle := idle } } }.wr F.ST_STATUS_STATE 4
    (idle.foldl (fun s t => (s.modTh t (fun x => { x with life := .offline, wait := none })).switchThread t) s).escalateQueued
      (s.rd F.ST_STATUS_CORE / 8)
  else s

/-- ST_DRAIN_DONE (spec/17 R610). -/
def execStDrainDone (s : State) : Out := .next s.testDrained

/-- ST_DRAIN_TIMEOUT (spec/17 R611). -/
def execStDrainTimeout (s : State) : Out :=
  .next (if s.rd F.ST_STATUS_STATE == 3 &&
      decide (s.field.test.began + max 1 (s.rd F.ST_DRAIN_TMO_MS) * 1000000 ≤ s.nowNs) then s.testEnd 3 0 else s)

/-- The logic test ends (steps 5 to 7, R612). -/
def State.testDone (s : State) (fail : Option (BitVec 16)) : State :=
  if s.rd F.ST_STATUS_STATE ≠ 4 then s
  else match fail with
    | none => ((s.field.test.idle.foldl State.startThread
        ((s.setIcache (s.rd F.ST_STATUS_CORE) []).wr F.ST_STATUS_STATE 5))).testEnd 1 0
    | some d => ((coreThreads (s.rd F.ST_STATUS_CORE)).foldl
        (fun s t => s.modTh t (fun x => { x with failed := true })) s).testEnd 2 d.toNat

/-- ST_TEST_DONE (spec/17 R610, R612, R613). -/
def execStTestDone (fail : Option (BitVec 16)) (s : State) : Out := .next (s.testDone fail)

/-! ### Memory test (spec/17 R614, R615) -/

/-- The first selected pool from `turn` on. -/
def nextPool (pools turn : Nat) : Option Nat :=
  ((List.range 16).map (fun i => (turn + i) % 16)).find? (fun p => pools.testBit p)

/-- The engine asks for a buffer of the next pool (R614, spec/06 R242). (log entry 174, DEDUCED). -/
def State.memLoan (s : State) : State :=
  let m := s.field.mem
  let m := if m.ms = s.nowMs then m else { m with ms := s.nowMs, loans := 0 }
  if !s.is F.ST_MEM_CTL_EN || m.lent.isSome || decide (s.rd F.ST_MEM_CTL_RATE ≤ m.loans) then s
  else match nextPool (s.rd F.ST_MEM_CTL_POOLS) m.turn with
    | none => s
    | some p =>
      match s.lend p with
      | (s, some (l, i)) => { s with field := { s.field with mem := ⟨some ⟨p, l, i⟩, (p + 1) % 16, m.ms, m.loans + 1⟩ } }
      | (s, none) => { s with field := { s.field with mem := { m with turn := (p + 1) % 16 } } }.bump F.ST_MEM_REFUSED_COUNT

/-- MEMTEST_LOAN (spec/17 R614). -/
def execMemtestLoan (s : State) : Out := .next s.memLoan

/-- The lent buffer's test ends: every word zero, the buffer returned (R614, spec/06 R243). -/
def State.memDone (s : State) (faulty : Bool) : State :=
  match s.field.mem.lent with
  | none => s
  | some x =>
    let a := x.layout.base + x.index * x.layout.size
    let s := s.writeVals a (List.replicate (x.layout.size / 8) 0)
    let s := ({ s with field := { s.field with mem := { s.field.mem with lent := none } } }.lendReturn x.pool x.layout x.index
      faulty).bump F.ST_MEM_TESTED_COUNT
    if faulty then (s.bump F.ST_MEM_FAILED_COUNT).offer 0x40 0x10 a else s

/-- MEMTEST_BUFFER_DONE (spec/17 R614). -/
def execMemtestBufferDone (faulty : Bool) (s : State) : Out := .next (s.memDone faulty)

/-! ### Ring recalibration (spec/17 R617) -/

/-- A write of 1 to ST_RING_CAL.GO. (log entry 175, DEDUCED). -/
def State.ringCal (s : State) : State :=
  if s.rstate ≥ 2 then s.wr F.ST_RING_CAL_REFUSED 1 else s.wr F.ST_RING_CAL_BUSY 1

/-- RING_CAL_GO (spec/17 R617). -/
def execRingCalGo (s : State) : Out := .next (s.whenOn State.ringCal)

/-- RING_CAL_DONE (spec/17 R617). -/
def execRingCalDone (fail : Bool) (s : State) : Out :=
  .next (if s.is F.ST_RING_CAL_BUSY then
      (if fail then s.wr F.ST_RING_CAL_FAIL 1 else s).wr F.ST_RING_CAL_BUSY 0
    else s)

/-! ### Exchange of worker programs (spec/17 R619 to R623) -/

/-- A commit meets a thread (Table 17.4). (log entry 176, DEDUCED). -/
def State.commitThread (s : State) (t : Nat) : State :=
  let x := s.th t
  match x.life with
  | .offline => s.setTh t { x with epoch := s.epoch }
  | .idle => s.setTh t { x with epoch := s.epoch, getPc := tget (fun _ => 0) s.taskEntry (tileOf t) }
  | _ => s.setTh t { x with oldProg := true }

/-- A tile's new task entry; tile 4's registers stand apart. (log entry 240, DESIGN CHOICE). -/
def State.newTask (s : State) (t : Nat) : Nat :=
  if t = 4 then s.field.task4Lo.toNat + s.field.task4Hi.toNat * 2 ^ 32 else s.pair (F.EXCH_TASK_LO_PC t) (F.EXCH_TASK_HI_PC t)

/-- The tiles take the new start and task entries. -/
def State.commitTile (s : State) (t : Nat) : State :=
  let s := (s.wr (F.TILE_ENTRY_LO_PC t) (s.rd (F.EXCH_START_LO_PC t))).wr (F.TILE_ENTRY_HI_PC t) (s.rd (F.EXCH_START_HI_PC t))
  { s with taskEntry := tset (fun _ => 0) s.taskEntry t (s.newTask t / 4 * 4) }

/-- The commit of R619; matches that are due have come before it (spec/14 R518). -/
def State.exchCommit (s : State) : State :=
  if s.is F.EXCH_STATUS_BUSY then s.wr F.EXCH_STATUS_REFUSED 1
  else
    let e := if s.epoch = 255 then 1 else s.epoch + 1
    let s := (s.wr F.EXCH_STATUS_EPOCH e).setEpoch e
    let s := { s with sched := { s.sched with commits := s.sched.commits + 1 } }
    let s := (List.range 6).foldl State.commitTile s
    let l := (s.threads.map (·.1)).filter (fun t => t < 192)
    let s := l.foldl State.commitThread s
    let left := (l.filter (fun t => (s.th t).oldProg)).length
    let s := ((s.wr F.EXCH_STATUS_OLD_LEFT left).wr F.EXCH_STATUS_BUSY 1).offer 0x00 0x30 e
    if left = 0 then ((s.wr F.EXCH_STATUS_BUSY 0).event 0 .exchange).offer 0x00 0x31 e else s

/-- EXCH_COMMIT (spec/17 R619, R620, R622). -/
def execExchCommit (s : State) : Out := .next (s.whenOn State.exchCommit)

/-! ### Exchange of Puppeteer firmware (spec/17 R625, R626) -/

/-- Bytes at word addresses of the Puppeteer map, up to the first that is no memory. (log entry 203, DESIGN CHOICE). -/
def State.pmapBytes (s : State) (a : Nat) : Nat → State × List Byte
  | 0 => (s, [])
  | n + 1 => match s.locate 192 a with
    | .cell m k =>
      let (s, w, _) := if m.dark s.vcoreOn then (s, (Config.lostWord (wordKey k)).readAs, false) else s.readWord m k
      let (s, r) := s.pmapBytes (a + 8) n
      (s, valBytes w.val ++ r)
    | _ => (s, [])

/-- The staged image at EXCH_PC_IMG, as far as its header says it goes. -/
def State.staged (s : State) : State × Nat × List Byte :=
  let a := s.pair F.EXCH_PC_IMG_LO_ADDR F.EXCH_PC_IMG_HI_ADDR / 8 * 8
  let (s, h) := s.pmapBytes a 16
  let n := imgTotal h + 64
  if 0x800000 < n then (s, a, h)
  else
    let (s, b) := s.pmapBytes a (max 16 ((n + 7) / 8))
    (s, a, b.take (max 128 n))

/-- The checks of R625: R568, every destination in management memory and apart from the staged image. (log entry 177,
DEDUCED). -/
def State.exchFail (s : State) (a : Nat) (b : List Byte) : Nat :=
  let a := if mbusWindow ≤ a then a - mbusWindow else a
  let f := s.imageFail true b
  if (f = 0 || f > 4) && (imgSegs b).any (fun g => overlap g.dest g.len a (imgTotal b + 64)) then 4 else f

/-- A write to EXCH_PC_CTL with GO (R625, R626). -/
def State.exchGo (s : State) (target : Nat) : State :=
  if s.is F.EXCH_PC_STAT_BUSY then s
  else
    let (s, a, b) := s.staged
    let f := s.exchFail a b
    let s := s.wr F.EXCH_PC_STAT_FAIL f
    if f ≠ 0 then s
    else
      let x : PcExch := ⟨target, imgEntry b, (imgSegs b).map (fun g => (g.dest, segBytes b g))⟩
      let s := if target = 1 then s.freeCore1 true else s
      { (s.wr F.EXCH_PC_STAT_BUSY 1).holdCore target with field := { s.field with exch := some x } }

/-- PCORE_EXCHANGE_GO (spec/17 R625). -/
def execPcoreExchangeGo (v : BitVec 32) (s : State) : Out :=
  .next (s.whenOn (fun s => s.exchGo (if v.toNat.testBit 1 then 1 else 0)))

/-- The exchange ends: the segments are copied and the core starts at the new ENTRY. -/
def State.exchDone (s : State) : State :=
  match s.field.exch with
  | none => s
  | some x =>
    let s := { s with field := { s.field with exch := none } }.loadSegs x.segs
    let s := s.wrPair (F.SYS_PCORE_ENTRY_LO_ENTRY x.target) (F.SYS_PCORE_ENTRY_HI_ENTRY x.target) x.entry
    let s := ((s.startCore x.target).wr F.EXCH_PC_STAT_BUSY 0).wr F.EXCH_PC_STAT_DONE 1
    s.offer 0x00 0x32 (s.reg A.EXCH_PC_STAT).toNat

/-- PCORE_EXCHANGE_DONE (spec/17 R625). -/
def execPcoreExchangeDone (s : State) : Out := .next s.exchDone

/-! ### UART (spec/18 R658) -/

/-- EVPEND.HOST is set in P-core 0 while the receive FIFO holds a byte. -/
def State.pokeUart (s : State) : State := if s.host.rx.isEmpty then s else s.event 0 .host

/-- A write to UART_DATA queues a byte. (log entry 178, DEDUCED). -/
def State.uartWrite (s : State) (b : Byte) : State :=
  if s.host.tx.length ≥ 64 then s else { s with host := { s.host with tx := s.host.tx ++ [b] } }

/-- UART_DATA_WRITE (spec/18 R658). -/
def execUartDataWrite (v : BitVec 32) (s : State) : Out := .next (s.whenOn (fun s => s.uartWrite (v.setWidth 8)))

/-- A read of UART_DATA takes the oldest received byte; 0 when there is none. -/
def State.uartRead (s : State) : State × BitVec 32 :=
  ({ s with host := { s.host with rx := s.host.rx.drop 1 } }, (s.host.rx.headD 0).setWidth 32)

/-- UART_DATA_READ (spec/18 R658). -/
def execUartDataRead (s : State) : Out := .next (s.whenOn (fun s => s.uartRead.1))

/-- The UART receives a byte. -/
def State.uartRx (s : State) (b : Byte) (wrong : Bool) : State :=
  if !s.mainOn || !s.is F.UART_CTL_EN then s
  else
    let s := if wrong then s.wr F.UART_STAT_FRAME_ERR 1 else s
    if s.host.rx.length ≥ 64 then s.wr F.UART_STAT_RX_OVR 1
    else { s with host := { s.host with rx := s.host.rx ++ [b] } }.pokeUart

/-- UART_RX_BYTE (spec/18 R658). -/
def execUartRxByte (b : BitVec 8) (wrong : Bool) (s : State) : Out := .next (s.uartRx b wrong)

/-- The parity bit that a byte is sent with (Table 18.16): none, even, odd; for the reserved value PARITY 3 none. (log entry
178, DEDUCED). -/
def State.uartParity (s : State) (b : Byte) : Option Bool :=
  let odd := (List.range 8).foldl (fun x i => x != b.getLsbD i) false
  match s.rd F.UART_CTL_PARITY with
  | 1 => some odd
  | 2 => some !odd
  | _ => none

/-- UART_TX_BYTE_SENT (spec/18 R658): 8 data bits, the optional parity bit, one or two stop bits. -/
def execUartTxByteSent (s : State) : Out :=
  .next (match s.host.tx with
    | b :: r => if s.is F.UART_CTL_EN
        then { s with
          host := { s.host with tx := r }
          out := s.out ++ [Output.uart b (s.uartParity b) (1 + s.rd F.UART_CTL_STOP2)] } else s
    | [] => s)

/-- UART_STAT (Table 18.16). -/
def State.uartStat (s : State) : BitVec 32 :=
  BitVec.ofNat 32 (putBits (putBits (s.reg A.UART_STAT).toNat 0 7 s.host.tx.length) 8 7 s.host.rx.length)

/-! ### I2C (spec/18 R659) -/

/-- A write to I2C_CMD: its fields, then GO. The read-back that holds the bus then completes first: they run back to back while
VCORE is on (R660). (log entries 179, DEDUCED; 180, DEDUCED). -/
def State.i2cWrite (s : State) (v : BitVec 32) : State :=
  let s := s.plainWrite A.I2C_CMD v
  if !v.toNat.testBit 31 || s.is F.I2C_STAT_BUSY || !s.is F.I2C_CTL_EN then s
  else
    let buf := (List.range 8).flatMap (fun k => beBytes 4 (s.reg (A.I2C_BUF k)).toNat)
    { s.wr F.I2C_STAT_BUSY 1 with host := { s.host with
      i2c := some (s.rd F.I2C_CMD_ADDR, buf.take (min 32 (s.rd F.I2C_CMD_WLEN)), min 32 (s.rd F.I2C_CMD_RLEN))
      pmbDue := s.vcoreOn } }

/-- I2C_GO (spec/18 R659). -/
def execI2cGo (v : BitVec 32) (s : State) : Out := .next (s.whenOn (fun s => s.i2cWrite (v ||| 0x80000000)))

/-- Bytes into I2C_BUF, from byte 0 on. -/
def State.i2cFill (s : State) (data : List Byte) : State :=
  (List.range 8).foldl (fun s k =>
    let old := beBytes 4 (s.reg (A.I2C_BUF k)).toNat
    let new := (data.drop (4 * k)).take 4
    s.setReg (A.I2C_BUF k) (BitVec.ofNat 32 (beNat (new ++ old.drop new.length)))) s

/-- The transfer ends with a stop; where a NACK ends it early, how many of its bytes the target has taken is open. The
controller's transfer does not begin before the read-back that waited for its last one (R660). (log entries 179, DEDUCED; 180,
DEDUCED). -/
def State.i2cDone (s : State) (nack : Bool) (data : List Byte) : State :=
  match s.host.i2c with
  | none => s
  | some (a, w, n) =>
    if s.pmbFirst then s
    else
      let (k, s) := if nack then s.fresh else (0, s)
      let o := if nack then Output.i2c a (w.take (Config.i2cTaken k % (w.length + 1))) 0 true else Output.i2c a w n false
      let s := { s with host := { s.host with i2c := none, pmbDue := true }, out := s.out ++ [o] }.wr F.I2C_STAT_BUSY 0
      if nack then s.wr F.I2C_STAT_NACK 1 else (s.i2cFill (data.take n)).wr F.I2C_STAT_DONE 1

/-- I2C_TRANSFER_DONE (spec/18 R659). -/
def execI2cTransferDone (nack : Bool) (data : List (BitVec 8)) (s : State) : Out := .next (s.i2cDone nack data)

/-! ### SPI commands for firmware (spec/12 R475) -/

/-- SPI_FIRMWARE_COMMAND (spec/12 R475): passed to firmware, unless the boot ROM serves the port (spec/16 R573). (log entry
181, DEDUCED). -/
def execSpiFirmwareCommand (cmd : BitVec 4) (data : List (BitVec 8)) (s : State) : Out :=
  .next (if !s.mainOn || s.romServes then s
    else { s with host := { s.host with spi := s.host.spi ++ [(0x10 + cmd.toNat, data)] } }.event 0 .host)

/-! ### Supply ranges (spec/10 R343, R344, spec/16 R576, spec/17 R603, spec/18 R632) -/

/-- A flush that loses its supply leaves the record pages that it has programmed, and no header (R603, R605). (log entry 171,
DESIGN CHOICE). -/
def State.flushCut (s : State) : State :=
  match s.field.flush with
  | none => s
  | some f =>
    let (k, s) := s.fresh
    let l := f.pages (s.rd F.REC_FLUSH_ADDR_ADDR)
    { s with field := { s.field with flush := none } }.program (l.take (Config.flushed k % (l.length + 1)))

/-- A supply leaves or re-enters its range: the bypass closes while VSD or VIO18 is out of range, and a flush stops. (log
entry 180, DEDUCED). -/
def State.supplyChange (s : State) (vsd vio18 vio33 fuse high : Bool) : State :=
  let s := { s with supply := ⟨high, vsd, vio18, vio33, fuse⟩ }
  if vsd && vio18 then s else s.ringOff.flushCut

/-- SUPPLY_RANGE_CHANGE (spec/10 R344). -/
def execSupplyRangeChange (vsd vio18 vio33 fuse pfailHigh : Bool) (s : State) : Out :=
  .next (s.supplyChange vsd vio18 vio33 fuse pfailHigh)

end Sys2Proof.Machine
end

