-- ==== Sys2Proof/Machine/Mbus.lean ====
section
/-! DEFINITION. The M-bus registers as software reaches them: what a read returns and does, and what a write does (spec/00 R9
to R12, and the register tables of spec/02 to spec/18). -/

namespace Sys2Proof.Machine

/-! ### Reading -/

/-- The code of a thread life state (spec/03 Table 3.3). -/
def Life.code : Life → Nat
  | .offline => 0 | .idle => 1 | .running => 2 | .blocked => 3 | .faulted => 4 | .halted => 5

/-- THREAD_STATE (spec/03 Table 3.10). -/
def Thread.stateReg (x : Thread) : Nat :=
  x.life.code + x.posted.length % 32 * 2 ^ 8 + x.jobCount % 8 * 2 ^ 16 + (if x.cancel then 2 ^ 20 else 0) + x.acct % 64 * 2 ^ 24

/-- THREAD_PC: exact when HALTED or FAULTED, else the last issued pc. (log entry 32, DEDUCED). -/
def Thread.pcReg (x : Thread) : Nat :=
  match x.life with
  | .halted | .faulted => x.pc
  | _ => x.lastPc

/-- THREAD_PERR_HI (spec/05 Table 5.5). -/
def Thread.perrHi (x : Thread) : Nat :=
  match x.perr with
  | some e => e.addr / 2 ^ 32 % 2 ^ 8 + e.status % 16 * 2 ^ 8 + e.cache % 4 * 2 ^ 12 + 2 ^ 14 + e.further % 65536 * 2 ^ 16
  | none => 0

/-- A word built over the stored one. -/
def viewBits (old : BitVec 32) (lo n v : Nat) : BitVec 32 := BitVec.ofNat 32 (putBits old.toNat lo n v)

/-- Registers of a tile that show what threads and helpers hold. -/
def State.tileView (s : State) (base i j : Nat) (r : BitVec 32) : BitVec 32 :=
  let x := s.th (32 * i + j)
  let q := fun h => (s.helper (3 * i + h)).queue.length
  if base = A.HELPER_STATUS 0 then BitVec.ofNat 32 (q 0 + q 1 * 2 ^ 8 + q 2 * 2 ^ 16)
  else if base = A.THREAD_STATE 0 0 then BitVec.ofNat 32 x.stateReg
  else if base = A.THREAD_PC_LO 0 0 then BitVec.ofNat 32 x.pcReg
  else if base = A.THREAD_PC_HI 0 0 then BitVec.ofNat 32 (x.pcReg / 2 ^ 32)
  else if base = A.THREAD_BUDGET 0 0 then BitVec.ofNat 32 x.used
  else if base = A.THREAD_PERR_LO 0 0 then BitVec.ofNat 32 ((x.perr.map (·.addr)).getD 0)
  else if base = A.THREAD_PERR_HI 0 0 then BitVec.ofNat 32 x.perrHi
  else r

/-- Registers of the scheduler and the pools that show counts and grants (spec/03 R92, spec/06 R226, spec/09). -/
def State.schView (s : State) (base i j : Nat) (r : BitVec 32) : BitVec 32 :=
  if base = A.SCH_STATUS then BitVec.ofNat 32 s.tasks.length
  else if base = A.GRP_INUSE 0 then BitVec.ofNat 32 (s.grpInUse i)
  else if base = A.GRP_MIN 0 then viewBits r 31 1 (bnat (decide (s.grpGrants.getD i 0 < s.rd (F.GRP_MIN_MIN i))))
  else if base = A.ACCT_RES 0 0 then
    viewBits r 31 1 (bnat (decide ((s.grants i (s.rd (F.POOL_COUNT_COUNT i))).getD j 0 < s.rd (F.ACCT_RES_RES i j))))
  else r

/-- Registers of the parser and the classifier that show what they hold. -/
def State.clsView (s : State) (base i : Nat) (r : BitVec 32) : BitVec 32 :=
  if base = A.PRS_BANK then viewBits r 8 1 (bnat s.prsDrained)
  else if base = A.CLS_VER then BitVec.ofNat 32 (s.cur + s.oldest * 2 ^ 8 + (s.lag + 1) * 2 ^ 16)
  else if base = A.CLS_COMMIT_STATUS then viewBits r 1 1 (bnat s.passBusy)
  else if base = A.CLS_FRAG_USED then BitVec.ofNat 32 s.cls.follow.length
  else if base = A.RULE_W 0 then BitVec.ofNat 32 (s.cls.word (s.rd F.CLS_RULE_SEL_RULE) i)
  else r

/-- The head entry of a timestamp FIFO (spec/11 R411). -/
def State.tsView (s : State) (base i j : Nat) (r : BitVec 32) : BitVec 32 :=
  let q := s.tsFifo i (j == 1)
  let e := q.headD ⟨0, 0, 0, 0, 0, 0⟩
  if base = A.TS_KEY 0 0 then BitVec.ofNat 32 e.key
  else if base = A.TS_ID 0 0 then BitVec.ofNat 32 (e.seqId % 2 ^ 16 + e.msgType % 16 * 2 ^ 16 + e.domain % 256 * 2 ^ 24)
  else if base = A.TS_NS_LO 0 0 then BitVec.ofNat 32 e.ns
  else if base = A.TS_NS_HI 0 0 then BitVec.ofNat 32 (e.ns / 2 ^ 32)
  else if base = A.TS_FRAC 0 0 then BitVec.ofNat 32 e.frac
  else if base = A.TS_STAT 0 0 then BitVec.ofNat 32 (q.length + (if q.isEmpty then 0 else 2 ^ 8))
  else r

/-- The head item of the forward queue, and the session count (spec/12 Table 12.11). -/
def State.dictView (s : State) (base : Nat) (r : BitVec 32) : BitVec 32 :=
  let n := s.dict.fwd.length
  let x := s.dict.fwd.head?
  let w := fun (f : FwdItem → Nat) => BitVec.ofNat 32 ((x.map f).getD 0)
  if base = A.DICT_FWD_STAT then BitVec.ofNat 32 (n + (if n = 0 then 0 else 2 ^ 8))
  else if base = A.DICT_FWD_ITEM_0 then
    w (fun x => x.id * 2 ^ 24 + x.service % 256 * 2 ^ 16 + x.role % 256 * 2 ^ 8 + (if x.msg.isSome then 1 else 2))
  else if base = A.DICT_FWD_ITEM_1 then w (fun x => x.index % 65536 * 2 ^ 16 + x.sub % 256 * 2 ^ 8 + x.type % 256)
  else if base = A.DICT_FWD_ITEM_2 then w (fun x => x.len % 65536 * 2 ^ 16 + x.session % 65536)
  else if base = A.DICT_FWD_ITEM_3 then w (fun x => x.offset)
  else if base = A.DICT_SESS_COUNT then BitVec.ofNat 32 s.dict.sessions.length
  else r

/-- Timers, pins (spec/14 R509, R675, Table 14.3). (log entry 17, DEDUCED). -/
def State.timeView (s : State) (base i : Nat) (r : BitVec 32) : BitVec 32 :=
  let x := s.timer i
  if base = A.TMR_NOW_LO then BitVec.ofNat 32 s.nowNs
  else if base = A.TMR_NOW_HI then BitVec.ofNat 32 (s.nowNs / 2 ^ 32)
  else if base = A.TMR_NOW_FRAC then BitVec.ofNat 32 s.nowFrac
  else if base = A.TMR_COUNT_LO 0 then BitVec.ofNat 32 x.count
  else if base = A.TMR_COUNT_HI 0 then BitVec.ofNat 32 (x.count / 2 ^ 32)
  else if base = A.TMR_CMP_A_LO 0 then BitVec.ofNat 32 x.cmpA
  else if base = A.TMR_CMP_A_HI 0 then BitVec.ofNat 32 (x.cmpA / 2 ^ 32)
  else if base = A.TMR_CMP_B_LO 0 then BitVec.ofNat 32 x.cmpB
  else if base = A.TMR_CMP_B_HI 0 then BitVec.ofNat 32 (x.cmpB / 2 ^ 32)
  else if base = A.SIO_CFG 0 then
    let drives := s.rd (F.SIO_CFG_MODE i) = 1 ∨ s.rd (F.SIO_CFG_MODE i) = 3
    viewBits r 2 1 (if drives then s.rd (F.SIO_CFG_OUT i) else bnat (tget (fun _ => false) s.sioIn i))
  else r

/-- The level of debug access: a BLANK part gives CUSTOMER without a challenge (spec/16 Table 16.4). (log entry 186,
DEDUCED). -/
def State.dbgLevel (s : State) : Nat :=
  if s.rd F.SYS_LC_STATE = 0 then max 1 (s.rd F.SYS_DBG_STAT_LEVEL) else s.rd F.SYS_DBG_STAT_LEVEL

/-- The system, recorder and host registers that show what stands elsewhere. -/
def State.sysView (s : State) (base : Nat) (r : BitVec 32) : BitVec 32 :=
  if base = A.SYS_OTP_DATA then s.otpData
  else if base = A.SYS_DBG_STAT then viewBits r 0 2 s.dbgLevel
  else if base = A.REC_STATUS then s.recStatus
  else if base = A.UART_STAT then s.uartStat
  else r

/-- What the register at an address shows, its row and instance given. (log entry 14, DESIGN CHOICE). -/
def State.view (s : State) (a base i j : Nat) : BitVec 32 :=
  let r := s.reg a
  let h := a / 0x10000
  if 0x4010 ≤ h ∧ h < 0x4016 then s.tileView base i j r
  else if h = 0x400C ∨ h = 0x4008 then s.schView base i j r
  else if h = 0x4009 ∨ h = 0x400A then s.clsView base i r
  else if h = 0x4021 then s.tsView base i j r
  else if h = 0x4040 then s.dictView base r
  else if h = 0x4003 ∨ h = 0x4004 then s.timeView base i r
  else s.sysView base r

/-- Who reads a register: a thread or a Puppeteer core, or the dictionary engine or the debug port (spec/14 R519). -/
inductive Reader where
  | software | other
  deriving DecidableEq, Repr

/-- The matches that are due come before a read or write of what they show or follow: the timers, the pins, the wake enables
(spec/14 R510 to R512). -/
def State.settleFor (s : State) (h base : Nat) : State :=
  if h = 0x4003 ∨ h = 0x4004 ∨ base = A.PWR_WAKE_EN ∨ base = A.PWR_WAKE_TMR then s.settleAll else s

/-- A read of the register at an M-bus address; no register reads as zero (spec/00 R12, spec/02 R46). -/
def State.mbusRead (s : State) (by_ : Reader) (a : Nat) : State × BitVec 32 :=
  match regRow a with
  | none => (s, 0)
  | some (r, idx) =>
    let i := idx.headD 0
    let s := s.settleFor (a / 0x10000) r.base
    let v := s.view a r.base i ((idx.drop 1).headD 0)
    if r.base = A.UART_DATA then s.uartRead
    else if r.base = A.CAP_SEQ 0 then (if by_ = .software then s.readCapSeq i else s, v)
    else if r.base = A.GPIO_CFG 0 then
      if s.is (F.GPIO_CFG_DIR i) then (s, viewBits v 1 1 (s.rd (F.GPIO_CFG_OUT i)))
      else let (k, s) := s.fresh
           (s, viewBits v 1 1 (bnat (Config.gpioIn i k)))
    else (s, v)

/-! ### Writing -/

/-- A write to a layout register of a pool: a changed value is a changed layout (spec/06 R205). -/
def State.writeLayout (s : State) (p a : Nat) (v : BitVec 32) : State :=
  let s' := s.plainWrite a v
  if s'.reg a = s.reg a then s else s'.layoutTouched p

/-- A write to a window of a process-data map; while ARM is 1 it clears ARM and is counted (spec/12 R469). (log entry 133,
DEDUCED). -/
def State.writeWindow (s : State) (tx : Bool) (m a : Nat) (v : BitVec 32) : State :=
  let s := s.plainWrite a v
  let k := m + (if tx then 64 else 0)
  if tget (fun _ => false) s.dict.armed k then
    { s with dict := { s.dict with armed := tset (fun _ => false) s.dict.armed k false } }.bump F.DICT_PD_SKIP_CNT_COUNT
  else s

/-- A write to UPL_CTL: the port takes the state its conditions give it (spec/11 R400, R406). -/
def State.writeUplCtl (s : State) (u : Nat) (v : BitVec 32) : State :=
  let tx := s.is (F.UPL_CTL_PAUSE_TX_EN u)
  let s := (s.plainWrite (A.UPL_CTL u) v).uplRefresh u none none
  if !tx && s.is (F.UPL_CTL_PAUSE_TX_EN u) then s.pausePort u else s

/-- A write to CL_CTL: a link that is disabled goes DOWN, one that is enabled sends IDLE_0 (spec/11 Sequence 11.1, step 1). -/
def State.writeClCtl (s : State) (n : Nat) (v : BitVec 32) : State :=
  let en := s.is (F.CL_CTL_EN n)
  let s := s.plainWrite (A.CL_CTL n) v
  if s.is (F.CL_CTL_EN n) then (if en then s else s.cellIdle n false) else s.cellOff n none none

/-- Writes to the SYS block; each breaks a watchdog kick in progress (spec/16 R564). -/
def State.writeSysBlock (s : State) (base a : Nat) (v : BitVec 32) : State :=
  if base = A.SYS_WDT_KICK then s.wdtKick v
  else if base = A.SYS_LC_CMD then s.lcCommand (v.toNat % 8) none
  else if base = A.SYS_BOOT_TRY then s.writeBootTry v
  else if base = A.SYS_AON_RST then s.writeAonRst v false
  else if base = A.SYS_PCORE_RST then s.writePcoreRst v
  else if base = A.SYS_PCORE_CTL then s.writePcoreCtl v
  else if base = A.SYS_WDT_CTL then s.writeWdtCtl v
  else if base = A.SYS_OTP_OP then s.otpOp v
  else { s with kick := false }.plainWrite a v

/-- Writes to the memory controllers and the pools. -/
def State.writeMemBlock (s : State) (base a i : Nat) (v : BitVec 32) : State :=
  if base = A.SDC_CTRL 0 then s.writeSdcCtrl i v
  else if base = A.MEMECC_CTRL then s.writeMemeccCtrl v
  else if base = A.POOL_CFG 0 then s.writePoolCfg i v
  else if base = A.POOL_BASE_LO 0 ∨ base = A.POOL_BASE_HI 0 ∨ base = A.POOL_COUNT 0 ∨ base = A.POOL_META_LO 0
      ∨ base = A.POOL_META_HI 0 then s.writeLayout i a v
  else if base = A.AUDIT_CTL then s.auditCtlWrite v
  else s.plainWrite a v

/-- Writes to the scheduler: a domain of another type follows that type's rules from then on (spec/09 Table 9.5), and a larger
share lets a waiting SEND go on (spec/09 Table 9.4). -/
def State.writeSchBlock (s : State) (base a i : Nat) (v : BitVec 32) : State :=
  let s' := s.plainWrite a v
  if base = A.SCH_DOM_TYPE 0 then
    (List.range 16).foldl (fun s' k => if s.domType (16 * i + k) = s'.domType (16 * i + k) then s'
      else s'.retype (16 * i + k)) s'
  else if base = A.GRP_MIN 0 ∨ base = A.GRP_MAX 0 then s'.pokeSend
  else s'

/-- Writes to the tiles; supervisors named anew that can take no records leave the queued ones to P-core 0 (spec/05 R191). -/
def State.writeTileBlock (s : State) (base a i j k : Nat) (v : BitVec 32) : State :=
  if base = A.THREAD_CTL 0 0 then (if v.toNat.testBit 0 then s.startThread (32 * i + j) else s)
  else if base = A.THREAD_CFG 0 0 then s.writeThreadCfg (32 * i + j) v
  else if base = A.PR_BASE_LO 0 0 0 then s.writeRegion i j k 0 v
  else if base = A.PR_BASE_HI 0 0 0 then s.writeRegion i j k 1 v
  else if base = A.PR_LIMIT_LO 0 0 0 then s.writeRegion i j k 2 v
  else if base = A.PR_LIMIT_HI 0 0 0 then s.writeRegion i j k 3 v
  else if base = A.TILE_SUPV 0 then (s.plainWrite a v).escalateQueued i
  else s.plainWrite a v

/-- Writes to the parser and the classifier; a new slow target can let a waiting SEND go on (spec/09 R309, Table 9.4). -/
def State.writeClsBlock (s : State) (base a i : Nat) (v : BitVec 32) : State :=
  if base = A.PRS_BANK then s.writePrsBank v 0
  else if base = A.PRS_CMD then s.prsCommand v
  else if base = A.CLS_COMMIT then (if v.toNat.testBit 0 then s.commit else s)
  else if base = A.CLS_FRAG_CTL then s.writeFragCtl v
  else if base = A.RULE_W 0 then s.writeRule i v
  else if base = A.CLS_SLOW then (s.plainWrite a v).pokeSend
  else s.plainWrite a v

/-- Writes to the ring, the uplinks and the cell links. -/
def State.writePortBlock (s : State) (base a i j : Nat) (v : BitVec 32) : State :=
  if base = A.RING_CTL then s.writeRingCtl v
  else if base = A.PDM_RX 0 then s.writeWindow false i a v
  else if base = A.PDM_TX 0 then s.writeWindow true i a v
  else if base = A.PDM_TX_BANK 0 then (if v.toNat.testBit 8 then s.pdmCommit i else s)
  else if base = A.UPL_CTL 0 then s.writeUplCtl i v
  else if base = A.TS_STAT 0 0 then (if v.toNat.testBit 16 then s.setTs i (j == 1) ((s.tsFifo i (j == 1)).drop 1) else s)
  else if base = A.CL_CTL 0 then s.writeClCtl i v
  else s.plainWrite a v

/-- A write to a declaration's TYPE, ACCESS, STATES and EN: FW is forced to 1 and MAPPABLE to 0 (spec/12 Table 12.11). -/
def State.writeDecl (s : State) (a : Nat) (v : BitVec 32) : State :=
  s.plainWrite a ((v ||| 0x4000) &&& 0xFFFF7FFF)

/-- Writes to the dictionary engine. -/
def State.writeDictBlock (s : State) (base a : Nat) (v : BitVec 32) : State :=
  if base = A.DICT_STATE_CMD then s.pcoreStateCmd (v.toNat % 8)
  else if base = A.DICT_SUB_GO then (if v.toNat.testBit 0 then s.subGo else s)
  else if base = A.DICT_FWD_POP then (if v.toNat.testBit 0 then s.fwdPop else s)
  else if base = A.DICT_FWD_RESP then s.fwdResp v
  else if base = A.DECL_1 0 then s.writeDecl a v
  else if base = A.DICT_RPL_RD then (s.plainWrite a v).settleLeaving
  else if base = A.DICT_FWD_TOTAL then { s with dict := { s.dict with total := v.toNat } }
  else s.plainWrite a v

/-- Writes to the timers, the captures and the recorder. -/
def State.writeTimeBlock (s : State) (base a i : Nat) (v : BitVec 32) : State :=
  if base = A.TMR_CTL 0 then s.writeTmrCtl i v
  else if base = A.TMR_CMP_A_LO 0 then s.writeCmpLo i false v
  else if base = A.TMR_CMP_A_HI 0 then s.writeCmpHi i false v
  else if base = A.TMR_CMP_B_LO 0 then s.writeCmpLo i true v
  else if base = A.TMR_CMP_B_HI 0 then s.writeCmpHi i true v
  else if base = A.CAP_CTL 0 then s.writeCapCtl i v
  else if base = A.REC_CMD then s.writeRecCmd v
  else if base = A.REC_RD_SEL then s.writeRecSel v
  else s.plainWrite a v

/-- Writes to self-test, exchange and the host interface. At the addresses of EXCH_PC_CTL and EXCH_PC_STAT stands the task entry
of tile 4 too (spec/17 R627, log entry 240, DESIGN CHOICE). -/
def State.writeHostBlock (s : State) (base a : Nat) (v : BitVec 32) : State :=
  if base = A.ST_CTL then s.testStart (v.toNat % 64)
  else if base = A.ST_RING_CAL then (let s := s.plainWrite a v; if v.toNat.testBit 0 then s.ringCal else s)
  else if base = A.EXCH_CTL then (if v.toNat.testBit 0 then s.exchCommit else s)
  else if base = A.EXCH_PC_CTL then
    if v.toNat.testBit 0 then s.exchGo (bits v.toNat 1 1) else { s with field := { s.field with task4Lo := v } }
  else if base = A.EXCH_PC_STAT then
    { s.plainWrite a v with field := { s.field with task4Hi := v.setWidth 8 } }
  else if base = A.UART_DATA then s.uartWrite (v.setWidth 8)
  else if base = A.I2C_CMD then s.i2cWrite v
  else s.plainWrite a v

/-- A software write to the register at an M-bus address; where no register stands it is ignored (spec/00 R12, spec/02
R46). -/
def State.mbusWrite (s : State) (a : Nat) (v : BitVec 32) : State :=
  match regRow a with
  | none => s
  | some (r, idx) =>
    let i := idx.headD 0
    let j := (idx.drop 1).headD 0
    let h := a / 0x10000
    let s := s.settleFor h r.base
    if h = 0x4000 then s.writeSysBlock r.base a v
    else if h = 0x4030 ∨ h = 0x4008 then s.writeMemBlock r.base a i v
    else if h = 0x400C then s.writeSchBlock r.base a i v
    else if 0x4010 ≤ h ∧ h < 0x4016 then s.writeTileBlock r.base a i j ((idx.drop 2).headD 0) v
    else if h = 0x4009 ∨ h = 0x400A then s.writeClsBlock r.base a i v
    else if 0x4020 ≤ h ∧ h ≤ 0x4022 then s.writePortBlock r.base a i j v
    else if h = 0x4040 ∨ h = 0x4041 then s.writeDictBlock r.base a v
    else if h = 0x4002 ∨ h = 0x4003 then s.writeTimeBlock r.base a i v
    else if h = 0x4050 ∨ h = 0x4060 then s.writeHostBlock r.base a v
    else if r.base = A.PWR_FIXED then s.writeFixed v
    else s.plainWrite a v

/-- REGISTER_WRITE (spec/00 R9 to R12). -/
def execRegisterWrite (addr v : BitVec 32) (s : State) : Out :=
  .next (s.whenOn (fun s => s.mbusWrite addr.toNat v))

end Sys2Proof.Machine
end

