-- ==== Sys2Proof/Machine/Mem.lean ====
section
/-! DEFINITION. Loads and stores of threads and Puppeteer cores, their ordering, posted writes, CLEAN and CINV (spec/02, spec/04
R131 to R135, R148, spec/05 R161 to R167, R193 to R199, R673). -/

namespace Sys2Proof.Machine

/-! ### Where an access goes and under which attributes -/

/-- What the checks before the target leave of an access: its address with cacheability (0 NC, 1 WT, 2 WB) and ordering (0
STRONG, 1 RELAXED, 2 POSTED), or a fault. -/
inductive Checked where
  | ok (addr cache order : Nat)
  | flt (code : Nat) (info : Val)
  deriving DecidableEq, Repr

/-- imm16 as a signed number. -/
def immInt (imm : BitVec 16) : Int := imm.toInt

/-- The address of a data-plane byte as thread `t` issues it (spec/02 Table 2.6). -/
def viewAddr (t a : Nat) : Nat := if isPcore t && decide (a < 0x30000000) then 0x100000000 + a else a

/-- Whether an address lies in ingot memory or in the range of SDRAM (spec/02 R52). -/
def farAddr (a : Nat) : Bool := decide (a < 0x1000000) || (decide (0x1000000000 ≤ a) && decide (a < 0x2000000000))

/-- Cacheability applies to ingot and SDRAM only, and to worker threads only (spec/02 R52, R61, spec/05 R167). (log entry 28,
DEDUCED). -/
def cacheAt (t a c : Nat) : Nat :=
  if isPcore t || !farAddr a then 0 else if c = 3 then 0 else c

/-- A reserved ordering acts as STRONG, and a Puppeteer access is STRONG (spec/05 R166, R167). -/
def orderAt (t o : Nat) : Nat := if isPcore t || o == 3 then 0 else o

/-- Whether an address admits an access of `n` bytes: natural alignment; 4 bytes only in the M-bus window, and for a Puppeteer
core in a register block (spec/02 R32, R41, R45). -/
def State.sizeOk (s : State) (t a n : Nat) : Bool :=
  a % n == 0 && (n == 4 || !(inWindow a || (isPcore t && (match s.locate t a with | .mbus _ => true | _ => false))))

/-- Checks 4 to 6 of R126 for a HANDLE base (spec/04 R132, R133, spec/06 Table 6.4). -/
def State.checkHandle (s : State) (t : Nat) (h : Word) (off : Int) (n : Nat) : Checked :=
  match s.handleCheck h .access (s.th t).acct (s.priv t) with
  | some c => .flt c h.val
  | none =>
    if !rangeOk (s.hLayout h) off n then .flt 0x07 h.val
    else
      let a := s.hAddr h off.toNat
      let p := hPool h.val
      if a % n ≠ 0 then .flt 0x03 (BitVec.ofNat 64 a)
      else .ok (viewAddr t a) (cacheAt t a (s.rd (F.POOL_CFG_CACHE p))) (orderAt t (s.rd (F.POOL_CFG_ORDER p)))

/-- Checks 6 and 7 of R126 for a raw address (spec/04 R131, spec/05 R162 to R167). -/
def State.checkRaw (s : State) (t a n : Nat) (store : Bool) : Checked :=
  if !s.sizeOk t a n then .flt 0x03 (BitVec.ofNat 64 a)
  else if isPcore t then .ok a 0 0
  else match deciding (s.th t).set.regions (s.priv t) a with
    | some r =>
      if (if store then r.w else r.r) then .ok a (cacheAt t a r.cache) (orderAt t r.order)
      else .flt (if store then 0x05 else 0x04) (BitVec.ofNat 64 a)
    | none => .flt (if store then 0x05 else 0x04) (BitVec.ofNat 64 a)

/-- Check 3 of R126 for the word that a store of `n` bytes to address `a` writes (spec/04 R134, spec/02 Table 2.2). (log
entry 27, DEDUCED). -/
def checkSource (a n : Nat) (raw : Bool) (src : Word) : Option (Nat × Val) :=
  if n ≠ 8 ∧ src.kind = .poison then some (0x0B, src.val)
  else if src.kind ≠ .data ∧ raw ∧ inWindow a then some (0x12, src.tag.setWidth 64)
  else none

/-- The pool manager's read of the metadata word that a load or store through a HANDLE base makes it look up (spec/06
Table 6.4). -/
def State.touchBase (s : State) (b : Word) (imm : BitVec 16) (n : Nat) (src : Option Word) : State :=
  if b.kind = .handle ∧ (src.bind (checkSource (b.val + sext16 imm).toNat n false)).isNone then s.touchHandle b .access
  else s

/-- The checks of a load or store of `n` bytes, in the order of R126; `src`: the word a store writes. -/
def State.checkAccess (s : State) (t : Nat) (b : Word) (imm : BitVec 16) (n : Nat) (src : Option Word) : Checked :=
  let a := (b.val + sext16 imm).toNat
  if b.kind = .poison then .flt 0x0B b.val
  else match src.bind (checkSource a n (b.kind != .handle)) with
    | some (c, i) => .flt c i
    | none =>
      if b.kind = .handle then s.checkHandle t b (hOffset b.val + immInt imm) n
      else s.checkRaw t a n src.isSome

/-! ### Order at the targets (spec/02 R59, R60, spec/05 R673) -/

/-- Whether an earlier outstanding store must be performed before store `p`. (log entry 25, DEDUCED). -/
def State.before (s : State) (t : Nat) (e p : Posted) : Bool :=
  s.sameTarget t e.addr p.addr || s.sameAddr t e.addr e.size p.addr p.size || decide (e.mark < p.mark)

/-- Whether store `p` waits for one of the earlier posted writes `q`, or for a timed-out one that its target may still perform:
each memory performs a thread's stores in program order (spec/02 R60, spec/05 R673). (log entry 196, DEDUCED). -/
def State.storeWaits (s : State) (t : Nat) (q : List Posted) (p : Posted) : Bool :=
  q.any (fun e => s.before t e p)
    || (s.th t).limbo.any (fun e => s.sameTarget t e.addr p.addr || s.sameAddr t e.addr e.size p.addr p.size)

/-- Whether a load waits for an outstanding or timed-out store to its address. -/
def State.loadWaits (s : State) (t : Nat) (p : PendLoad) : Bool := s.accessWaits t p.addr p.size

/-! ### Loads -/

/-- A load issues: the thread is BLOCKED; past a RELAXED one the pc goes on (spec/02 Table 2.11, spec/04 R152). (log entry
23, DEDUCED). -/
def Thread.startLoad (x : Thread) (rd : Reg) (n : Nat) (signed : Bool) (a c o : Nat) : Thread :=
  let p : PendLoad := ⟨rd, n, signed, a, c, o != 0, false, x.regs, x.pc⟩
  let x := { x with life := .blocked, wait := some (.load p) }
  if o = 0 then { x with strongs := x.strongs + 1 } else x.next

/-- Issue a load of `n` bytes. -/
def State.load (s : State) (t : Tid) (rd rs1 : Reg) (imm : BitVec 16) (n : Nat) (signed : Bool) : State :=
  s.issue t.val .m [rs1] (fun s =>
    let s := s.touchBase (s.w t.val rs1.val) imm n none
    match s.checkAccess t.val (s.w t.val rs1.val) imm n none with
    | .flt c i => .flt s c i
    | .ok a c o => .go (s.modTh t.val (fun x => x.startLoad rd n signed a c o)))

/-- LB (spec/04 Table 4.4). -/
def execLb (t : Tid) (rd rs1 : Reg) (imm : BitVec 16) (s : State) : Out := .next (s.load t rd rs1 imm 1 true)

/-- LBU (spec/04 Table 4.4). -/
def execLbu (t : Tid) (rd rs1 : Reg) (imm : BitVec 16) (s : State) : Out := .next (s.load t rd rs1 imm 1 false)

/-- LH (spec/04 Table 4.4). -/
def execLh (t : Tid) (rd rs1 : Reg) (imm : BitVec 16) (s : State) : Out := .next (s.load t rd rs1 imm 2 true)

/-- LHU (spec/04 Table 4.4). -/
def execLhu (t : Tid) (rd rs1 : Reg) (imm : BitVec 16) (s : State) : Out := .next (s.load t rd rs1 imm 2 false)

/-- LW (spec/04 Table 4.4). -/
def execLw (t : Tid) (rd rs1 : Reg) (imm : BitVec 16) (s : State) : Out := .next (s.load t rd rs1 imm 4 true)

/-- LWU (spec/04 Table 4.4). -/
def execLwu (t : Tid) (rd rs1 : Reg) (imm : BitVec 16) (s : State) : Out := .next (s.load t rd rs1 imm 4 false)

/-- LD (spec/04 Table 4.4). -/
def execLd (t : Tid) (rd rs1 : Reg) (imm : BitVec 16) (s : State) : Out := .next (s.load t rd rs1 imm 8 false)

/-- `n` bytes extended to 64 bits (spec/02 R33, spec/04 Table 4.4). -/
def extend (n : Nat) (signed : Bool) (v : Nat) : Val :=
  match n, signed with
  | 1, true => (BitVec.ofNat 8 v).signExtend 64
  | 2, true => (BitVec.ofNat 16 v).signExtend 64
  | 4, true => (BitVec.ofNat 32 v).signExtend 64
  | _, _ => BitVec.ofNat 64 v

/-- The load of a thread ends with its result (spec/02 Table 2.11). -/
def State.loadEnd (s : State) (t : Nat) (p : PendLoad) (w : Word) : State :=
  s.modTh t (fun x =>
    let x := if p.stale then x else x.setReg p.rd.val w
    let x := { x with life := .running, wait := none }
    if p.relaxed then x else x.next)

/-- The load of a thread ends in a fault: work that ran past a RELAXED one is discarded; an uncorrectable error leaves its
POISON word in the destination (spec/04 R127, spec/02 Tables 2.11, 2.14), unless BUDGET comes instead (spec/03 R102, R103). -/
def State.loadFault (s : State) (t : Nat) (p : PendLoad) (code : Nat) (info : Val) (w : Option Word) : State :=
  let due := s.budgetDue t
  let s := s.modTh t (fun x =>
    let x := if p.relaxed then { x with regs := p.snapRegs, pc := p.snapPc } else x
    match w with
    | some w => if due then x else x.setReg p.rd.val w
    | none => x)
  s.raise t code info

/-- What a load takes from a word of memory (spec/02 Table 2.2). (log entry 20, DEDUCED). -/
def loadValue (p : PendLoad) (k : Nat) (w : Word) : Word :=
  if p.size = 8 then w
  else Word.data (extend p.size (p.signed && !inWindow p.addr) (extractBytes w.val (k % 8) p.size))

/-- Read the word of a load in a memory. (log entry 29, DESIGN CHOICE). -/
def State.loadRead (s : State) (t : Nat) (p : PendLoad) (m : MemId) (k : Nat) : State × Word × Bool :=
  if m.dark s.vcoreOn then (s, (Config.lostWord (wordKey k)).readAs, false)
  else if isPcore t then s.readWord m (wordKey k)
  else s.cachedRead (tileOf t) p.cache m k

/-- The target answers the load of a thread (spec/02 R38, Tables 2.2, 2.4, 2.14); it answers no HALTED thread (spec/04 R156),
and waits for earlier stores to the address (spec/05 R673). (log entry 59, DEDUCED). -/
def State.loadReturn (s : State) (t : Nat) : State :=
  match (s.th t).life, (s.th t).wait with
  | .blocked, some (.load p) =>
    if s.loadWaits t p then s
    else match s.locate t p.addr with
      | .fail _ => s.loadFault t p 0x04 (BitVec.ofNat 64 p.addr) none
      | .mbus a =>
        let (s, v) := s.mbusRead .software a
        s.loadEnd t p (Word.data (extend 4 (p.signed && !inWindow p.addr) v.toNat))
      | .cell m k =>
        let (s, w, ue) := s.loadRead t p m k
        if ue then s.loadFault t p 0x0C (BitVec.ofNat 64 p.addr) (some w)
        else if p.size ≠ 8 ∧ w.kind = .poison then s.loadFault t p 0x0B w.val none
        else s.loadEnd t p (loadValue p k w)
  | _, _ => s

/-- LOAD_DATA_RETURN (spec/04 R152). -/
def execLoadDataReturn (t : Tid) (s : State) : Out := .next (s.loadReturn t.val)

/-! ### Stores -/

/-- The target performs a store; its status (spec/02 Table 2.4). -/
def State.performStore (s : State) (t : Nat) (p : Posted) : State × Nat :=
  match s.locate t p.addr with
  | .fail st => (s, st)
  | .mbus a => (s.mbusWrite a (p.data.val.setWidth 32), 0)
  | .cell m k =>
    if m.dark s.vcoreOn then (s, 0)
    else if isPcore t then s.memStore m k p.size p.data
    else s.cachedStore (tileOf t) p.cache m k p.size p.data

/-- The fault of a store whose target answers a status, with its INFO (spec/02 Table 2.4). -/
def State.storeFault (s : State) (t : Nat) (p : Posted) (st : Nat) : Nat × Val :=
  if st = 2 then (0x0C, BitVec.ofNat 64 p.addr)
  else if st = 4 then
    (0x0B, match s.locate t p.addr with
      | .cell m k => if p.cache = 2 then (s.cachedRead (tileOf t) 2 m k).2.1.val else (s.word (wordKey k)).val
      | _ => 0)
  else (0x05, BitVec.ofNat 64 p.addr)

/-- A STRONG or RELAXED store is performed: the thread goes on, or raises the fault of its status. -/
def State.storeNow (s : State) (t : Nat) (p : Posted) (go : Thread → Thread) : State × Option (Nat × Val) :=
  match s.locate t p.addr with
  | .mbus a => ((s.modTh t go).mbusWrite a (p.data.val.setWidth 32), none)
  | _ =>
    let (s, st) := s.performStore t p
    if st = 0 then (s.modTh t go, none) else (s, some (s.storeFault t p st))

/-- A store waits. -/
def State.blockStore (s : State) (t : Nat) (posted : Bool) (p : Posted) : State :=
  s.modTh t (fun x => { x with life := .blocked, wait := some (.store posted p) })

/-- A RELAXED store waits at its target; the thread's A-pipe work runs past it (spec/02 Table 2.11). -/
def State.waitRelaxed (s : State) (t : Nat) (p : Posted) : State :=
  s.modTh t (fun x => { x with life := .blocked, wait := some (.relaxedStore p x.regs x.pc) }.next)

/-- A store that passed its checks (spec/02 Table 2.11, spec/05 R193): a posted one joins the outstanding ones, at most 16;
any other is performed once nothing before it is outstanding. (log entry 24, DESIGN CHOICE). -/
def State.storeIssue (s : State) (t : Nat) (p : Posted) (o : Nat) : Act :=
  if o = 2 then
    if (s.th t).posted.length < 16 then .go (s.modTh t (fun x => { x with posted := x.posted ++ [p] }.next))
    else .go (s.blockStore t true p)
  else
    let s := if o = 0 then s.modTh t (fun x => { x with strongs := x.strongs + 1 }) else s
    if s.storeWaits t (s.th t).posted p then .go (if o = 0 then s.blockStore t false p else s.waitRelaxed t p)
    else match s.storeNow t p Thread.next with
      | (s, none) => .go s
      | (s, some (c, i)) => .flt s c i

/-- Issue a store of `n` bytes. -/
def State.store (s : State) (t : Tid) (rs2 rs1 : Reg) (imm : BitVec 16) (n : Nat) : State :=
  s.issue t.val .m [rs1, rs2] (fun s =>
    let d := s.w t.val rs2.val
    let s := s.touchBase (s.w t.val rs1.val) imm n (some d)
    match s.checkAccess t.val (s.w t.val rs1.val) imm n (some d) with
    | .flt c i => .flt s c i
    | .ok a c o => s.storeIssue t.val ⟨a, n, d, c, (s.th t.val).strongs⟩ o)

/-- SB (spec/04 Table 4.4). -/
def execSb (t : Tid) (rs2 rs1 : Reg) (imm : BitVec 16) (s : State) : Out := .next (s.store t rs2 rs1 imm 1)

/-- SH (spec/04 Table 4.4). -/
def execSh (t : Tid) (rs2 rs1 : Reg) (imm : BitVec 16) (s : State) : Out := .next (s.store t rs2 rs1 imm 2)

/-- SW (spec/04 Table 4.4). -/
def execSw (t : Tid) (rs2 rs1 : Reg) (imm : BitVec 16) (s : State) : Out := .next (s.store t rs2 rs1 imm 4)

/-- SD (spec/04 Table 4.4). -/
def execSd (t : Tid) (rs2 rs1 : Reg) (imm : BitVec 16) (s : State) : Out := .next (s.store t rs2 rs1 imm 8)

/-- A thread BLOCKED on a store goes on as far as it can. -/
def State.pokeStore (s : State) (t : Nat) : State :=
  match (s.th t).life, (s.th t).wait with
  | .blocked, some (.store true p) =>
    if (s.th t).posted.length < 16 then s.modTh t (fun x => { x with posted := x.posted ++ [p] }.unblock) else s
  | .blocked, some (.store false p) =>
    if s.storeWaits t (s.th t).posted p then s
    else match s.storeNow t p Thread.unblock with
      | (s, none) => s
      | (s, some (c, i)) => s.raise t c i
  | .blocked, some (.relaxedStore p _ _) =>
    if s.storeWaits t (s.th t).posted p then s
    else match s.storeNow t p (fun x => { x with life := .running, wait := none }) with
      | (s, none) => s
      | (s, some (c, i)) => (s.modTh t Thread.rewind).raise t c i
  | _, _ => s

/-! ### Posted writes -/

/-- The target performs the `k`-th outstanding posted write and returns its status, unless an earlier one comes first; beyond
the outstanding ones stand those that timed out, whose status the thread never receives (spec/05 R194, R196, R199, R673).
(log entry 26, DESIGN CHOICE). -/
def State.postedStatus (s : State) (t k : Nat) : State :=
  let s := s.standbyLate t
  let x := s.th t
  match x.posted[k]? with
  | some p =>
    if s.storeWaits t (x.posted.take k) p then s
    else
      let (s, st) := (s.setTh t { x with posted := x.posted.eraseIdx k }).performStore t p
      let s := if st = 0 then s else s.modTh t (fun x => x.postFail p.addr st p.cache)
      (s.pokeDrain t).pokeStore t
  | none =>
    let k := k - x.posted.length
    match x.limbo[k]? with
    | some p =>
      if (x.limbo.take k).any (fun e => s.before t e p) then s
      else ((s.setTh t { x with limbo := x.limbo.eraseIdx k }).performStore t p).1.pokeStore t
    | none => s

/-- POSTED_WRITE_STATUS (spec/05 R194, R199). -/
def execPostedWriteStatus (t : Tid) (k : Nat) (s : State) : Out := .next (s.postedStatus t.val k)

/-! ### CLEAN and CINV -/

/-- CLEAN or CINV (spec/04 Table 4.9, R148): outside ingot memory and SDRAM, and on a Puppeteer core, which has no tile
cache, it has no effect; else the address of rs1 needs W, whether its line is cached or not (spec/02 R667); a handle passes
the pool manager's checks. It waits for the thread's posted stores to the line (spec/05 R673). (log entry 21, DEDUCED). -/
def State.cleanInv (s : State) (t : Tid) (rs1 : Reg) (inval : Bool) : State :=
  s.issue t.val .m [rs1] (fun s => s.noPoison t.val [rs1] (fun s =>
    let h := s.w t.val rs1.val
    let a := h.val.toNat
    if h.kind = .handle then
      let s := s.touchHandle h .access
      match s.checkHandle t.val h (hOffset h.val) 1 with
      | .ok a _ _ =>
        if isPcore t.val then .go (s.step1 t.val)
        else if s.accessWaits t.val (a / 64 * 64) 64 then .go s
        else .go ((s.cleanLine (tileOf t.val) a inval).step1 t.val)
      | .flt c i => .flt s c i
    else if isPcore t.val || !farAddr a then .go (s.step1 t.val)
    else match s.checkRaw t.val a 1 true with
      | .ok a _ _ =>
        if s.accessWaits t.val (a / 64 * 64) 64 then .go s
        else .go ((s.cleanLine (tileOf t.val) a inval).step1 t.val)
      | .flt c i => .flt s c i))

/-- CLEAN (spec/04 R148). -/
def execClean (t : Tid) (rs1 : Reg) (s : State) : Out := .next (s.cleanInv t rs1 false)

/-- CINV (spec/04 R148). -/
def execCinv (t : Tid) (rs1 : Reg) (s : State) : Out := .next (s.cleanInv t rs1 true)

end Sys2Proof.Machine
end

