-- ==== Sys2Proof/Machine/Debug.lean ====
section
/-! DEFINITION. The debug port: its commands over the TAP, debug halt and release, and the boundary-scan instructions
(spec/16 R587 to R591, spec/17 R606 to R609). -/

namespace Sys2Proof.Machine

/-! ### Answers (spec/16 Table 16.6) -/

/-- The TAP selects an instruction: while EXTEST, HIGHZ or CLAMP is selected, the bypass is closed and every port is DOWN
(R588). -/
def State.selectTap (s : State) (i : TapInstr) : State :=
  let t := { s with tap := i }
  (if t.scanning then t.ringOff else t).portsRefresh.cellsBack s

/-- The TAP has held DBG_CMD and now holds DBG_DATA: a boundary instruction that it held before has ended. -/
def State.dbgTap (s : State) : State := if s.scanning then s.selectTap .dbgData else { s with tap := .dbgData }

/-- A command's result, captured in DBG_DATA: status, tag, value. -/
def State.dbgReply (s : State) (status : Nat) (w : Word) : State :=
  s.dbgTap.send (beBytes 1 status ++ beBytes 1 w.tag.toNat ++ beBytes 8 w.val.toNat)

/-- A status alone. -/
def State.dbgStatus (s : State) (status : Nat) : State := s.dbgReply status Word.zero

/-- A command that needs unlock (R589). (log entry 182, DEDUCED). -/
def State.unlocked (s : State) (f : State → State) : State :=
  s.whenOn (fun s => if s.dbgLevel = 0 then s.dbgStatus 0x02 else f s)

/-- STATUS (Table 16.7): every command ends in its own step, so BUSY is 0. -/
def execDbgStatus (s : State) : Out :=
  .next (s.whenOn (fun s => s.dbgReply 0 (Word.data (BitVec.ofNat 64
    (s.dbgLevel + s.rd F.SYS_DBG_STAT_LOCKOUT * 4 + s.rd F.SYS_LC_STATE * 16)))))

/-! ### Unlock (R590) -/

/-- Whether Table 16.4 admits a level by challenge. -/
def State.dbgAdmits (s : State) (level : Nat) : Bool :=
  match s.rd F.SYS_LC_STATE with
  | 1 | 2 => level == 1
  | 3 => level == 2
  | _ => false

/-- CHALLENGE: two captures give the nonce. (log entry 183, DEDUCED). -/
def State.challenge (s : State) (level : Nat) : State :=
  if s.is F.SYS_DBG_STAT_LOCKOUT then s.dbgStatus 0x02
  else if !s.dbgAdmits level then s.dbgStatus 0x03
  else
    let (k, s) := s.fresh
    let n := Config.nonce k % 2 ^ 128
    let s := { s with boot := { s.boot with nonce := some (n, level) } }
    (s.dbgReply 0 (Word.data (BitVec.ofNat 64 (n / 2 ^ 64)))).dbgReply 0 (Word.data (BitVec.ofNat 64 n))

/-- CHALLENGE (R590). -/
def execChallenge (arg : BitVec 40) (s : State) : Out := .next (s.whenOn (fun s => s.challenge (arg.toNat % 4)))

/-- The eight fuse words of a key, each most significant byte first. -/
def State.fuseKey (s : State) (at_ : Nat) : List Byte :=
  (List.range 8).flatMap (fun i => beBytes 4 (s.otpWord (at_ + i)).toNat)

/-- The response that unlocks a level. (log entry 184, DEDUCED). -/
def State.unlockTag (s : State) (n level : Nat) : List Byte :=
  (hmac (s.fuseKey (if level = 1 then 0x80 else 0x18))
    ([0x44, 0x42, 0x47, 0x55] ++ beBytes 16 n ++ beBytes 8 Config.serial ++ beBytes 1 level)).take 16

/-- A wrong response; the third sets the lockout. -/
def State.wrongResponse (s : State) : State :=
  let n := satTo 3 (s.boot.wrong + 1)
  let s := { s with boot := { s.boot with wrong := n } }
  (if n = 3 then s.wr F.SYS_DBG_STAT_LOCKOUT 1 else s).dbgStatus 0x02

/-- RESPONSE: the open nonce is used up; a correct response sets the level that Table 16.4 admits. -/
def State.response (s : State) (r : List Byte) : State :=
  match s.boot.nonce with
  | none => s.wrongResponse
  | some (n, level) =>
    let s := { s with boot := { s.boot with nonce := none } }
    if s.unlockTag n level ≠ r then s.wrongResponse
    else if !s.dbgAdmits level then s.dbgStatus 0x03
    else (s.wr F.SYS_DBG_STAT_LEVEL level).dbgStatus 0

/-- RESPONSE (R590). -/
def execResponse (hi lo : BitVec 64) (s : State) : Out :=
  .next (s.whenOn (fun s => s.response (beBytes 8 hi.toNat ++ beBytes 8 lo.toNat)))

/-- LOCK (Table 16.7). -/
def execLock (s : State) : Out :=
  .next (s.whenOn (fun s => (s.wr F.SYS_DBG_STAT_LEVEL 0).dbgStatus 0))

/-! ### READ and WRITE of the Puppeteer map -/

/-- Debug READ: 8 bytes of memory with their tag, 4 bytes of a register. (log entry 185, DEDUCED). -/
def State.debugRead (s : State) (a : Nat) : State :=
  match s.locate 192 a with
  | .fail st => s.dbgStatus (0x10 + st)
  | .mbus r =>
    let (s, v) := s.mbusRead .other (r / 4 * 4)
    s.dbgReply 0 (Word.data (v.setWidth 64))
  | .cell m k =>
    if m.dark s.vcoreOn then s.dbgReply 0 (Config.lostWord (wordKey k)).readAs
    else
      let (s, w, ue) := s.readWord m (wordKey k)
      s.dbgReply (if ue then 0x12 else 0) w

/-- DEBUG_READ (R589, R591). -/
def execDebugRead (addr : BitVec 40) (s : State) : Out := .next (s.unlocked (fun s => s.debugRead addr.toNat))

/-- Debug WRITE: memory takes a DATA word (R591); the always-on action reset needs no CONFIG (Table 16.1); a register whose
write programs a fuse takes none (R591). (log entry 216, DESIGN CHOICE). -/
def State.debugWrite (s : State) (a : Nat) (v : BitVec 64) : State :=
  match s.locate 192 a with
  | .fail st => s.dbgStatus (0x10 + st)
  | .mbus r =>
    let s := s.dbgStatus 0
    if r / 4 * 4 = A.SYS_AON_RST then s.writeAonRst (v.setWidth 32) true
    else if r / 4 * 4 = A.SYS_LC_CMD || r / 4 * 4 = A.SYS_OTP_OP then s
    else s.mbusWrite (r / 4 * 4) (v.setWidth 32)
  | .cell m k =>
    if m.dark s.vcoreOn then s.dbgStatus 0
    else
      let (s, st) := s.memStore m (wordKey k) 8 (Word.data v)
      s.dbgStatus (if st = 0 then 0 else 0x10 + st)

/-- DEBUG_WRITE (R589, R591). -/
def execDebugWrite (addr : BitVec 40) (data : BitVec 64) (s : State) : Out :=
  .next (s.unlocked (fun s => s.debugWrite addr.toNat data))

/-! ### HALT and RELEASE (spec/17 R606 to R609) -/

/-- RELEASE of a thread or core; P-core 0 halted before the boot ROM starts it, and a store may go on at once. -/
def State.releaseAny (s : State) (t : Nat) : State :=
  if t = 192 && s.boot.romHalt then
    ({ s with boot := { s.boot with romHalt := false } }.modTh 192 (fun x => { x with life := x.saved })).romStart
  else (s.releaseThread t).pokeStore t

/-- A halt command: its target is a thread or a core; its record, then its effect. -/
def State.haltCmd (s : State) (code target : Nat) (f : State → State) : State :=
  if target > 193 then s.dbgStatus 0x11 else (f (s.offer 0x00 code target)).dbgStatus 0

/-- HALT (spec/17 R606 to R609). -/
def execHalt (target : BitVec 40) (s : State) : Out :=
  .next (s.unlocked (fun s => s.haltCmd 0x40 target.toNat (fun s => s.haltThread target.toNat)))

/-- RELEASE (spec/17 R607, R609). -/
def execRelease (target : BitVec 40) (s : State) : Out :=
  .next (s.unlocked (fun s => s.haltCmd 0x41 target.toNat (fun s => s.releaseAny target.toNat)))

/-! ### Reset, provisioning, scrapping -/

/-- RESET_WARM: the debug reset; with HALT_AT_ROM P-core 0 halts before its first boot-ROM instruction (R591). (log entry
187, DEDUCED). -/
def State.debugReset (s : State) (halt : Bool) : State :=
  let s := (s.dbgStatus 0).mainReset .debug 6
  if halt then
    { s with boot := { s.boot with romHalt := true } }.modTh 192 (fun x => { x with life := .halted, saved := .offline })
  else s

/-- RESET_WARM (R589, R591). -/
def execResetWarm (arg : BitVec 40) (s : State) : Out :=
  .next (s.unlocked (fun s => s.debugReset (arg.toNat.testBit 0)))

/-- The status of a refused PROVISION: one of R588's that says neither OK nor, in BLANK, that the state forbids it. (log entry
163, DESIGN CHOICE). -/
def refuseStatus (k : Nat) : Nat := ([0x01, 0x02, 0x03, 0x11, 0x12, 0x13, 0x14, 0x15][Config.refuseByte k % 8]?).getD 0x03

/-- Debug PROVISION: in BLANK only. -/
def State.debugProvision (s : State) (r : List Byte) (stuck : Option (BitVec 8 × BitVec 32)) : State :=
  if s.rd F.SYS_LC_STATE ≠ 0 then s.dbgStatus 0x03
  else match s.provision r stuck with
    | (s, true) => s.dbgStatus 0
    | (s, false) =>
      let (k, s) := s.fresh
      s.dbgStatus (refuseStatus k)

/-- DEBUG_PROVISION (R589). -/
def execDebugProvision (rcd : List (BitVec 8)) (stuck : Option (BitVec 8 × BitVec 32)) (s : State) : Out :=
  .next (s.whenOn (fun s => s.debugProvision rcd stuck))

/-- SCRAP: target 4 to SYS_LC_CMD (R589). -/
def execScrap (stuck : Option (BitVec 8 × BitVec 32)) (s : State) : Out :=
  .next (s.unlocked (fun s => (s.lcCommand 4 stuck).dbgStatus 0))

/-! ### The TAP (R587, R588) -/

/-- The instruction of a 6-bit code (Table 16.6). -/
def tapOf (code : Nat) : TapInstr :=
  match code with
  | 0x00 => .extest
  | 0x01 => .sample
  | 0x02 => .idcode
  | 0x03 => .highz
  | 0x04 => .clamp
  | 0x10 => .dbgCmd
  | 0x11 => .dbgData
  | _ => .bypass

/-- What the data register of an instruction shifts out first: IDCODE in 32 bits, the bypass bit as captured. (log entry 217,
PRESUMED). -/
def State.scanOut (s : State) : State :=
  match s.tap with
  | .idcode => { s with out := s.out ++ [Output.tdo 32 0x1487254B] }
  | .bypass | .highz | .clamp => { s with out := s.out ++ [Output.tdo 1 0] }
  | _ => s

/-- The TAP takes the instruction of a code, and its data register is scanned. -/
def State.tapCode (s : State) (code : Nat) : State := (s.selectTap (tapOf code)).scanOut

/-- EXTEST (R588). -/
def execExtest (s : State) : Out := .next (s.tapCode 0x00)

/-- SAMPLE_PRELOAD (R587). -/
def execSamplePreload (s : State) : Out := .next (s.tapCode 0x01)

/-- IDCODE (R587). -/
def execIdcode (s : State) : Out := .next (s.tapCode 0x02)

/-- HIGHZ (R588). -/
def execHighz (s : State) : Out := .next (s.tapCode 0x03)

/-- CLAMP (R588). -/
def execClamp (s : State) : Out := .next (s.tapCode 0x04)

/-- BYPASS (R587): by code 0x3F, or by any other that Table 16.6 gives to no instruction. -/
def execBypass (s : State) : Out := .next (s.tapCode 0x3F)

end Sys2Proof.Machine
end

