-- ==== Sys2Proof/Machine/Catalogue.lean ====
section
/-! DEFINITION. The dictionary catalogue (spec/13): which entries exist, their metadata and what backs them. Defaults are the
Reset values of the backing fields (spec/12 R430). -/

namespace Sys2Proof.Machine

/-- What backs an entry (spec/13 R485): a register field, a _LO/_HI pair, firmware, or a value that the engine itself holds: a
constant, entry 0140, ARM and the bindings of a map; the recorder's log and a capture pair. -/
inductive Back where
  | reg (f : Fld)
  | pair (lo hi : Fld)
  | fw
  | const (v : Nat)
  | postErr (k : Nat)
  | arm (key : Nat)
  | bind (key : Nat)
  | log
  | capPair (n : Nat)
  deriving DecidableEq, Repr

/-- Type codes of spec/12 Table 12.2. -/
def tBool : Nat := 0x01
def tU8 : Nat := 0x02
def tU16 : Nat := 0x03
def tU32 : Nat := 0x04
def tU64 : Nat := 0x05
def tI16 : Nat := 0x06
def tI32 : Nat := 0x07
def tI64 : Nat := 0x08
def tW72 : Nat := 0x09
def tTime : Nat := 0x0A
def tString : Nat := 0x0B
def tBlob : Nat := 0x0C
def tRecord : Nat := 0x0D

/-- The bytes of a value of a type; none where the length varies or the entry fixes it. -/
def typeSize (t : Nat) : Option Nat :=
  match t with
  | 0x01 | 0x02 => some 1
  | 0x03 | 0x06 => some 2
  | 0x04 | 0x07 => some 4
  | 0x05 | 0x08 | 0x0A => some 8
  | 0x09 => some 9
  | _ => none

/-- Whether a type is signed. -/
def typeSigned (t : Nat) : Bool := t == 0x06 || t == 0x07 || t == 0x08

/-- Subindexes `sub` to `sub + n − 1` of an entry family: type, roles, states, MIN and MAX where the table gives them, and the
backing of subindex sub + j of instance i. -/
structure EntRow where
  sub : Nat
  n : Nat
  type : Nat
  rd : Option Nat
  wr : Option Nat
  states : Nat
  lims : Option (Nat × Nat)
  back : Nat → Nat → Back

/-- An entry family: indexes `index` to `index + count − 1`. -/
structure EntFam where
  index : Nat
  count : Nat
  rows : List EntRow

/-- STATES of "all" (spec/13). -/
def allStates : Nat := 0x1E

/-- Roles O/–. -/
def rO (sub n type : Nat) (f : Nat → Nat → Fld) : EntRow := ⟨sub, n, type, some 0, none, 0, none, fun i j => .reg (f i j)⟩
/-- Roles O/–, a pair. -/
def rO2 (sub n type : Nat) (lo hi : Nat → Nat → Fld) : EntRow :=
  ⟨sub, n, type, some 0, none, 0, none, fun i j => .pair (lo i j) (hi i j)⟩
/-- Roles O/E, states all. -/
def rE (sub n type : Nat) (l : Option (Nat × Nat)) (f : Nat → Nat → Fld) : EntRow :=
  ⟨sub, n, type, some 0, some 2, allStates, l, fun i j => .reg (f i j)⟩
/-- Roles O/E, states all, a pair. -/
def rE2 (sub n type : Nat) (l : Option (Nat × Nat)) (lo hi : Nat → Nat → Fld) : EntRow :=
  ⟨sub, n, type, some 0, some 2, allStates, l, fun i j => .pair (lo i j) (hi i j)⟩
/-- Roles O/E, CONFIG only. -/
def rC (sub n type : Nat) (l : Option (Nat × Nat)) (f : Nat → Nat → Fld) : EntRow :=
  ⟨sub, n, type, some 0, some 2, 2, l, fun i j => .reg (f i j)⟩
/-- Roles O/E, CONFIG only, a pair. -/
def rC2 (sub n type : Nat) (l : Option (Nat × Nat)) (lo hi : Nat → Nat → Fld) : EntRow :=
  ⟨sub, n, type, some 0, some 2, 2, l, fun i j => .pair (lo i j) (hi i j)⟩
/-- A command entry: not readable. -/
def rX (sub type role states : Nat) (l : Option (Nat × Nat)) (f : Fld) : EntRow :=
  ⟨sub, 1, type, none, some role, states, l, fun _ _ => .reg f⟩
/-- Counters, `n` of them 4 bytes apart (R493). -/
def rN (sub n : Nat) (a : Nat → Nat) (width : Nat) : EntRow := rO sub n tU32 (fun i j => ⟨a i + 4 * j, 0, width⟩)
/-- An entry that the engine holds. -/
def rH (sub n type : Nat) (wr : Option Nat) (states : Nat) (b : Nat → Nat → Back) : EntRow :=
  ⟨sub, n, type, some 0, wr, states, none, b⟩

/-- A whole register. -/
def whole (a : Nat) : Fld := ⟨a, 0, 32⟩

/-- Tables 13.2 and 12.8: identity, state, life cycle, errors. -/
def cat01 : List EntFam := [
  ⟨0x0100, 1, [rO 1 1 tU32 (fun _ _ => F.SYS_VENDOR_VENDOR), rO 2 1 tU32 (fun _ _ => F.SYS_ID_PART),
    rO 3 1 tU8 (fun _ _ => F.SYS_ID_STEP), rO2 4 1 tU64 (fun _ _ => F.SYS_SERIAL_LO_SERIAL) (fun _ _ => F.SYS_SERIAL_HI_SERIAL),
    rO 5 1 tU8 (fun _ _ => F.SYS_ID_GRADE), rO 6 1 tU32 (fun _ _ => F.SYS_ROM_VER_VERSION)]⟩,
  ⟨0x0110, 1, [rX 0 tU8 1 allStates (some (1, 5)) F.DICT_STATE_CMD_CMD, rO 1 1 tU8 (fun _ _ => F.DICT_STATE_STATE)]⟩,
  ⟨0x0111, 1, [rO 1 1 tU8 (fun _ _ => F.DICT_SESS_COUNT_COUNT),
    rE 2 1 tU16 (some (1, 65535)) (fun _ _ => F.DICT_SESS_CFG_IDLE_S)]⟩,
  ⟨0x0120, 1, [⟨1, 1, tU8, some 0, none, 0, some (0, 4), fun _ _ => .reg F.SYS_LC_STATE⟩, rO 2 1 tU8 (fun _ _ => F.SYS_BOOT_SLOT),
    rO 3 1 tU32 (fun _ _ => F.SYS_BOOT_VER_VERSION), rX 4 tU8 2 2 (some (1, 4)) F.SYS_LC_CMD_CMD]⟩,
  ⟨0x0130, 1, [rE 1 1 tU32 none (fun _ _ => whole A.MEMECC_STATUS), rO 2 2 tU32 (fun _ c => whole (A.SDC_STATUS c)),
    rO2 4 2 tU64 (fun _ c => F.SDC_UE_ADDR_LO_ADDR c) (fun _ c => F.SDC_UE_ADDR_HI_ADDR c)]⟩,
  ⟨0x0140, 1, [rH 0 1 tU8 none 0 (fun _ _ => .postErr 0), rH 1 1 tU16 none 0 (fun _ _ => .postErr 1),
    rH 2 1 tU32 none 0 (fun _ _ => .postErr 2), rH 3 1 tU8 none 0 (fun _ _ => .postErr 3),
    rH 4 1 tTime none 0 (fun _ _ => .postErr 4), rH 5 1 tU32 none 0 (fun _ _ => .postErr 5)]⟩]

/-- Table 13.3: supply, thermal, clocks. -/
def cat02 : List EntFam := [
  ⟨0x0200, 1, [rO 1 1 tU16 (fun _ _ => F.PWR_VCORE_MV), rE 2 1 tU16 (some (600, 900)) (fun _ _ => F.PWR_ENV_MIN_MV),
    rE 3 1 tU16 (some (600, 900)) (fun _ _ => F.PWR_ENV_MAX_MV), rO 4 1 tU16 (fun _ _ => F.PWR_VSAFE_MV),
    rE 5 1 tU8 none (fun _ _ => ⟨A.PWR_LOOP_STAT, 0, 3⟩)]⟩,
  ⟨0x0210, 1, [rO 1 1 tI16 (fun _ _ => F.PWR_TJ_MAX_TEMP), rE 2 1 tI16 (some (500, 1050)) (fun _ _ => F.PWR_THERM_SOFT_TEMP),
    rO 3 1 tI16 (fun _ _ => F.PWR_THERM_EMERG_TEMP), rO 4 1 tI16 (fun _ _ => F.PWR_THERM_TRIP_TEMP)]⟩,
  ⟨0x0211, 1, [rO 1 14 tI16 (fun _ k => F.PWR_TEMP_TEMP k)]⟩,
  ⟨0x0220, 1, [rO 1 1 tBool (fun _ _ => F.TMR_REF_REF25_OK), rO 2 1 tBool (fun _ _ => F.TMR_REF_XTAL_OK)]⟩]

/-- Table 13.4: the ring. -/
def cat08 : List EntFam := [
  ⟨0x0800, 1, [rC 1 1 tU8 (some (0, 254)) (fun _ _ => F.RING_ADDR_ADDR), rC 2 1 tU8 (some (0, 254)) (fun _ _ => F.RING_ADDR_SEQ),
    rC 3 1 tU8 (some (2, 254)) (fun _ _ => F.RING_SIZE_SIZE), rC 4 1 tBool none (fun _ _ => F.RING_CTL_MASTER_CAPABLE),
    rC 5 1 tU8 none (fun _ _ => F.RING_CTL_MASTER_PRIO),
    rC 6 1 tU16 (some (250, 10000)) (fun _ _ => F.RING_CYCLE_CFG_PERIOD_US),
    rE 7 1 tU8 (some (11, 255)) (fun _ _ => F.RING_GAP_GAP_US), rE 8 1 tU8 (some (10, 255)) (fun _ _ => F.RING_GAP_SPLICE_US),
    rE 9 1 tU8 (some (0, 15)) (fun _ _ => F.RING_GAP_SPLICE_EVERY),
    rC 0x0A 1 tU16 (some (0, 2008)) (fun _ _ => F.RING_SWEEP_AREA_LEN), rO 0x0B 1 tU8 (fun _ _ => F.RING_STATUS_STATE),
    rO 0x0C 1 tU8 (fun _ _ => F.RING_STATUS_ROLE), rO 0x0D 1 tBool (fun _ _ => F.RING_STATUS_SYNCED),
    rO 0x0E 1 tU8 (fun _ _ => F.RING_STATUS_MASTER), rO 0x0F 1 tU32 (fun _ _ => F.RING_CYCLE_NUM_CYCLE),
    rO2 0x10 1 tI64 (fun _ _ => F.RING_OFS_LO_OFS) (fun _ _ => F.RING_OFS_HI_OFS)]⟩,
  ⟨0x0801, 2, [rO 1 1 tU8 (fun p _ => F.PORT_STATUS_LINK p), rO 2 1 tU8 (fun p _ => F.PORT_STATUS_RATE p),
    rO 3 1 tU16 (fun p _ => F.PORT_STATUS_LOSS_EST p), rO 4 1 tU8 (fun p _ => F.PORT_STATUS_PEER_ADDR p),
    rO 5 1 tU8 (fun p _ => F.PORT_STATUS_PEER_SEQ p), rO 6 1 tU16 (fun p _ => F.PORT_DELAY_DELAY p)]⟩,
  ⟨0x0803, 1, [rX 1 tBool 2 allStates none F.RING_CTL_JOIN, rX 2 tBool 2 allStates none F.RING_CTL_LEAVE]⟩,
  ⟨0x0804, 1, [rC 1 1 tU8 (some (0, 15)) (fun _ _ => F.RING_ETH_RX_POOL),
    rC 2 1 tU8 (some (0, 63)) (fun _ _ => F.RING_ETH_RX_ACCOUNT), rE 3 1 tBool none (fun _ _ => F.RING_ETH_RX_EN)]⟩]

/-- Table 13.4: uplinks and cell links. -/
def cat09 : List EntFam := [
  ⟨0x0900, 2, [rE 1 1 tBool none (fun u _ => F.UPL_CTL_EN u), rE 2 1 tBool none (fun u _ => F.UPL_CTL_PROMISC u),
    rE 3 1 tBool none (fun u _ => F.UPL_CTL_PAUSE_RX_EN u), rE 4 1 tBool none (fun u _ => F.UPL_CTL_PAUSE_TX_EN u),
    rE 5 1 tBool none (fun u _ => F.UPL_CTL_RS u),
    rE2 6 1 tU64 (some (0, 0xFFFFFFFFFFFF)) (fun u _ => F.UPL_MAC_LO_MAC u) (fun u _ => F.UPL_MAC_HI_MAC u),
    rC 7 1 tU8 (some (0, 15)) (fun u _ => F.UPL_ING_POOL u), rC 8 1 tU8 (some (0, 63)) (fun u _ => F.UPL_ING_ACCOUNT u),
    rE 9 1 tU16 none (fun u _ => F.UPL_PAUSE_QUANTA u), rE 0x0A 1 tU32 (some (0, 1048576)) (fun u _ => F.UPL_XOFF_THR_COUNT u),
    rE 0x0B 1 tU32 (some (0, 1048576)) (fun u _ => F.UPL_XON_THR_COUNT u), rE 0x0C 1 tI16 none (fun u _ => F.UPL_TS_ADJ_RX u),
    rE 0x0D 1 tI16 none (fun u _ => F.UPL_TS_ADJ_TX u), rO 0x0E 1 tBool (fun u _ => F.UPL_STATUS_UP u)]⟩,
  ⟨0x0A00, 48, [rE 1 1 tBool none (fun n _ => F.CL_CTL_EN n), rC 2 1 tU8 (some (0, 15)) (fun n _ => F.CL_ING_POOL n),
    rC 3 1 tU8 (some (0, 63)) (fun n _ => F.CL_ING_ACCOUNT n), rO 4 1 tU8 (fun n _ => F.CL_STATUS_STATE n),
    rC 5 1 tBool none (fun n _ => F.CL_CTL_RX_INV n), rC 6 1 tBool none (fun n _ => F.CL_CTL_TX_INV n)]⟩]

/-- Table 13.5: pools, audit, parser. -/
def cat10 : List EntFam := [
  ⟨0x1000, 16, [rE 1 1 tBool none (fun p _ => F.POOL_CFG_ENABLE p), rC 2 1 tU8 (some (0, 8)) (fun p _ => F.POOL_CFG_SIZE p),
    rC 3 1 tU8 (some (1, 3)) (fun p _ => F.POOL_CFG_MODE p), rC 4 1 tU8 (some (0, 1)) (fun p _ => F.POOL_CFG_CACHE p),
    rC2 5 1 tU64 (some (0, 0xFFFFFFFFFF)) (fun p _ => F.POOL_BASE_LO_BASE p) (fun p _ => F.POOL_BASE_HI_BASE p),
    rC 6 1 tU32 (some (0, 1048576)) (fun p _ => F.POOL_COUNT_COUNT p),
    rC2 7 1 tU64 (some (0, 0xFFFFFFFFFF)) (fun p _ => F.POOL_META_LO_META p) (fun p _ => F.POOL_META_HI_META p),
    rO 8 1 tBool (fun p _ => F.POOL_STATUS_READY p), rO 9 1 tU32 (fun p _ => F.POOL_FREE_FREE p),
    rE 0x0A 1 tU32 (some (0, 1048576)) (fun p _ => F.LEND_MAX_MAX p),
    rE 0x0B 1 tU32 (some (0, 1048576)) (fun p _ => F.LEND_FLOOR_FLOOR p),
    rC 0x0C 1 tU8 (some (0, 2)) (fun p _ => F.POOL_CFG_ORDER p)]⟩,
  ⟨0x1020, 16, [rC 1 64 tU32 (some (0, 1048576)) (fun p a => F.ACCT_RES_RES p a),
    rE 0x41 64 tU32 (some (0, 1048576)) (fun p a => F.ACCT_LIMIT_LIMIT p a), rO 0x81 64 tU32 (fun p a => F.ACCT_INUSE_INUSE p a)]⟩,
  ⟨0x1040, 64, [rE 1 1 tU16 none (fun a _ => F.AUD_THR_THR a), rO 2 1 tU32 (fun a _ => F.AUD_OLD_COUNT a),
    rO 3 1 tU16 (fun a _ => F.AUD_MAXAGE_AGE a), rO 4 1 tU32 (fun a _ => F.AUD_OLDEST_HANDLE a)]⟩,
  ⟨0x1080, 1, [rX 1 tBool 2 allStates none F.AUDIT_CTL_START, rE 2 1 tU8 none (fun _ _ => F.AUDIT_CTL_PERIOD_S),
    rE 3 1 tU16 none (fun _ _ => F.AUDIT_POOLS_MASK), rO 4 1 tBool (fun _ _ => F.AUDIT_CTL_BUSY)]⟩,
  ⟨0x1100, 1, [rE 1 1 tU8 (some (0, 1)) (fun _ _ => F.PRS_BANK_ACTIVE), rO 2 1 tBool (fun _ _ => F.PRS_BANK_DRAINED)]⟩]

/-- Table 13.5: classifier and scheduler. -/
def cat12 : List EntFam := [
  ⟨0x1200, 1, [rO 1 1 tU8 (fun _ _ => F.CLS_VER_CUR), rO 2 1 tU8 (fun _ _ => F.CLS_VER_OLDEST),
    rO 3 1 tU8 (fun _ _ => F.CLS_VER_OUTSTANDING), rE 4 1 tU8 (some (0, 14)) (fun _ _ => F.CLS_SLOW_GROUP),
    rE 5 1 tU8 (some (0, 7)) (fun _ _ => F.CLS_SLOW_PRIO), rE 6 1 tU16 (some (0, 4095)) (fun _ _ => F.CLS_SLOW_DOMAIN),
    rE 7 1 tU16 (some (1, 65535)) (fun _ _ => F.CLS_FRAG_TMO_MS), rE 8 1 tU8 (some (0, 15)) (fun _ _ => F.CLS_FRAG_CTL_PROFILE),
    rO 9 1 tU16 (fun _ _ => F.CLS_FRAG_USED_COUNT),
    rE2 0x0A 1 tU64 none (fun _ _ => F.CLS_MISS_ACTION_LO_ACTION) (fun _ _ => F.CLS_MISS_ACTION_HI_ACTION),
    rX 0x0B tBool 2 allStates none F.CLS_FRAG_CTL_FLUSH]⟩,
  ⟨0x1201, 1, [rE 1 1 tU32 none (fun _ _ => F.CLS_FRAG_MODE_0_LINK),
    rE 2 1 tU32 (some (0, 0x7FFFF)) (fun _ _ => ⟨A.CLS_FRAG_MODE_1, 0, 19⟩)]⟩,
  ⟨0x1300, 1, [rO 1 1 tU32 (fun _ _ => F.SCH_STATUS_INFLIGHT), rE 2 1 tU8 (some (0, 7)) (fun _ _ => ⟨A.SCH_CPL_FILTER, 1, 3⟩)]⟩,
  ⟨0x1310, 16, [rC 1 1 tU32 (some (0, 65536)) (fun g _ => F.GRP_MIN_MIN g), rC 2 1 tBool none (fun g _ => F.GRP_MIN_DYNAMIC g),
    rC 3 1 tU32 (some (0, 65536)) (fun g _ => F.GRP_MAX_MAX g),
    rE 4 1 tU32 (some (0, 1048575)) (fun g _ => F.GRP_BUDGET_LIMIT g), rE 5 1 tU8 (some (0, 5)) (fun g _ => F.GRP_PLACE_HOME g),
    rE 6 1 tBool none (fun g _ => F.GRP_PLACE_PIN g), rO 7 1 tU32 (fun g _ => F.GRP_INUSE_INUSE g),
    rO 8 1 tBool (fun g _ => F.GRP_MIN_CUT g)]⟩,
  ⟨0x1340, 16, [rC 1 16 tU32 none (fun i j => F.SCH_DOM_TYPE_TYPES (16 * i + j))]⟩]

/-- Table 13.5: tiles and images. -/
def cat14 : List EntFam := [
  ⟨0x1400, 6, [rC 1 1 tU8 (some (0, 31)) (fun t _ => F.TILE_SUPV_PRIMARY t), rC 2 1 tU8 (some (0, 31)) (fun t _ => F.TILE_SUPV_ALTERNATE t),
    rO 3 1 tU8 (fun t _ => F.TILE_SUPV_ACTIVE t), rE 4 1 tU16 (some (1, 65535)) (fun t _ => F.TILE_POSTED_TMO_TMO t),
    rO 5 1 tU16 (fun t _ => F.TILE_FAULT_STAT_FAULTS t), rE 6 8 tU8 (some (0, 1)) (fun t c => F.CORE_MODE_MODE t c),
    rC2 0x0E 1 tU64 (some (0, 0xFFFFFFFFFC)) (fun t _ => F.TILE_ENTRY_LO_PC t) (fun t _ => F.TILE_ENTRY_HI_PC t)]⟩,
  ⟨0x1410, 6, [rE 1 32 tU8 (some (0, 15)) (fun t n => F.THREAD_CFG_GROUP t n), rO 0x21 32 tU8 (fun t n => F.THREAD_STATE_STATE t n),
    rC 0x41 32 tBool none (fun t n => F.THREAD_CFG_PRIV t n)]⟩,
  ⟨0x1420, 6, [rO 1 64 tU8 (fun t a => F.ACCT_GEN_GEN t a)]⟩,
  ⟨0x1500, 1, [rO 1 1 tU8 (fun _ _ => F.EXCH_STATUS_EPOCH),
    ⟨2, 1, tU8, some 0, some 2, allStates, some (0, 2), fun _ _ => .fw⟩, rH 3 1 tU32 none 0 (fun _ _ => .fw)]⟩]

/-- Table 13.6: counters. -/
def cat20 : List EntFam := [
  ⟨0x2000, 16, [rN 1 3 A.POOL_INUSE 21, rN 4 5 A.POOL_DROP_EMPTY 32]⟩,
  ⟨0x2020, 1, [rN 1 9 (fun _ => A.PRS_CNT 0) 32]⟩,
  ⟨0x2030, 1, [rN 1 8 (fun _ => A.CLS_MATCH_CNT) 32, rN 9 1 (fun _ => A.CLS_RETIRED) 32]⟩,
  ⟨0x2031, 1, [rN 1 63 (fun _ => A.CLS_HIT 0) 32]⟩,
  ⟨0x2040, 1, [rN 1 9 (fun _ => A.SCH_REFUSE_PORT_CNT) 32]⟩,
  ⟨0x2050, 2, [rN 1 18 A.UPL_RX_OK_CNT 32]⟩,
  ⟨0x2060, 48, [rN 1 13 A.CL_RX_OK_CNT 32]⟩,
  ⟨0x2090, 1, [rN 1 8 (fun _ => A.SPLICE_OK_CNT) 32]⟩,
  ⟨0x2091, 2, [rN 1 5 A.PORT_CRC_ERR_CNT 32]⟩,
  ⟨0x20A0, 1, [rN 1 7 (fun _ => A.DICT_REQ_CNT) 32]⟩,
  ⟨0x20B0, 1, [rN 1 1 (fun _ => A.MEMECC_CE_COUNT) 32, rO 2 4 tU32 (fun _ j => ⟨A.SDC_CE_COUNT (j / 2) + 4 * (j % 2), 0, 32⟩)]⟩]

/-- Table 13.7: timers, captures, station I/O. -/
def cat30 : List EntFam := [
  ⟨0x3000, 1, [rO2 1 1 tTime (fun _ _ => F.TMR_NOW_LO_NOW) (fun _ _ => F.TMR_NOW_HI_NOW), rO 2 1 tU32 (fun _ _ => F.TMR_NOW_FRAC_FRAC)]⟩,
  ⟨0x3010, 32, [rO2 1 1 tU64 (fun k _ => F.TMR_COUNT_LO_COUNT k) (fun k _ => F.TMR_COUNT_HI_COUNT k),
    rE 2 1 tU32 (some (1, 16777216)) (fun k _ => F.TMR_DIV_DIV k),
    rE2 3 1 tU64 none (fun k _ => F.TMR_CMP_A_LO_CMP k) (fun k _ => F.TMR_CMP_A_HI_CMP k),
    rE2 4 1 tU64 none (fun k _ => F.TMR_CMP_B_LO_CMP k) (fun k _ => F.TMR_CMP_B_HI_CMP k), rE 5 1 tBool none (fun k _ => F.TMR_CTL_EN k)]⟩,
  ⟨0x3100, 64, [rO2 1 1 tTime (fun n _ => F.CAP_RISE_LO_TIME n) (fun n _ => F.CAP_RISE_HI_TIME n),
    rO2 2 1 tTime (fun n _ => F.CAP_FALL_LO_TIME n) (fun n _ => F.CAP_FALL_HI_TIME n), rO 3 1 tU32 (fun n _ => F.CAP_WIDTH_NS n),
    rO 4 1 tU32 (fun n _ => F.CAP_PERIOD_NS n), rO 5 1 tU32 (fun n _ => F.CAP_SEQ_SEQ n), rE 6 1 tBool none (fun n _ => F.CAP_STAT_OVR n),
    rO 7 1 tU8 (fun n _ => F.CAP_STAT_EPOCH_RISE n), rO 8 1 tU8 (fun n _ => F.CAP_STAT_EPOCH_FALL n),
    rE 9 1 tBool none (fun n _ => F.CAP_CTL_EN n), rH 0x0A 1 tRecord none 0 (fun n _ => .capPair n)]⟩,
  ⟨0x3200, 64, [rE 1 1 tU8 (some (0, 3)) (fun n _ => F.SIO_CFG_MODE n), rO 2 1 tBool (fun n _ => F.SIO_CFG_LEVEL n),
    rE 3 1 tBool none (fun n _ => F.SIO_CFG_OUT n)]⟩,
  ⟨0x3240, 32, [rE 1 1 tBool none (fun g _ => F.GPIO_CFG_DIR g), rO 2 1 tBool (fun g _ => F.GPIO_CFG_LEVEL g),
    rE 3 1 tBool none (fun g _ => F.GPIO_CFG_OUT g)]⟩]

/-- Table 13.8: recorder, self-test, maps. -/
def cat60 : List EntFam := [
  ⟨0x6000, 1, [rO 1 1 tU16 (fun _ _ => F.REC_STATUS_COUNT), rO 2 1 tBool (fun _ _ => F.REC_STATUS_FROZEN),
    rE 3 1 tU8 none (fun _ _ => F.REC_CTL_POST_TRIG), rX 4 tBool 2 allStates none F.REC_CMD_FREEZE,
    rX 5 tBool 2 allStates none F.REC_CMD_UNFREEZE, rC 6 1 tBool none (fun _ _ => F.REC_FLUSH_EN),
    rC 7 1 tU32 none (fun _ _ => F.REC_FLUSH_ADDR_ADDR)]⟩,
  ⟨0x6001, 1, [rH 1 1 tBlob none 0 (fun _ _ => .log)]⟩,
  ⟨0x6100, 1, [rX 1 tU8 2 allStates (some (0, 47)) F.ST_CTL_CORE, rE 2 1 tU32 none (fun _ _ => F.ST_ADMIT_BACKLOG),
    rE 3 1 tU16 none (fun _ _ => F.ST_ADMIT_DEADLINE), rO 4 1 tU8 (fun _ _ => F.ST_STATUS_STATE),
    rO 5 1 tU32 (fun _ _ => whole A.ST_RESULT)]⟩,
  ⟨0x7000, 64, [rH 1 1 tBool (some 2) 2 (fun m _ => .arm m), rH 2 32 tU64 (some 2) 2 (fun m b => .bind (32 * m + b))]⟩,
  ⟨0x7100, 64, [rH 1 1 tBool (some 2) 2 (fun m _ => .arm (64 + m)), rH 2 32 tU64 (some 2) 2 (fun m b => .bind (32 * (64 + m) + b))]⟩,
  ⟨0x7200, 64, [rC 1 1 tU16 (some (0, 2008)) (fun m _ => F.PDM_RX_OFF m), rC 2 1 tU16 (some (0, 2008)) (fun m _ => F.PDM_RX_LEN m),
    rC 3 1 tBool none (fun m _ => F.PDM_RX_EN m)]⟩,
  ⟨0x7300, 64, [rC 1 1 tU16 (some (0, 2008)) (fun m _ => F.PDM_TX_OFF m), rC 2 1 tU16 (some (0, 2008)) (fun m _ => F.PDM_TX_LEN m),
    rC 3 1 tBool none (fun m _ => F.PDM_TX_EN m)]⟩]

/-- Every fixed entry (R478). -/
def catalogue : List EntFam := cat01 ++ cat02 ++ cat08 ++ cat09 ++ cat10 ++ cat12 ++ cat14 ++ cat20 ++ cat30 ++ cat60

/-! ### Metadata -/

/-- An entry with its metadata (spec/12 Table 12.1). -/
structure Entry where
  type : Nat
  rd : Option Nat
  wr : Option Nat
  states : Nat
  fw : Bool
  maxlen : Nat
  default : Nat
  min : Int
  max : Int
  back : Back
  roles : Nat
  deriving DecidableEq, Repr

/-- The bits [5:0] of ACCESS that give a reading and a writing role (spec/12 Table 12.1). -/
def roleBits (rd wr : Option Nat) : Nat :=
  (match rd with | some r => r + 4 | none => 0) + (match wr with | some r => 8 * r + 32 | none => 0)

/-- The access code of the field that a backing field begins with. -/
def fldAcc (f : Fld) : Acc :=
  match regRow f.addr with
  | some (r, _) => ((r.fields.find? (fun x => x.lo == f.lo)).map (·.acc)).getD .ro
  | none => .ro

/-- Whether an entry is backed by a WO field (R483). -/
def Back.wo : Back → Bool
  | .reg f => fldAcc f == .wo
  | _ => false

/-- The bits of a backing. -/
def Back.width (b : Back) (type : Nat) : Nat :=
  match b with
  | .reg f => f.width
  | .pair lo hi => lo.width + hi.width
  | .log | .capPair _ => 0
  | .arm _ => 8
  | _ => 8 * (typeSize type).getD 0

/-- Reset value of a field. -/
def fldReset (f : Fld) : Nat := bits (regReset f.addr).toNat f.lo f.width

/-- DEFAULT (spec/12 R430); that of entry 0120.01 is the fuse shadow's state. (log entry 128, DEDUCED). -/
def State.backDefault (s : State) (b : Back) : Nat :=
  match b with
  | .reg f => if f = F.SYS_LC_STATE then s.lcState else fldReset f
  | .pair lo hi => fldReset lo + fldReset hi * 2 ^ 32
  | .const v => v
  | .postErr 0 => 5
  | _ => 0

/-- MIN and MAX (R481). -/
def rowLims (r : EntRow) (b : Back) : Int × Int :=
  match r.lims with
  | some (a, c) => (a, c)
  | none =>
    let w := match b with | .arm _ => 1 | .log | .capPair _ => 0 | _ => b.width r.type
    if typeSigned r.type then (-(2 ^ (w - 1) : Nat), (2 ^ (w - 1) : Nat) - 1) else (0, (2 ^ w : Nat) - 1)

/-- The entry of a row. -/
def State.rowEntry (s : State) (r : EntRow) (i j : Nat) : Entry :=
  let b := r.back i j
  let l := rowLims r b
  ⟨r.type, r.rd, r.wr, r.states, b == .fw, (match b with | .log => 65536 | .capPair _ => 32 | _ => (typeSize r.type).getD 0),
    s.backDefault b, l.1, l.2, b, roleBits r.rd r.wr⟩

/-- Subindex 00 of an entry with more than one subindex (R480). -/
def subCount (highest : Nat) : Entry := ⟨tU8, some 0, none, 0, false, 1, highest, 0, 255, .const highest, roleBits (some 0) none⟩

/-- What a lookup finds (R479). -/
inductive Found where
  | entry (e : Entry)
  | noEntry
  | noSub
  deriving DecidableEq, Repr

/-- The entry of a family at a subindex. (log entry 136, DEDUCED). -/
def State.famEntry (s : State) (f : EntFam) (i sub : Nat) : Found :=
  match f.rows.find? (fun r => decide (r.sub ≤ sub) && decide (sub < r.sub + r.n)) with
  | some r => .entry (s.rowEntry r i (sub - r.sub))
  | none =>
    let highest := f.rows.foldl (fun h r => max h (r.sub + r.n - 1)) 0
    let many := decide (1 < (f.rows.map (·.n)).sum)
    if sub = 0 && many then .entry (subCount highest) else .noSub

/-- A value of 64 bits under the signedness of a type. -/
def limOf (type v : Nat) : Int := if typeSigned type && decide (2 ^ 63 ≤ v) then (v : Int) - 2 ^ 64 else v

/-- The entry that declaration `k` gives (spec/12 Tables 12.1, 12.11): firmware-served, never MAPPABLE. -/
def State.declEntry (s : State) (k : Nat) : Entry :=
  let a := s.rd (F.DECL_1_ACCESS k)
  let t := s.rd (F.DECL_1_TYPE k)
  ⟨t, if a.testBit 2 then some (a % 4) else none, if a.testBit 5 then some (bits a 3 2) else none, s.rd (F.DECL_1_STATES k), true,
    s.rd (F.DECL_MAXLEN_MAXLEN k), s.pair (F.DECL_DEF_LO_DEFAULT k) (F.DECL_DEF_HI_DEFAULT k),
    limOf t (s.pair (F.DECL_MIN_LO_MIN k) (F.DECL_MIN_HI_MIN k)), limOf t (s.pair (F.DECL_MAX_LO_MAX k) (F.DECL_MAX_HI_MAX k)), .fw,
    a % 64⟩

/-- A declared entry (spec/12 R429): the lowest-numbered enabled declaration that covers it; an INDEX outside 0x4000 to 0x4FFF
acts as the nearer end (spec/00 R665). -/
def State.declared (s : State) (index sub : Nat) : Found :=
  let on := (List.range 1024).filter (fun k => s.is (F.DECL_1_EN k) && clampTo 0x4000 0x4FFF (s.rd (F.DECL_0_INDEX k)) == index)
  match on.find? (fun k => decide (s.rd (F.DECL_0_SUB_FIRST k) ≤ sub) && decide (sub ≤ s.rd (F.DECL_0_SUB_LAST k))) with
  | some k => .entry (s.declEntry k)
  | none => if on.isEmpty then .noEntry else .noSub

/-- Check 4 of spec/12 Table 12.5. -/
def State.entry (s : State) (index sub : Nat) : Found :=
  if 0x4000 ≤ index ∧ index < 0x5000 then s.declared index sub
  else match catalogue.find? (fun f => decide (f.index ≤ index) && decide (index < f.index + f.count)) with
    | some f => s.famEntry f (index - f.index) sub
    | none => .noEntry

/-- MAPPABLE (R486). -/
def Entry.mappable (e : Entry) (index : Nat) : Bool :=
  !e.fw && (match e.back with | .log | .capPair _ => false | b => !b.wo)
    && ((1 ≤ e.type && e.type ≤ 8) || e.type == tTime) && !(0x6000 ≤ index && index < 0x8000)

/-- The ACCESS byte (spec/12 Table 12.1); a declaration's role bits are shown as it declares them, whatever READABLE and WRITABLE
say. -/
def Entry.access (e : Entry) (index : Nat) : Nat :=
  e.roles + (if e.fw then 64 else 0) + (if e.mappable index then 128 else 0)

/-- BACKING, BK_LSB and BK_WIDTH (R485); the last two of a firmware-served entry are not stated, but for BK_WIDTH 0 of a STRING,
BLOB or RECORD. (log entry 127, DESIGN CHOICE). -/
def Entry.backing (e : Entry) (index sub : Nat) : List Byte :=
  match e.back with
  | .reg f => beBytes 4 f.addr ++ beBytes 1 f.lo ++ beBytes 1 f.width
  | .pair lo hi => beBytes 4 lo.addr ++ beBytes 1 lo.lo ++ beBytes 1 (lo.width + hi.width)
  | .fw =>
    let bk := (Config.fwBacking (index * 256 + sub)).toNat
    beBytes 4 0xFFFFFFFF ++ beBytes 1 (bk / 256) ++ beBytes 1 (if tString ≤ e.type then 0 else bk)
  | .log => beBytes 4 (A.REC_DATA 0) ++ [0, 0]
  | .capPair n => beBytes 4 (A.CAP_SEQ n) ++ [0, 0]
  | b => beBytes 4 0xFFFFFFFE ++ [0] ++ beBytes 1 (b.width e.type)

/-- A limit as eight bytes. -/
def limBytes (x : Int) : List Byte := beBytes 8 (x % 2 ^ 64).toNat

/-- The descriptor that DESCRIBE returns (spec/12 Table 12.1). (log entry 126, DEDUCED). -/
def Entry.descriptor (e : Entry) (index sub : Nat) : List Byte :=
  beBytes 1 e.type ++ beBytes 1 (e.access index) ++ beBytes 1 e.states ++ [0] ++ beBytes 2 e.maxlen ++ [0, 0]
    ++ beBytes 8 e.default ++ limBytes e.min ++ limBytes e.max ++ e.backing index sub ++ [0, 0]

end Sys2Proof.Machine
end

