-- ==== Sys2Proof/Machine/DictServe.lean ====
section
/-! DEFINITION. The dictionary engine serves requests: the check order of Table 12.5, sessions and tags, reads and writes of
entries, node reset, and process-data maps (spec/12). -/

namespace Sys2Proof.Machine

/-! ### Values of entries -/

/-- The engine reads a field. -/
def State.engineRead (s : State) (f : Fld) : State × Nat :=
  let (s, v) := s.mbusRead .other f.addr
  (s, bits v.toNat f.lo f.width)

/-- The RW and RWC bits of a register, the others zero. -/
def keepBits (old : Nat) : List FieldRow → Nat
  | [] => 0
  | f :: r => (match f.acc with | .rw | .rwc => bits old f.lo f.width * 2 ^ f.lo | _ => 0) + keepBits old r

/-- The engine writes a field by read-modify-write of its register (R432); other W1C and WO fields are written 0. (log entry
129, DEDUCED). -/
def State.engineWrite (s : State) (f : Fld) (v : Nat) : State :=
  let (s, old) := s.mbusRead .other f.addr
  let keep := match regRow f.addr with | some (r, _) => keepBits old.toNat r.fields | none => 0
  s.mbusWrite f.addr (BitVec.ofNat 32 (putBits keep f.lo f.width v))

/-- The fields of entry 0140 (R466). -/
def PostErr.field (e : PostErr) (k : Nat) : Nat :=
  match k with
  | 0 => 5 | 1 => e.writer | 2 => e.entry | 3 => e.cause | 4 => e.time | _ => e.count

/-- Binding `k` of the maps, key 32 × (64 × tx + m) + b (R468). -/
def State.binding (s : State) (k : Nat) : Nat := tget (fun _ => 0) s.dict.binds k

/-- ARM of a map, key 64 × tx + m. -/
def State.armed (s : State) (k : Nat) : Bool := tget (fun _ => false) s.dict.armed k

/-- The record of a capture pair (spec/13 R495). -/
def State.capRecord (s : State) (n : Nat) : List Byte :=
  let v := fun (f : Fld) => bits (s.reg f.addr).toNat f.lo f.width
  beBytes 4 (v (F.CAP_SEQ_SEQ n)) ++ beBytes 4 (v (F.CAP_RISE_HI_TIME n)) ++ beBytes 4 (v (F.CAP_RISE_LO_TIME n))
    ++ beBytes 4 (v (F.CAP_FALL_HI_TIME n)) ++ beBytes 4 (v (F.CAP_FALL_LO_TIME n)) ++ beBytes 4 (v (F.CAP_WIDTH_NS n))
    ++ beBytes 4 (v (F.CAP_PERIOD_NS n)) ++ beBytes 1 (v (F.CAP_STAT_OVR n)) ++ beBytes 1 (v (F.CAP_STAT_EPOCH_RISE n))
    ++ beBytes 1 (v (F.CAP_STAT_EPOCH_FALL n)) ++ [0]

/-- The bytes of a hardware-served entry's value. -/
def State.entryBytes (s : State) (e : Entry) : State × List Byte :=
  let n := (typeSize e.type).getD 0
  match e.back with
  | .reg f => let (s, v) := s.engineRead f
              (s, beBytes n v)
  | .pair lo hi =>
    let (s, a) := s.engineRead lo
    let (s, b) := s.engineRead hi
    (s, beBytes n (a + b * 2 ^ lo.width))
  | .const v => (s, beBytes n v)
  | .postErr k => (s, beBytes n (s.dict.postErr.field k))
  | .arm k => (s, beBytes n (bnat (s.armed k)))
  | .bind k => (s, beBytes n (s.binding k))
  | .log => (s, s.recorder.stored.flatMap Stored.bytes)
  | .capPair k => (s, s.capRecord k)
  | .fw => (s, [])

/-! ### Binding sets (R468, R469) -/

/-- The fields of a binding: index, subindex, EN, POS, and whether its zero fields are zero. -/
structure Binding where
  index : Nat
  sub : Nat
  en : Bool
  pos : Nat
  ok : Bool
  deriving DecidableEq, Repr

/-- Read a binding. -/
def Binding.of (v : Nat) : Binding :=
  ⟨bits v 48 16, bits v 40 8, v.testBit 32, bits v 16 16, bits v 33 7 == 0 && bits v 0 16 == 0⟩

/-- The bindings of a map. -/
def State.bindings (s : State) (key : Nat) : List Binding :=
  (List.range 32).map (fun b => Binding.of (s.binding (32 * key + b)))

/-- The entry that a binding may name: existing, hardware-served, MAPPABLE, of fixed length. -/
def State.boundEntry (s : State) (b : Binding) : Option Entry :=
  match s.entry b.index b.sub with
  | .entry e => if e.mappable b.index && (typeSize e.type).isSome then some e else none
  | _ => none

/-- LEN of a map's window, entry 7200 + m or 7300 + m, as it acts. -/
def State.windowLen (s : State) (key : Nat) : Nat := (s.mapWindow (decide (64 ≤ key)) (key % 64)).2

/-- Whether the bytes of no two enabled bindings overlap: each as (POS, size). -/
def disjoint : List (Nat × Nat) → Bool
  | [] => true
  | x :: r => r.all (fun y => !overlap x.1 x.2 y.1 y.2) && disjoint r

/-- The conditions of R469. -/
def State.armOk (s : State) (key : Nat) : Bool :=
  let bs := s.bindings key
  let on := bs.filter (·.en)
  let es := on.map (fun b => (b, s.boundEntry b))
  let spans := es.map (fun x => (x.1.pos, ((x.2.bind (fun e => typeSize e.type))).getD 0))
  !on.isEmpty && bs.all (·.ok) && es.all (fun x => x.2.isSome)
    && spans.all (fun x => decide (x.1 + x.2 ≤ s.windowLen key)) && disjoint spans
    && (64 ≤ key || es.all (fun x => match x.2 with | some e => e.wr.isSome | none => false))

/-- The cycle whose start is the next to come DICT_PD_LEAD µs from now, or the last that came so near (spec/12 R471). -/
def State.leadCycle (s : State) : Nat := (s.ringNow + s.rd F.DICT_PD_LEAD_US * 1000) / s.periodNs

/-- A write to ARM (spec/12 R469 to R471): flips and cycle starts before ARM becomes 1 do not count. -/
def State.writeArm (s : State) (key : Nat) (on : Bool) : State × Res :=
  let ok := !on || s.armOk key
  let d := { s.dict with armed := tset (fun _ => false) s.dict.armed key (on && ok) }
  let d := if s.armed key && on && ok then d else if key < 64 then { d with flipped := tset (fun _ => false) d.flipped key false }
    else { d with sampled := tset (fun _ => 0) d.sampled (key - 64) s.leadCycle }
  ({ s with dict := d }, if ok then .ok else .range)

/-- A write to a binding. -/
def State.writeBinding (s : State) (k v : Nat) : State × Res :=
  if s.armed (k / 32) then (s, .range)
  else ({ s with dict := { s.dict with binds := tset (fun _ => 0) s.dict.binds k v } }, .ok)

/-! ### Serving a write -/

/-- Write a value to a hardware-served entry under a role (R436, R468, spec/13 R483, R484). -/
def State.writeEntry (s : State) (e : Entry) (role v : Nat) : State × Res :=
  match e.back with
  | .reg f =>
    if f = F.DICT_STATE_CMD_CMD then s.stateCmd (some role) v
    else if f.width = 1 ∧ v = 0 ∧ e.back.wo then (s, .ok)
    else (s.engineWrite f v, .ok)
  | .pair lo hi => ((s.engineWrite lo v).engineWrite hi (v / 2 ^ lo.width), .ok)
  | .arm k => s.writeArm k (v == 1)
  | .bind k => s.writeBinding k v
  | _ => (s, .ok)

/-- Check 8: the length of a value under a type (R433). (log entry 135, DEDUCED). -/
def Entry.lengthOk (e : Entry) (n : Nat) : Bool :=
  n ≤ e.maxlen && (match typeSize e.type with
    | some k => n == k
    | none => e.type != tRecord || n == e.maxlen)

/-- Check 9: a value within MIN and MAX; a W72 value's tag is DATA (R434). -/
def Entry.rangeOk (e : Entry) (bs : List Byte) : Bool :=
  let v := beNat bs
  if e.type = tW72 then bs.headD 0 == 0 && decide (e.min ≤ beNat (bs.drop 1)) && decide ((beNat (bs.drop 1) : Int) ≤ e.max)
  else if e.type = tString ∨ e.type = tBlob ∨ e.type = tRecord ∨ (typeSize e.type).isNone then true
  else
    let x : Int := if typeSigned e.type && decide (2 ^ (8 * bs.length - 1) ≤ v) then (v : Int) - 2 ^ (8 * bs.length) else v
    decide (e.min ≤ x) && decide (x ≤ e.max) && (e.type != tBool || v ≤ 1)

/-! ### The check order (R446) -/

/-- Check 5 (spec/13 R487). -/
def State.reachable (s : State) (write : Bool) (index sub : Nat) : Bool :=
  match s.rd F.SYS_LC_STATE with
  | 0 => !write && 0x0100 ≤ index && index < 0x0200
  | 4 => !write && (index == 0x0100 || (index == 0x0120 && sub == 1))
  | _ => true

/-- Checks 4 and 5. -/
def State.lookup (s : State) (write : Bool) (index sub : Nat) : Entry ⊕ Res :=
  match s.entry index sub with
  | .noEntry => .inr .noEntry
  | .noSub => .inr .noSub
  | .entry e => if s.reachable write index sub then .inl e else .inr .lifecycle

/-- Whether a role meets a requirement. -/
def meets (need : Option Nat) (role : Nat) : Bool :=
  match need with
  | some r => decide (r ≤ role)
  | none => false

/-- Check 10 and the forward item of a firmware-served request (R461, R462), whose response takes its place in the order of its
transport (R444); none: BUSY. -/
def State.forwardReq (s : State) (m : EfMsg) (e : Entry) (role index sub len offset : Nat) (val : List Byte) : Option State :=
  if !s.is F.DICT_FW_CTL_READY then none
  else match s.freeSlot with
    | (_, none) => none
    | (s, some i) =>
      let s := if m.service = 3 then s
        else { s with dict := { s.dict with replies := s.dict.replies ++ [⟨m.path, m.peer, some i, [], .nothing⟩] } }
      some ((s.mgmtPut (s.rd F.DICT_FWD_BASE_ADDR + i * 0x800) val).forward i
        (fun n => ⟨i, n, m.service, role, index, sub, e.type, len, m.session, offset, some m, s.nowNs⟩))

/-- A READ that has passed check 2 (R452, spec/13 R498). -/
def State.serveRead (s : State) (m : EfMsg) (role : Nat) : State :=
  let b := m.body
  let index := halfAt b 0
  let sub := byteAt b 2
  let off := beNat ((b.drop 4).take 4)
  if b.length ≠ 8 then s.answer m .length []
  else match s.lookup false index sub with
    | .inr r => s.answer m r []
    | .inl e =>
      let varies := e.type == tString || e.type == tBlob || e.type == tRecord
      if !meets e.rd role then s.answer m .access []
      else if !varies && off ≠ 0 then s.answer m .range []
      else if e.fw then
        match s.forwardReq m e role index sub 0 off [] with
        | some s => s
        | none => s.answer m .busy []
      else
        let (s, v) := s.entryBytes e
        let log := match e.back with | .log => true | _ => false
        if off > v.length || (log && off % 16 ≠ 0) then s.answer m .range []
        else
          let len := min (v.length - off) (if log then 2000 else 2008)
          s.answer m .ok (beBytes 1 e.type ++ [0] ++ beBytes 2 len ++ beBytes 4 v.length ++ (v.drop off).take len)

/-- A WRITE or WRITE_POSTED that has passed check 2 (R436, R438, R446, R448, R465). -/
def State.serveWrite (s : State) (m : EfMsg) (role : Nat) : State :=
  let b := m.body
  let index := halfAt b 0
  let sub := byteAt b 2
  let type := byteAt b 3
  let len := halfAt b 4
  let val := b.drop 8
  if b.length < 8 || b.length ≠ 8 + len then s.answer m .length []
  else match s.lookup true index sub with
    | .inr r => s.answer m r []
    | .inl e =>
      if !meets e.wr role then s.answer m .access []
      else if s.devState = 0 || !e.states.testBit s.devState then s.answer m .state []
      else if type ≠ e.type || !e.lengthOk len then s.answer m .length []
      else if !e.rangeOk val then s.answer m .range []
      else if e.fw then
        match s.forwardReq m e role index sub len 0 val with
        | some s => s
        | none => s.answer m .busy []
      else
        let (s, r) := s.writeEntry e role (beNat val)
        if r = .ok ∧ s.standby.asked ∧ e.back = .reg F.DICT_STATE_CMD_CMD ∧ m.service = 2 then
          s.answer m r [] .standby
        else s.answer m r []

/-- A DESCRIBE that has passed check 2 (R453). -/
def State.serveDescribe (s : State) (m : EfMsg) : State :=
  let b := m.body
  let index := halfAt b 0
  let sub := byteAt b 2
  if b.length ≠ 4 then s.answer m .length []
  else match s.lookup false index sub with
    | .inr r => s.answer m r []
    | .inl e => s.answer m .ok (e.descriptor index sub)

/-! ### Sessions (R455 to R459) -/

/-- Change a session. -/
def State.modSession (s : State) (n : Nat) (f : Session → Session) : State :=
  match oget s.dict.sessions n with
  | some x => { s with dict := { s.dict with sessions := oput n (f x) s.dict.sessions } }
  | none => s

/-- Delete a session. -/
def State.dropSession (s : State) (n : Nat) : State := { s with dict := { s.dict with sessions := odel n s.dict.sessions } }

/-- An AUTH result: the third in a row closes the session that the request names (R457). (log entry 131, DEDUCED). -/
def State.authFail (s : State) (m : EfMsg) : State :=
  let s := s.answer m .auth []
  match oget s.dict.sessions m.session with
  | some x => if x.fails + 1 ≥ 3 then s.dropSession m.session else s.modSession m.session (fun x => { x with fails := x.fails + 1 })
  | none => s

/-- A request with the key that its session has when it is accepted (R458). -/
def State.keyed (s : State) (m : EfMsg) : EfMsg :=
  { m with key := if m.tagged then (oget s.dict.sessions m.session).map Session.key else none }

/-- Check 2: the role of a request; none: AUTH. -/
def State.auth (s : State) (m : EfMsg) : Option Nat :=
  if !m.tagged then (if m.session = 0 then some 0 else none)
  else match oget s.dict.sessions m.session with
    | some x =>
      let body := m.bytes.take (16 + m.bodyLen)
      if x.path == m.path && x.peer == m.peer && (hmac x.key body).take 16 == m.bytes.drop (16 + m.bodyLen)
          && decide (x.counter < m.counter) then some x.role else none
    | none => none

/-- An accepted tagged request opens its session and restarts its idle time (R459). -/
def State.accepted (s : State) (m : EfMsg) : State :=
  if m.tagged then
    s.modSession m.session (fun x => { x with counter := m.counter, opened := true, at_ := s.nowNs, fails := 0 })
  else s

/-- The fuse words of a role key (spec/16 Table 16.3). -/
def roleKeyAt (role : Nat) : Nat :=
  match role with
  | 0 => 0x68 | 1 => 0x70 | 2 => 0x78 | _ => 0x10

/-- Whether the life-cycle state admits a session of a role, with its key provisioned (R455, spec/16 Table 16.4). -/
def State.sessionAdmitted (s : State) (role : Nat) : Bool :=
  match s.rd F.SYS_LC_STATE with
  | 1 | 2 => role ≤ 2 && (s.fuseKey (roleKeyAt role)).any (fun b => b != 0)
  | 3 => role == 3
  | _ => false

/-- The `n`-th free session number, from 1. -/
def State.freeSession (s : State) (n : Nat) : Nat :=
  s.dict.sessions.foldl (fun k e => if e.1 ≤ k then k + 1 else k) (n + 1)

/-- An untagged OPEN with session 0 (R455). (log entry 130, DEDUCED). -/
def State.serveOpen (s : State) (m : EfMsg) : State :=
  let b := m.body
  let role := byteAt b 0
  if b.length ≠ 20 then s.answer m .length []
  else if role > 3 then s.answer m .range []
  else if !s.sessionAdmitted role then s.answer m .lifecycle []
  else if s.dict.sessions.length ≥ 16 then s.answer m .busy []
  else
    let (k, s) := s.fresh
    let nd := beBytes 16 (Config.nonce k)
    let n := s.freeSession (Config.sessPick k % (65535 - s.dict.sessions.length))
    let sk := hmac (s.fuseKey (roleKeyAt role))
      ([0x45, 0x46, 0x4E, 0x48] ++ b.drop 4 ++ nd ++ beBytes 2 n ++ beBytes 1 role)
    let x : Session := ⟨role, m.path, m.peer, sk, 0, false, s.nowNs, 0⟩
    let s := { s with dict := { s.dict with sessions := oput n x s.dict.sessions } }
    s.reply ⟨m.path, m.peer, none, mkMessage 5 0 n m.echo (beBytes 2 n ++ [0, 0] ++ nd) (some sk), .nothing⟩

/-- A tagged CLOSE (R459): answered, then the session is deleted. -/
def State.serveClose (s : State) (m : EfMsg) : State :=
  if m.body.length ≠ 0 then s.answer m .length [] else (s.answer m .ok []).dropSession m.session

/-- NODE_RESET (R454). -/
def State.serveReset (s : State) (m : EfMsg) (role : Nat) : State :=
  let b := m.body
  let kind := byteAt b 0
  if b.length ≠ 8 then s.answer m .length []
  else if role < 2 then s.answer m .access []
  else if (kind ≠ 1 && kind ≠ 2) || beNat (b.drop 4) ≠ Config.serial % 2 ^ 32 then s.answer m .range []
  else s.answer m .ok [] (.reset kind)

/-- A request that has passed check 1. -/
def State.serveChecked (s : State) (m : EfMsg) : State :=
  match s.auth m with
  | none => s.authFail m
  | some role =>
    if m.service = 5 then (if m.tagged then s.authFail m else s.serveOpen m)
    else if m.service = 6 && !m.tagged then s.authFail m
    else
      let m := s.keyed m
      let s := s.accepted m
      match m.service with
      | 1 => s.serveRead m role
      | 4 => s.serveDescribe m
      | 6 => s.serveClose m
      | 8 => s.serveReset m role
      | _ => s.serveWrite m role

/-- Whether the engine runs: it does not in STANDBY (spec/12 Table 12.3). -/
def State.engineRuns (s : State) : Bool := s.mainOn && s.devState != 5

/-- Whether a request names an entry that answers during standby entry (spec/13 R496). -/
def EfMsg.alwaysOn (m : EfMsg) : Bool :=
  m.wellFormed && 1 ≤ m.service && m.service ≤ 4 && 0x3000 ≤ halfAt m.body 0 && decide (halfAt m.body 0 < 0x3240)

/-- The request that the engine takes next and those that remain: the head of its queue, during standby entry the first that
names an always-on entry (spec/12 R444, Table 12.3, spec/13 R496). (log entry 134, DEDUCED). -/
def State.nextRequest (s : State) : Option (EfMsg × List EfMsg) :=
  if s.engineRuns then
    match s.dict.inbox with
    | [] => none
    | m :: rest => some (m, rest)
  else if s.phase = .entering then takeFirst EfMsg.alwaysOn s.dict.inbox
  else none

/-- The engine serves its next request when that is of a service; a message that is not well formed is dropped there (R444,
R446, R450). (log entry 118, DEDUCED). -/
def State.serve (s : State) (service : Nat) : State :=
  match s.nextRequest with
  | none => s
  | some (m, rest) =>
    let s' := { s with dict := { s.dict with inbox := rest } }
    if !m.wellFormed then s'.bump F.DICT_DROP_CNT_COUNT
    else if m.service ≠ service then s
    else (s'.bump F.DICT_REQ_CNT_COUNT).serveChecked m

/-- READ (R446, R452). -/
def execRead (s : State) : Out := .next (s.serve 1)
/-- WRITE (R446). -/
def execWrite (s : State) : Out := .next (s.serve 2)
/-- WRITE_POSTED (R465, R466). -/
def execWritePosted (s : State) : Out := .next (s.serve 3)
/-- DESCRIBE (R453). -/
def execDescribe (s : State) : Out := .next (s.serve 4)
/-- OPEN (R455). -/
def execOpenSession (s : State) : Out := .next (s.serve 5)
/-- CLOSE (R459). -/
def execCloseSession (s : State) : Out := .next (s.serve 6)
/-- NODE_RESET (R454). -/
def execNodeReset (s : State) : Out := .next (s.serve 8)

/-- NODE_RESET_BEGIN (R454): 100 µs or more after the response of the oldest one. -/
def execNodeResetBegin (s : State) : Out :=
  .next (match s.dict.reset with
    | (k, t) :: _ => if t + 100000 ≤ s.nowNs then (if k = 1 then s.mainReset .warm 4 else s.mainReset .cold 5) else s
    | [] => s)

/-! ### Process-data maps (R470 to R472) -/

/-- Write a bound value; in a state whose STATES bit is clear the entry is skipped and counted. -/
def State.pdWrite (s : State) (bank : Nat) (b : Binding) : State :=
  match s.boundEntry b with
  | none => s
  | some e =>
    if !e.states.testBit s.devState then s.bump F.DICT_PD_SKIP_CNT_COUNT
    else
      let (s, bs) := s.mgmtGet (bank + b.pos) ((typeSize e.type).getD 0)
      (s.writeEntry e 3 (beNat bs)).1

/-- A receive map with ARM 1 that has flipped (R470). -/
def State.pdApply (s : State) (m : Nat) : State :=
  if !s.engineRuns || !tget (fun _ => false) s.dict.flipped m then s
  else
    let s := { s with dict := { s.dict with flipped := tset (fun _ => false) s.dict.flipped m false } }
    if !s.armed m then s
    else ((s.bindings m).filter (·.en)).foldl (State.pdWrite · (s.mapBank false m (s.rd (F.PDM_RX_BANK_FRONT m)))) s

/-- PD_RX_APPLY (R470). -/
def execPdRxApply (m : Fin 64) (s : State) : Out := .next (s.pdApply m.val)

/-- A window's bytes with the bound values in their places. -/
def State.pdImage (s : State) (len : Nat) (bs : List Binding) : State × List Byte :=
  bs.foldl (fun (acc : State × List Byte) b =>
    match acc.1.boundEntry b with
    | none => acc
    | some e => let (s, v) := acc.1.entryBytes e
                (s, overlay acc.2 b.pos v)) (s, List.replicate len 0)

/-- A transmit map with ARM 1, DICT_PD_LEAD µs before a cycle start, once for each cycle (R471, R472). (log entry 132,
DEDUCED). -/
def State.pdSample (s : State) (m : Nat) : State :=
  let k := s.leadCycle
  if !s.engineRuns || !s.armed (64 + m) || !s.is F.RING_CTL_ENABLE || tget (fun _ => 0) s.dict.sampled m == k then s
  else
    let s := { s with dict := { s.dict with sampled := tset (fun _ => 0) s.dict.sampled m k } }
    if s.is (F.PDM_TX_BANK_PENDING m) then s.bump F.DICT_PD_SKIP_CNT_COUNT
    else
      let (s, img) := s.pdImage (s.windowLen (64 + m)) ((s.bindings (64 + m)).filter (·.en))
      (s.mgmtPut (s.mapBank true m (1 - s.rd (F.PDM_TX_BANK_FRONT m))) img).pdmCommit m

/-- PD_TX_SAMPLE (R471). -/
def execPdTxSample (m : Fin 64) (s : State) : Out := .next (s.pdSample m.val)

end Sys2Proof.Machine
end

