-- ==== Sys2Proof/Machine/Dispatch.lean ====
section
/-! DEFINITION. exec: one arm for each command, each a direct call of its meaning. -/

namespace Sys2Proof.Machine

/-- The effect of a command on everything but the queue of commands. -/
def exec (i : Instr) (s : State) : Host.Outcome State Fault Refusal :=
  match i with
  | .registerWrite addr v => Sys2Proof.Machine.execRegisterWrite addr v s
  | .stationTimeAdvance upset => Sys2Proof.Machine.execStationTimeAdvance upset s
  | .compareMatch k b => Sys2Proof.Machine.execCompareMatch k b s
  | .cmpLoWrite k b v => Sys2Proof.Machine.execCmpLoWrite k b v s
  | .cmpHiWrite k b v => Sys2Proof.Machine.execCmpHiWrite k b v s
  | .timerClear k v => Sys2Proof.Machine.execTimerClear k v s
  | .xcalWindowEnd ppb => Sys2Proof.Machine.execXcalWindowEnd ppb s
  | .captureEdge n level time => Sys2Proof.Machine.execCaptureEdge n level time s
  | .capSeqRead n => Sys2Proof.Machine.execCapSeqRead n s
  | .capInvertWrite n v => Sys2Proof.Machine.execCapInvertWrite n v s
  | .eventEnqueue cap n => Sys2Proof.Machine.execEventEnqueue cap n s
  | .sdramPatrolScrub c off last => Sys2Proof.Machine.execSdramPatrolScrub c off last s
  | .initStart c v => Sys2Proof.Machine.execInitStart c v s
  | .sdramInitDone c failStep => Sys2Proof.Machine.execSdramInitDone c failStep s
  | .sdramFillDone c => Sys2Proof.Machine.execSdramFillDone c s
  | .sdcCeClear c v => Sys2Proof.Machine.execSdcCeClear c v s
  | .sdcUeClear c v => Sys2Proof.Machine.execSdcUeClear c v s
  | .memeccCeClear v => Sys2Proof.Machine.execMemeccCeClear v s
  | .add t rd rs1 rs2 => Sys2Proof.Machine.execAdd t rd rs1 rs2 s
  | .sub t rd rs1 rs2 => Sys2Proof.Machine.execSub t rd rs1 rs2 s
  | .and_ t rd rs1 rs2 => Sys2Proof.Machine.execAnd t rd rs1 rs2 s
  | .or_ t rd rs1 rs2 => Sys2Proof.Machine.execOr t rd rs1 rs2 s
  | .xor t rd rs1 rs2 => Sys2Proof.Machine.execXor t rd rs1 rs2 s
  | .sll t rd rs1 rs2 => Sys2Proof.Machine.execSll t rd rs1 rs2 s
  | .srl t rd rs1 rs2 => Sys2Proof.Machine.execSrl t rd rs1 rs2 s
  | .sra t rd rs1 rs2 => Sys2Proof.Machine.execSra t rd rs1 rs2 s
  | .slt t rd rs1 rs2 => Sys2Proof.Machine.execSlt t rd rs1 rs2 s
  | .sltu t rd rs1 rs2 => Sys2Proof.Machine.execSltu t rd rs1 rs2 s
  | .mul t rd rs1 rs2 => Sys2Proof.Machine.execMul t rd rs1 rs2 s
  | .mulh t rd rs1 rs2 => Sys2Proof.Machine.execMulh t rd rs1 rs2 s
  | .mulhu t rd rs1 rs2 => Sys2Proof.Machine.execMulhu t rd rs1 rs2 s
  | .div t rd rs1 rs2 => Sys2Proof.Machine.execDiv t rd rs1 rs2 s
  | .divu t rd rs1 rs2 => Sys2Proof.Machine.execDivu t rd rs1 rs2 s
  | .rem t rd rs1 rs2 => Sys2Proof.Machine.execRem t rd rs1 rs2 s
  | .remu t rd rs1 rs2 => Sys2Proof.Machine.execRemu t rd rs1 rs2 s
  | .clz t rd rs1 => Sys2Proof.Machine.execClz t rd rs1 s
  | .popc t rd rs1 => Sys2Proof.Machine.execPopc t rd rs1 s
  | .min t rd rs1 rs2 => Sys2Proof.Machine.execMin t rd rs1 rs2 s
  | .max t rd rs1 rs2 => Sys2Proof.Machine.execMax t rd rs1 rs2 s
  | .mov t rd rs1 => Sys2Proof.Machine.execMov t rd rs1 s
  | .tagget t rd rs1 => Sys2Proof.Machine.execTagget t rd rs1 s
  | .addi t rd rs1 imm => Sys2Proof.Machine.execAddi t rd rs1 imm s
  | .andi t rd rs1 imm => Sys2Proof.Machine.execAndi t rd rs1 imm s
  | .ori t rd rs1 imm => Sys2Proof.Machine.execOri t rd rs1 imm s
  | .xori t rd rs1 imm => Sys2Proof.Machine.execXori t rd rs1 imm s
  | .slti t rd rs1 imm => Sys2Proof.Machine.execSlti t rd rs1 imm s
  | .sltiu t rd rs1 imm => Sys2Proof.Machine.execSltiu t rd rs1 imm s
  | .shiSll t rd rs1 sh => Sys2Proof.Machine.execShiSll t rd rs1 sh s
  | .shiSrl t rd rs1 sh => Sys2Proof.Machine.execShiSrl t rd rs1 sh s
  | .shiSra t rd rs1 sh => Sys2Proof.Machine.execShiSra t rd rs1 sh s
  | .shiRor t rd rs1 sh => Sys2Proof.Machine.execShiRor t rd rs1 sh s
  | .ext t rd rs1 pos lenM1 => Sys2Proof.Machine.execExt t rd rs1 pos lenM1 s
  | .ins t rd rs1 pos lenM1 => Sys2Proof.Machine.execIns t rd rs1 pos lenM1 s
  | .movz t rd h imm => Sys2Proof.Machine.execMovz t rd h imm s
  | .movk t rd h imm => Sys2Proof.Machine.execMovk t rd h imm s
  | .lb t rd rs1 imm => Sys2Proof.Machine.execLb t rd rs1 imm s
  | .lbu t rd rs1 imm => Sys2Proof.Machine.execLbu t rd rs1 imm s
  | .lh t rd rs1 imm => Sys2Proof.Machine.execLh t rd rs1 imm s
  | .lhu t rd rs1 imm => Sys2Proof.Machine.execLhu t rd rs1 imm s
  | .lw t rd rs1 imm => Sys2Proof.Machine.execLw t rd rs1 imm s
  | .lwu t rd rs1 imm => Sys2Proof.Machine.execLwu t rd rs1 imm s
  | .ld t rd rs1 imm => Sys2Proof.Machine.execLd t rd rs1 imm s
  | .loadDataReturn t => Sys2Proof.Machine.execLoadDataReturn t s
  | .sb t rs2 rs1 imm => Sys2Proof.Machine.execSb t rs2 rs1 imm s
  | .sh t rs2 rs1 imm => Sys2Proof.Machine.execSh t rs2 rs1 imm s
  | .sw t rs2 rs1 imm => Sys2Proof.Machine.execSw t rs2 rs1 imm s
  | .sd t rs2 rs1 imm => Sys2Proof.Machine.execSd t rs2 rs1 imm s
  | .postedWriteStatus t k => Sys2Proof.Machine.execPostedWriteStatus t k s
  | .postedDrainTimeout t => Sys2Proof.Machine.execPostedDrainTimeout t s
  | .beq t rs1 rs2 off => Sys2Proof.Machine.execBeq t rs1 rs2 off s
  | .bne t rs1 rs2 off => Sys2Proof.Machine.execBne t rs1 rs2 off s
  | .blt t rs1 rs2 off => Sys2Proof.Machine.execBlt t rs1 rs2 off s
  | .bge t rs1 rs2 off => Sys2Proof.Machine.execBge t rs1 rs2 off s
  | .bltu t rs1 rs2 off => Sys2Proof.Machine.execBltu t rs1 rs2 off s
  | .bgeu t rs1 rs2 off => Sys2Proof.Machine.execBgeu t rs1 rs2 off s
  | .btag t rs1 kind neg off => Sys2Proof.Machine.execBtag t rs1 kind neg off s
  | .j t off => Sys2Proof.Machine.execJ t off s
  | .jal t rd off => Sys2Proof.Machine.execJal t rd off s
  | .jalr t rd rs1 imm => Sys2Proof.Machine.execJalr t rd rs1 imm s
  | .alloc t rd rs1 => Sys2Proof.Machine.execAlloc t rd rs1 s
  | .free t rs1 => Sys2Proof.Machine.execFree t rs1 s
  | .hadd t rd rs1 rs2 => Sys2Proof.Machine.execHadd t rd rs1 rs2 s
  | .getwork t => Sys2Proof.Machine.execGetwork t s
  | .done t => Sys2Proof.Machine.execDone t s
  | .abort t => Sys2Proof.Machine.execAbort t s
  | .send t rs1 => Sys2Proof.Machine.execSend t rs1 s
  | .xmit t rs1 rs2 => Sys2Proof.Machine.execXmit t rs1 rs2 s
  | .cancel t rd rs1 rs2 => Sys2Proof.Machine.execCancel t rd rs1 rs2 s
  | .chkcancel t rd => Sys2Proof.Machine.execChkcancel t rd s
  | .hjob t rd rs1 => Sys2Proof.Machine.execHjob t rd rs1 s
  | .helperJobStart tile h => Sys2Proof.Machine.execHelperJobStart tile h s
  | .helperJobComplete tile h => Sys2Proof.Machine.execHelperJobComplete tile h s
  | .hwait t rd rs1 => Sys2Proof.Machine.execHwait t rd rs1 s
  | .fence t => Sys2Proof.Machine.execFence t s
  | .rdtime t rd => Sys2Proof.Machine.execRdtime t rd s
  | .record t rs1 rs2 => Sys2Proof.Machine.execRecord t rs1 rs2 s
  | .trap t code => Sys2Proof.Machine.execTrap t code s
  | .clean t rs1 => Sys2Proof.Machine.execClean t rs1 s
  | .cinv t rs1 => Sys2Proof.Machine.execCinv t rs1 s
  | .mfsr t rd n => Sys2Proof.Machine.execMfsr t rd n s
  | .mtsr t rs1 n => Sys2Proof.Machine.execMtsr t rs1 n s
  | .tagset t rd rs1 tag => Sys2Proof.Machine.execTagset t rd rs1 tag s
  | .swapset t => Sys2Proof.Machine.execSwapset t s
  | .fresolveResume t rd rs1 rs2 => Sys2Proof.Machine.execFresolveResume t rd rs1 rs2 s
  | .fresolveRestart t rd rs1 rs2 => Sys2Proof.Machine.execFresolveRestart t rd rs1 rs2 s
  | .fresolveAbort t rd rs1 rs2 => Sys2Proof.Machine.execFresolveAbort t rd rs1 rs2 s
  | .waitev t rd => Sys2Proof.Machine.execWaitev t rd s
  | .faultRecordEnqueue t => Sys2Proof.Machine.execFaultRecordEnqueue t s
  | .escRecordLoad tile => Sys2Proof.Machine.execEscRecordLoad tile s
  | .budgetExpiry t => Sys2Proof.Machine.execBudgetExpiry t s
  | .threadStart t => Sys2Proof.Machine.execThreadStart t s
  | .threadGroupWrite t v => Sys2Proof.Machine.execThreadGroupWrite t v s
  | .prRegionWrite tile acct region k v => Sys2Proof.Machine.execPrRegionWrite tile acct region k v s
  | .taskDispatch group tile => Sys2Proof.Machine.execTaskDispatch group tile s
  | .poolEnableWrite p v => Sys2Proof.Machine.execPoolEnableWrite p v s
  | .poolBuildDone p => Sys2Proof.Machine.execPoolBuildDone p s
  | .auditStart v => Sys2Proof.Machine.execAuditStart v s
  | .uplinkFrameReceive u bytes code time => Sys2Proof.Machine.execUplinkFrameReceive u bytes code time s
  | .pauseTimerExpiry u => Sys2Proof.Machine.execPauseTimerExpiry u s
  | .pauseResend u => Sys2Proof.Machine.execPauseResend u s
  | .uplinkStateChange u modAbs los txFault lock hiBer rx tx => Sys2Proof.Machine.execUplinkStateChange u modAbs los txFault lock hiBer rx tx s
  | .tsPop u tx => Sys2Proof.Machine.execTsPop u tx s
  | .cellLinkFrameReceive n bytes k => Sys2Proof.Machine.execCellLinkFrameReceive n bytes k s
  | .cellLinkLock n => Sys2Proof.Machine.execCellLinkLock n s
  | .cellLinkUp n => Sys2Proof.Machine.execCellLinkUp n s
  | .cellLinkDown n rx tx => Sys2Proof.Machine.execCellLinkDown n rx tx s
  | .frameTransmit port time => Sys2Proof.Machine.execFrameTransmit port time s
  | .prsCmdCommit node bank => Sys2Proof.Machine.execPrsCmdCommit node bank s
  | .prsCmdRead node bank => Sys2Proof.Machine.execPrsCmdRead node bank s
  | .prsBankSwitch v inParse => Sys2Proof.Machine.execPrsBankSwitch v inParse s
  | .ruleWordWrite w v => Sys2Proof.Machine.execRuleWordWrite w v s
  | .fragEntryExpiry entry => Sys2Proof.Machine.execFragEntryExpiry entry s
  | .fragFlush v => Sys2Proof.Machine.execFragFlush v s
  | .ringFrameReceive p rx => Sys2Proof.Machine.execRingFrameReceive p rx s
  | .linkTraining p ok loss addr seq peerFull => Sys2Proof.Machine.execLinkTraining p ok loss addr seq peerFull s
  | .trainingRetry p => Sys2Proof.Machine.execTrainingRetry p s
  | .linkAckSend p => Sys2Proof.Machine.execLinkAckSend p s
  | .linkAckReceive p addr seq => Sys2Proof.Machine.execLinkAckReceive p addr seq s
  | .breakSend p => Sys2Proof.Machine.execBreakSend p s
  | .breakReceive p reason => Sys2Proof.Machine.execBreakReceive p reason s
  | .lockLoss p => Sys2Proof.Machine.execLockLoss p s
  | .cycleStart time => Sys2Proof.Machine.execCycleStart time s
  | .sweepProcess rx => Sys2Proof.Machine.execSweepProcess rx s
  | .sweepReturn rx => Sys2Proof.Machine.execSweepReturn rx s
  | .pdmTxCommit m => Sys2Proof.Machine.execPdmTxCommit m s
  | .join v => Sys2Proof.Machine.execJoin v s
  | .leave v => Sys2Proof.Machine.execLeave v s
  | .splicePoint passing => Sys2Proof.Machine.execSplicePoint passing s
  | .linkFrameSend p time => Sys2Proof.Machine.execLinkFrameSend p time s
  | .linkFrameReceive p rx => Sys2Proof.Machine.execLinkFrameReceive p rx s
  | .timeFrameReceive p rx => Sys2Proof.Machine.execTimeFrameReceive p rx s
  | .sessionOpenTimeout n => Sys2Proof.Machine.execSessionOpenTimeout n s
  | .sessionIdleTimeout n => Sys2Proof.Machine.execSessionIdleTimeout n s
  | .fwdTimeout slot => Sys2Proof.Machine.execFwdTimeout slot s
  | .fwdResp v => Sys2Proof.Machine.execFwdResp v s
  | .sendTransaction mosi => Sys2Proof.Machine.execSendTransaction mosi s
  | .fetch all => Sys2Proof.Machine.execFetch all s
  | .spiFirmwareCommand cmd data => Sys2Proof.Machine.execSpiFirmwareCommand cmd data s
  | .pdRxApply m => Sys2Proof.Machine.execPdRxApply m s
  | .pdTxSample m => Sys2Proof.Machine.execPdTxSample m s
  | .loopDecision floorMv => Sys2Proof.Machine.execLoopDecision floorMv s
  | .pmbusReadback mv => Sys2Proof.Machine.execPmbusReadback mv s
  | .thermalSample temps => Sys2Proof.Machine.execThermalSample temps s
  | .porstNAssert ns => Sys2Proof.Machine.execPorstNAssert ns s
  | .sysrstNAssert ns => Sys2Proof.Machine.execSysrstNAssert ns s
  | .sysAonRst v => Sys2Proof.Machine.execSysAonRst v s
  | .pcoreReset v => Sys2Proof.Machine.execPcoreReset v s
  | .pcoreRun1 v => Sys2Proof.Machine.execPcoreRun1 v s
  | .watchdogKick v => Sys2Proof.Machine.execWatchdogKick v s
  | .bootEntry slotA slotB => Sys2Proof.Machine.execBootEntry slotA slotB s
  | .lcRollForward rcd stuck => Sys2Proof.Machine.execLcRollForward rcd stuck s
  | .confirm v => Sys2Proof.Machine.execConfirm v s
  | .clearA v => Sys2Proof.Machine.execClearA v s
  | .clearB v => Sys2Proof.Machine.execClearB v s
  | .recoverWrite data => Sys2Proof.Machine.execRecoverWrite data s
  | .provision rcd stuck => Sys2Proof.Machine.execProvision rcd stuck s
  | .lcCmd v stuck => Sys2Proof.Machine.execLcCmd v stuck s
  | .revoke v => Sys2Proof.Machine.execRevoke v s
  | .rollbackInc v => Sys2Proof.Machine.execRollbackInc v s
  | .recRdSelWrite v => Sys2Proof.Machine.execRecRdSelWrite v s
  | .pfailAssert header => Sys2Proof.Machine.execPfailAssert header s
  | .challenge arg => Sys2Proof.Machine.execChallenge arg s
  | .response hi lo => Sys2Proof.Machine.execResponse hi lo s
  | .debugRead addr => Sys2Proof.Machine.execDebugRead addr s
  | .debugWrite addr data => Sys2Proof.Machine.execDebugWrite addr data s
  | .halt target => Sys2Proof.Machine.execHalt target s
  | .release target => Sys2Proof.Machine.execRelease target s
  | .resetWarm arg => Sys2Proof.Machine.execResetWarm arg s
  | .debugProvision rcd stuck => Sys2Proof.Machine.execDebugProvision rcd stuck s
  | .scrap stuck => Sys2Proof.Machine.execScrap stuck s
  | .coreTestStart core => Sys2Proof.Machine.execCoreTestStart core s
  | .stTestDone fail => Sys2Proof.Machine.execStTestDone fail s
  | .memtestBufferDone faulty => Sys2Proof.Machine.execMemtestBufferDone faulty s
  | .ringCalDone fail => Sys2Proof.Machine.execRingCalDone fail s
  | .pcoreExchangeGo v => Sys2Proof.Machine.execPcoreExchangeGo v s
  | .uartDataWrite v => Sys2Proof.Machine.execUartDataWrite v s
  | .uartRxByte b wrong => Sys2Proof.Machine.execUartRxByte b wrong s
  | .i2cGo v => Sys2Proof.Machine.execI2cGo v s
  | .i2cTransferDone nack data => Sys2Proof.Machine.execI2cTransferDone nack data s
  | .reservedOpcode t w => Sys2Proof.Machine.execReservedOpcode t w s
  | .ringBlockLock p half => Sys2Proof.Machine.execRingBlockLock p half s
  | .supplyRangeChange vsd vio18 vio33 fuse pfailHigh => Sys2Proof.Machine.execSupplyRangeChange vsd vio18 vio33 fuse pfailHigh s
  | .otpOperationDone stuck => Sys2Proof.Machine.execOtpOperationDone stuck s
  | .ref25Qualified => Sys2Proof.Machine.execRef25Qualified s
  | .ref25Loss => Sys2Proof.Machine.execRef25Loss s
  | .xtalQualified => Sys2Proof.Machine.execXtalQualified s
  | .xtalLoss => Sys2Proof.Machine.execXtalLoss s
  | .ingotScrubRead => Sys2Proof.Machine.execIngotScrubRead s
  | .completionRecordStore => Sys2Proof.Machine.execCompletionRecordStore s
  | .ageSweep => Sys2Proof.Machine.execAgeSweep s
  | .auditPeriodExpiry => Sys2Proof.Machine.execAuditPeriodExpiry s
  | .auditScanDone => Sys2Proof.Machine.execAuditScanDone s
  | .parse => Sys2Proof.Machine.execParse s
  | .classify => Sys2Proof.Machine.execClassify s
  | .clsCommit => Sys2Proof.Machine.execClsCommit s
  | .sweepPass => Sys2Proof.Machine.execSweepPass s
  | .gapStart => Sys2Proof.Machine.execGapStart s
  | .listenTimeout => Sys2Proof.Machine.execListenTimeout s
  | .spliceDeadline => Sys2Proof.Machine.execSpliceDeadline s
  | .sweepAbsenceTimeout => Sys2Proof.Machine.execSweepAbsenceTimeout s
  | .syncTimeout => Sys2Proof.Machine.execSyncTimeout s
  | .read => Sys2Proof.Machine.execRead s
  | .write => Sys2Proof.Machine.execWrite s
  | .writePosted => Sys2Proof.Machine.execWritePosted s
  | .describe => Sys2Proof.Machine.execDescribe s
  | .openSession => Sys2Proof.Machine.execOpenSession s
  | .closeSession => Sys2Proof.Machine.execCloseSession s
  | .nodeReset => Sys2Proof.Machine.execNodeReset s
  | .nodeResetBegin => Sys2Proof.Machine.execNodeResetBegin s
  | .stateCmdConfig => Sys2Proof.Machine.execStateCmdConfig s
  | .stateCmdRun => Sys2Proof.Machine.execStateCmdRun s
  | .stateCmdHold => Sys2Proof.Machine.execStateCmdHold s
  | .stateCmdSafe => Sys2Proof.Machine.execStateCmdSafe s
  | .stateCmdStandby => Sys2Proof.Machine.execStateCmdStandby s
  | .fwdPop => Sys2Proof.Machine.execFwdPop s
  | .subGo => Sys2Proof.Machine.execSubGo s
  | .poll => Sys2Proof.Machine.execPoll s
  | .standbyEntry => Sys2Proof.Machine.execStandbyEntry s
  | .standbyDrainEnd => Sys2Proof.Machine.execStandbyDrainEnd s
  | .wakeNAssert => Sys2Proof.Machine.execWakeNAssert s
  | .stbyMinExpiry => Sys2Proof.Machine.execStbyMinExpiry s
  | .porstNRelease => Sys2Proof.Machine.execPorstNRelease s
  | .alwaysOnPowerReset => Sys2Proof.Machine.execAlwaysOnPowerReset s
  | .watchdogExpiry => Sys2Proof.Machine.execWatchdogExpiry s
  | .recoverRun => Sys2Proof.Machine.execRecoverRun s
  | .lcResetBegin => Sys2Proof.Machine.execLcResetBegin s
  | .recordAccept => Sys2Proof.Machine.execRecordAccept s
  | .freeze => Sys2Proof.Machine.execFreeze s
  | .unfreeze => Sys2Proof.Machine.execUnfreeze s
  | .flushDone => Sys2Proof.Machine.execFlushDone s
  | .dbgStatus => Sys2Proof.Machine.execDbgStatus s
  | .lock => Sys2Proof.Machine.execLock s
  | .extest => Sys2Proof.Machine.execExtest s
  | .samplePreload => Sys2Proof.Machine.execSamplePreload s
  | .idcode => Sys2Proof.Machine.execIdcode s
  | .highz => Sys2Proof.Machine.execHighz s
  | .clamp => Sys2Proof.Machine.execClamp s
  | .bypass => Sys2Proof.Machine.execBypass s
  | .stAdmitEnd => Sys2Proof.Machine.execStAdmitEnd s
  | .stDrainDone => Sys2Proof.Machine.execStDrainDone s
  | .stDrainTimeout => Sys2Proof.Machine.execStDrainTimeout s
  | .memtestLoan => Sys2Proof.Machine.execMemtestLoan s
  | .ringCalGo => Sys2Proof.Machine.execRingCalGo s
  | .exchCommit => Sys2Proof.Machine.execExchCommit s
  | .pcoreExchangeDone => Sys2Proof.Machine.execPcoreExchangeDone s
  | .uartDataRead => Sys2Proof.Machine.execUartDataRead s
  | .uartTxByteSent => Sys2Proof.Machine.execUartTxByteSent s
  | .fragFlushDone => Sys2Proof.Machine.execFragFlushDone s

end Sys2Proof.Machine
end

