-- ==== Sys2Proof/Machine/RingLine.lean ====
section
/-! DEFINITION. The line code of a ring port (spec/10 R339 to R342): what its transmit pair carries of the blocks that the output
log holds, as 66-bit blocks with their sync headers, scrambled, and what a receiver makes of them. The layouts and the scrambler are
those of IEEE 802.3 clause 49, which the spec names and does not give. (log entry 235, PRESUMED). -/

namespace Sys2Proof.Machine

/-- A 66-bit block before the scrambler: whether its sync header is that of a data block (01) or of a control block (10), and the
64 bits after it, the first sent being bit 0. -/
structure CodedBlock where
  data : Bool
  bits : BitVec 64
  deriving DecidableEq, Repr

/-- The seven-bit control codes of clause 49: idle and error. -/
def idleCode : Nat := 0x00
def errorCode : Nat := 0x1E

/-- Control codes from place `k` of a control block on, each of seven bits. -/
def codesFrom (k : Nat) : List Nat → Nat
  | [] => 0
  | c :: r => c * 2 ^ k + codesFrom (k + 7) r

/-- The type of a terminate block after `n` data bytes. -/
def terminateType (n : Nat) : Nat := [0x87, 0x99, 0xAA, 0xB4, 0xCC, 0xD2, 0xE1, 0xFF].getD n 0xFF

/-- A block of type `t` whose seven further bytes are the number `v`. -/
def controlBlock (t v : Nat) : CodedBlock := ⟨false, BitVec.ofNat 64 (t + v * 256)⟩

/-- A terminate block: its data bytes, then the control codes after its terminate place, the first of them the error code where the
frame is ended as bad (spec/10 R341). -/
def terminateBlock (bs : List Byte) (err : Bool) : CodedBlock :=
  let n := bs.length
  let codes := (List.range (7 - n)).map (fun i => if err && i == 0 then errorCode else idleCode)
  controlBlock (terminateType n) (leNat bs + codesFrom (8 * n + (7 - n)) codes)

/-- The coded blocks of a block. A terminate block of seven data bytes has no place after them; one that ends a bad frame comes
behind a block of error codes. -/
def Block.coded : Block → List CodedBlock
  | .start bs => [controlBlock 0x78 (leNat bs)]
  | .data bs => [⟨true, BitVec.ofNat 64 (leNat bs)⟩]
  | .terminate bs err =>
    (if err && bs.length == 7 then [controlBlock 0x1E (codesFrom 0 (List.replicate 8 errorCode))] else [])
      ++ [terminateBlock bs err]
  | .idle => [controlBlock 0x1E 0]

/-- The coded block of an ordered set: type 0x4B with O code 0x0 (spec/10 R342). -/
def orderedBlock (d1 d2 d3 : Nat) : CodedBlock := controlBlock 0x4B (d1 % 256 + d2 % 256 * 2 ^ 8 + d3 % 256 * 2 ^ 16)

/-- One bit through the scrambler, whose state is its last 58 output bits, the newest in bit 0: 1 + x³⁹ + x⁵⁸. -/
def scrambleBit (st : BitVec 58) (b : Bool) : Bool := b ^^ (st.getLsbD 38 ^^ st.getLsbD 57)

/-- The state after a bit on the line. -/
def lineShift (st : BitVec 58) (b : Bool) : BitVec 58 := (st <<< 1) ||| (BitVec.ofBool b).setWidth 58

/-- Bits through the scrambler: the state after them and the bits on the line. -/
def scrambleBits (st : BitVec 58) : List Bool → BitVec 58 × List Bool
  | [] => (st, [])
  | b :: r =>
    let o := scrambleBit st b
    let (st, l) := scrambleBits (lineShift st o) r
    (st, o :: l)

/-- Bits of the line through the descrambler, which holds the last 58 of them. -/
def descrambleBits (st : BitVec 58) : List Bool → BitVec 58 × List Bool
  | [] => (st, [])
  | o :: r =>
    let (st', l) := descrambleBits (lineShift st o) r
    (st', scrambleBit st o :: l)

/-- The 64 bits of a block after its sync header, in the order of sending. -/
def CodedBlock.list (b : CodedBlock) : List Bool := (List.range 64).map b.bits.getLsbD

/-- Coded blocks on the line: each block's sync header, which is not scrambled, and its 64 scrambled bits. -/
def lineBlocks (st : BitVec 58) : List CodedBlock → List (Bool × List Bool)
  | [] => []
  | b :: r =>
    let (st, l) := scrambleBits st b.list
    (b.data, l) :: lineBlocks st r

/-- What a receiver descrambles. -/
def fromLine (st : BitVec 58) : List (Bool × List Bool) → List (Bool × List Bool)
  | [] => []
  | (d, l) :: r =>
    let (st, m) := descrambleBits st l
    (d, m) :: fromLine st r

/-- The coded blocks that an output puts on a ring port's transmit pair; none: it is none of the ring's. -/
def Output.ringBlocks : Output → List CodedBlock
  | .ring _ bs => bs.flatMap Block.coded
  | .oset _ d1 d2 d3 => [orderedBlock d1 d2 d3]
  | _ => []

/-- What the transmit pair carries of the `k`-th output (spec/10 R339), behind the idle blocks that went before it, whose number is a
matter of time: the scrambler's state at its first bit is a free value. -/
def State.ringLine (s : State) (k : Nat) : List (Bool × List Bool) :=
  match s.out[k]? with
  | some o => lineBlocks (Config.scrambler k) o.ringBlocks
  | none => []

end Sys2Proof.Machine
end

