-- ==== Sys2Proof/WellFormed.lean ====
section
/-! DEFINITION. Which commands are well-formed: the fields' types bound the rest. -/

namespace Sys2Proof

/-- A RESERVED_OPCODE names a word that decodes to no instruction (spec/04 R122); a THERMAL_SAMPLE holds the fourteen
temperatures of spec/15 Table 15.1. Every other command is well-formed. (log entry 6, DESIGN CHOICE). -/
def Instr.wellFormed (i : Instr) : Bool :=
  match i with
  | .reservedOpcode t w => (Machine.decodeIsa t w).isNone
  | .thermalSample temps => temps.length == 14
  | _ => true

end Sys2Proof
end

