-- ==== Sys2Proof/Safety.lean ====
section
/-! DEFINITION. What counts as a safe run, and the terms that statements about commands use: what a thread needs to run an
instruction, and what a command leaves unchanged. -/

namespace Sys2Proof.Safety

open Sys2Proof.Machine

/-- A step that neither faults nor refuses. -/
def goesOn (s : State) : Prop := ∃ t, step s = .next t

/-- Every waiting command is well-formed. -/
def fedWell (s : State) : Prop := ∀ c ∈ s.pending, c.wellFormed = true

/-- Memory, the latent errors, the registers and the threads stand in their canonical form. -/
def canonical (s : State) : Prop :=
  Memory.wf s.mem = true ∧ twf eccDefault s.bad = true ∧ twf regReset s.regs = true ∧ twf Thread.init s.threads = true

/-! ### Running an instruction -/

/-- Thread `t` issues an instruction that reads `rs` to a pipe (spec/02 Table 2.11, spec/05 R163): it can, its fetch meets no
fault, and the instruction runs in `s₁`, which keeps the pc as that of the last instruction issued. -/
def issues (s : State) (t : Nat) (p : Pipe) (rs : List Reg) (s₁ : State) : Prop :=
  (s.th t).canIssue p rs = true ∧ ∃ s₀, s.fetch t = (s₀, none) ∧ s₁ = s₀.modTh t (fun x => { x with lastPc := x.pc })

/-- Thread `t` is RUNNING, its fetch meets no fault, and the instruction runs in `s₁`. -/
def runs (s : State) (t : Nat) (s₁ : State) : Prop :=
  (s.th t).life = .running ∧ ∃ s₀, s.fetch t = (s₀, none) ∧ s₁ = s₀.modTh t (fun x => { x with lastPc := x.pc })

/-- No register of a list holds POISON. -/
def unpoisoned (s : State) (t : Nat) (rs : List Reg) : Prop := ∀ r ∈ rs, (s.w t r.val).kind ≠ .poison

/-- The pc of the next instruction. -/
def pcAfter (x : Thread) : Nat := (x.pc + 4) % 2 ^ 40

/-! ### What a command leaves unchanged -/

/-- Everything but thread `t` is unchanged. -/
def onlyThread (t : Nat) (s s' : State) : Prop :=
  s' = { s with threads := s'.threads } ∧ ∀ u, u ≠ t → s'.th u = s.th u

/-- Everything but the registers at the listed addresses is unchanged. -/
def onlyRegs (as : List Nat) (s s' : State) : Prop :=
  s' = { s with regs := s'.regs } ∧ ∀ a, a ∉ as → s'.reg a = s.reg a

/-- A register takes a software write of `v` under the access codes of its fields (spec/00 Table 0.2): RO keeps, RW takes, W1C
clears where 1 is written, WO stores nothing, RWC takes in CONFIG only; bits that no field names read as zero (R12). -/
def fieldsTake (conf : Bool) (fields : List FieldRow) (old v new : BitVec 32) : Prop :=
  (∀ f ∈ fields, ∀ i, i < f.width → new.toNat.testBit (f.lo + i) =
    match f.acc with
    | .ro => old.toNat.testBit (f.lo + i)
    | .rw => v.toNat.testBit (f.lo + i)
    | .w1c => old.toNat.testBit (f.lo + i) && !v.toNat.testBit (f.lo + i)
    | .wo => false
    | .rwc => if conf then v.toNat.testBit (f.lo + i) else old.toNat.testBit (f.lo + i)) ∧
  ∀ j, (∀ f ∈ fields, j < f.lo ∨ f.lo + f.width ≤ j) → new.toNat.testBit j = false

/-- The registers, by the address of their first instance, whose write can do more than store their fields. -/
def actingRegs : List Nat :=
  [A.PWR_FIXED, A.SYS_WDT_KICK, A.SYS_LC_CMD, A.SYS_BOOT_TRY, A.SYS_AON_RST, A.SYS_PCORE_RST, A.SYS_PCORE_CTL, A.SYS_WDT_CTL,
    A.SYS_OTP_OP, A.SDC_CTRL 0, A.MEMECC_CTRL, A.POOL_CFG 0, A.POOL_BASE_LO 0, A.POOL_BASE_HI 0, A.POOL_COUNT 0,
    A.POOL_META_LO 0, A.POOL_META_HI 0, A.AUDIT_CTL] ++
  [A.SCH_DOM_TYPE 0, A.GRP_MIN 0, A.GRP_MAX 0, A.THREAD_CTL 0 0, A.THREAD_CFG 0 0, A.PR_BASE_LO 0 0 0, A.PR_BASE_HI 0 0 0,
    A.PR_LIMIT_LO 0 0 0, A.PR_LIMIT_HI 0 0 0, A.TILE_SUPV 0, A.PRS_BANK, A.PRS_CMD, A.CLS_COMMIT, A.CLS_FRAG_CTL, A.RULE_W 0,
    A.CLS_SLOW] ++
  [A.RING_CTL, A.PDM_RX 0, A.PDM_TX 0, A.PDM_TX_BANK 0, A.UPL_CTL 0, A.TS_STAT 0 0, A.CL_CTL 0, A.DICT_STATE_CMD,
    A.DICT_SUB_GO, A.DICT_FWD_POP, A.DICT_FWD_RESP, A.DECL_1 0, A.DICT_RPL_RD, A.DICT_FWD_TOTAL] ++
  [A.TMR_CTL 0, A.TMR_CMP_A_LO 0, A.TMR_CMP_A_HI 0, A.TMR_CMP_B_LO 0, A.TMR_CMP_B_HI 0, A.CAP_CTL 0, A.REC_CMD, A.REC_RD_SEL,
    A.ST_CTL, A.ST_RING_CAL, A.EXCH_CTL, A.EXCH_PC_CTL, A.EXCH_PC_STAT, A.UART_DATA, A.I2C_CMD]

/-- The dictionary engine writes a field: it reads the register and writes it with the field's new value, the other RW and RWC bits as
they were read and every other bit 0 (spec/12 R432). -/
def fieldWrite (f : Fld) (v : Nat) (s s' : State) : Prop :=
  ∀ row idx (addr : BitVec 32), regRow f.addr = some (row, idx) → addr.toNat = f.addr →
    let r := s.mbusRead .other f.addr
    exec (.registerWrite addr (BitVec.ofNat 32 (putBits (keepBits r.2.toNat row.fields) f.lo f.width v))) r.1 = .next s'

/-- Register `rd` of thread `t` takes `w`, unless it is w0, which reads as zero DATA (spec/02 R36); every other register of the
thread keeps its value and tag. -/
def writes (t : Nat) (rd : Reg) (w : Word) (s s' : State) : Prop :=
  s'.w t rd.val = (if rd = 0 then Word.zero else w) ∧ ∀ q : Reg, q ≠ rd → s'.w t q.val = s.w t q.val

/-- What an instruction with a result register does to its thread and to nothing else: it writes `rd` and goes on at the next
instruction; only where the thread waits for a RELAXED load to `rd` is that load marked as overwritten. -/
def givesAt (t : Nat) (rd : Reg) (w : Word) (pc : Nat) (s s' : State) : Prop :=
  onlyThread t s s' ∧ writes t rd w s s' ∧
  s'.th t = { s.th t with pc := pc, regs := (s'.th t).regs, wait := (s'.th t).wait } ∧
  (s'.th t).wait = (match (s.th t).wait with
    | some (.load p) => some (.load { p with stale := p.stale || p.rd == rd })
    | x => x)

/-- The same, going on at the next instruction. -/
def gives (t : Nat) (rd : Reg) (w : Word) (s s' : State) : Prop := givesAt t rd w (pcAfter (s.th t)) s s'

/-- An instruction without a result register: only the pc of its thread changes. -/
def movesTo (t pc : Nat) (s s' : State) : Prop := onlyThread t s s' ∧ s'.th t = { s.th t with pc := pc }

/-! ### The tile cache -/

/-- Tile `t`'s cache holds the line of address `k` in way `w` once a WT or WB access to it has looked it up, in `s₁`: it held it
before, or it has filled it from memory without error into an invalid way, else into the way that the tree names, whose line
is written back when it is dirty (spec/02 R667, Table 2.10). -/
def lineIn (s : State) (t k w : Nat) (s₁ : State) : Prop :=
  let i := setKey t k
  let c := s.cset i
  let s₀ := match c.line w with
    | some l => s.writeBack l
    | none => s
  (c.wayOf (k / 64) = some w ∧ s₁ = s.setCset i { c with plru := plruTouch c.plru w }) ∨
  (c.wayOf (k / 64) = none ∧
    w = (match c.ways.findIdx? Option.isNone with
      | some w => w
      | none => plruVictim c.plru) ∧
    (∀ j, j < 8 → tget eccDefault s₀.bad (k / 64 * 64 + 8 * j) = .good) ∧
    s₁ = s₀.setCset i ⟨c.ways.set w (some ⟨k / 64, false, (List.range 8).map (fun j => s₀.word (k / 64 * 64 + 8 * j))⟩),
      plruTouch c.plru w⟩)

/-! ### What a helper reads -/

/-- A helper can read the byte at an address: a memory holds its word, which is not POISON (spec/03 Table 3.8). -/
def readable (s : State) (a : Nat) : Prop := s.memOf (wordKey a) ≠ none ∧ (s.word (wordKey a)).readAs.kind ≠ .poison

/-- The bytes of a range of memory. -/
def bytesAt (s : State) (a n : Nat) : List Byte :=
  (List.range n).map (fun i => byteOf (s.word (wordKey (a + i))).val ((a + i) % 8))

/-! ### Buffers -/

/-- The buffer of a handle is given back (spec/06 R222, R240): where it is allocated under the handle's generation, its metadata
without error, its owner and its pool count one less, and it heads the free list, unless it is marked RETIRE and leaves service
instead. -/
def givenBack (h : Word) (s s' : State) : Prop :=
  ∀ l, (s.pool (hPool h.val)).built = some l → hIndex h.val < l.count →
    tget eccDefault s.bad (l.meta_ + 8 * hIndex h.val) = .good → s.caches = [] →
    let p := hPool h.val
    let v := s.metaOf l (hIndex h.val)
    mAlloc v = true → mGen v = hGen h.val →
    s'.rd (F.ACCT_INUSE_INUSE p (mOwner v)) = s.rd (F.ACCT_INUSE_INUSE p (mOwner v)) - 1 ∧
    s'.rd (F.POOL_INUSE_COUNT p) = s.rd (F.POOL_INUSE_COUNT p) - 1 ∧ mAlloc (s'.metaOf l (hIndex h.val)) = false ∧
    (mRetire v = false → (s'.pool p).head = hIndex h.val ∧
      s'.rd (F.POOL_FREE_FREE p) = (s.rd (F.POOL_FREE_FREE p) + 1) % 2 ^ (F.POOL_FREE_FREE p).width) ∧
    (mRetire v = true → (s'.pool p).head = (s.pool p).head ∧ s'.rd (F.POOL_FREE_FREE p) = s.rd (F.POOL_FREE_FREE p) ∧
      s'.rd (F.POOL_RETIRED_COUNT p) = (s.rd (F.POOL_RETIRED_COUNT p) + 1) % 2 ^ (F.POOL_RETIRED_COUNT p).width)

/-! ### Counters, records, events -/

/-- A counter goes up by one, or stays at its greatest value. -/
def counts (f : Fld) (s s' : State) : Prop := s'.rd f = min (2 ^ f.width - 1) (s.rd f + 1)

/-- A record is offered to the Pewter recorder after those offered before, which has room for it and is not frozen. -/
def offers (source code data : Nat) (s s' : State) : Prop :=
  s.recorder.frozen = false → s.recorder.offered.length < 64 →
    s'.recorder.offered[s.recorder.offered.length]? = some ⟨source, code, data % 2 ^ 64⟩

/-- A timestamp identifies the frame `data`, whose PTP header stands at `n` (spec/11 R411). -/
def identifies (data : List Byte) (n : Nat) (e : TsEntry) : Prop :=
  e.seqId = halfAt data (n + 30) ∧ e.msgType = byteAt data n % 16 ∧ e.domain = byteAt data (n + 4)

/-- An uplink adds the timestamp of a frame in buffer `h`, which meets `p`, to the FIFO of a direction, or counts it as lost where the
FIFO is full (spec/11 R408 to R411). -/
def stamps (u : Nat) (tx : Bool) (h : Word) (p : TsEntry → Prop) (time : Nat) (lost : Nat → Fld) (s s' : State) : Prop :=
  ((s.tsFifo u tx).length < 64 → ∃ e, s'.tsFifo u tx = s.tsFifo u tx ++ [e] ∧ e.key = h.val.toNat / 2 ^ 32 ∧ p e ∧
    e.ns * 2 ^ 32 + e.frac = s.tsAdjust u tx (s.stampPast time)) ∧
  (64 ≤ (s.tsFifo u tx).length → s'.ts = s.ts ∧ counts (lost u) s s')

/-- An event is pending in both Puppeteer cores, beside those that were. -/
def pends (e : Ev) (s s' : State) : Prop := ∀ c, c < 2 →
  (s'.th (192 + c)).evpend = Nat.lor (s.th (192 + c)).evpend e.mask

end Sys2Proof.Safety
end

