-- ==== Sys2Proof/Certificates/Slice0/Obligations.lean ====
section
/-! DEFINITION. The statements about the 4872, for the provers. -/

open Sys2Proof Sys2Proof.Machine Sys2Proof.Safety

/-! ### The block as a whole -/

/-- A step takes the oldest waiting command and runs it with the rest of the queue waiting; with none waiting nothing changes
(log entry 1). -/
def Obligations.StepRunsFrontCommand : Prop :=
  (∀ (c : Instr) (rest : List Instr) (s : State), step { s with pending := c :: rest } = exec c { s with pending := rest }) ∧
  ∀ s : State, s.pending = [] → step s = .next s

/-- Every command answers a next state in every state, but for a RESERVED_OPCODE whose word decodes and a THERMAL_SAMPLE that
does not hold fourteen readings, which fault and spell no row. Where the model chose: log entry 6. -/
def Obligations.WellFormedCommandsGoOn : Prop :=
  ∀ (c : Instr) (s : State),
    (c.wellFormed = true → ∃ t, exec c s = .next t) ∧ (c.wellFormed = false → exec c s = .fault .illFormed)

/-- After reset every register of the map stands at its Reset column, every stored word outside the boot ROM's image is value
0 with tag DATA, every worker thread is OFFLINE with registers zero in group 0, or 15 for local threads 3 and 19, and no
command waits. That VCORE is off and the main domains are held is the model's choice of the moment (log entry 2). Where the
model chose: log entry 12. -/
def Obligations.ResetValues : Prop :=
  (∀ a, State.reset.reg a = regReset a) ∧
  (∀ k, ¬ (mbusWindow + 0x10000000 ≤ k ∧ k < mbusWindow + 0x10010000) → State.reset.word k = Word.zero) ∧
  (∀ t : Fin 192, (State.reset.th t.val).life = .offline ∧ (∀ r, State.reset.w t.val r = Word.zero) ∧
    (State.reset.th t.val).group = if t.val % 32 = 3 ∨ t.val % 32 = 19 then 15 else 0) ∧
  State.reset.tasks = [] ∧ State.reset.pending = [] ∧ canonical State.reset

/-- Memory, the latent errors, the registers and the threads keep their canonical form in every step: keys rise strictly and
no entry equals what an unlisted key reads as, so that equal contents are equal data. Where the model chose: log entries 12,
14. -/
def Obligations.StepKeepsCanonicalForm : Prop :=
  ∀ s s' : State, canonical s → step s = .next s' → canonical s'

/-- No command returns a programmed fuse bit to 0. Where the model chose: log entry 160. -/
def Obligations.FusesOnlyRise : Prop :=
  ∀ (s s' : State) (k i : Nat), step s = .next s' → (s.otpWord k).toNat.testBit i = true →
    (s'.otpWord k).toNat.testBit i = true

/-! ### Instruction words -/

/-- The word of an instruction decodes to that instruction, every operand at every value; the three FRESOLVE rows share one
word. A word that decodes is the word of the instruction it decodes to: no bit of an instruction word is dropped, and a word
with a bit outside its format's fields decodes to nothing. Where the model chose: log entries 5, 57. -/
def Obligations.EncodingRoundTrips : Prop :=
  (∀ (i : Instr) (t : Tid) (w : BitVec 32), issuerOf i = some t → encodeIsa i = some w →
    (∀ u v, i ≠ .reservedOpcode u v) → (∀ a b c, i ≠ .fresolveRestart t a b c ∧ i ≠ .fresolveAbort t a b c) →
    decodeIsa t w = some i) ∧
  (∀ (t : Tid) (w : BitVec 32) (i : Instr), decodeIsa t w = some i → encodeIsa i = some w ∧ issuerOf i = some t)

/-! ### Issue, fetch, faults -/

/-- An instruction of a thread that is neither RUNNING nor BLOCKED does nothing (log entry 3); one of a RUNNING thread is
fetched before anything else: where the fetch at the pc meets a fault, the thread raises it and the instruction has no effect.
What a fetch checks: a worker thread's deciding region must allow execution, the word must lie where instructions can be
fetched from (neither ingot memory, nor core scratch, nor the M-bus window), else PROT_EXECUTE with the pc; a word that the
core's instruction cache serves meets no further check; of one that is read from memory an uncorrectable error raises
ECC_UNCORRECTED with the pc, a POISON word POISON_USE with its value, and a worker core keeps any other. Where the model
chose: log entries 5, 31, 195. -/
def Obligations.Fetch : Prop :=
  (∀ (i : Instr) (t : Tid) (s : State), issuerOf i = some t → i.wellFormed = true →
    ((s.th t.val).life ≠ .running → (s.th t.val).life ≠ .blocked → exec i s = .next s) ∧
    ∀ (s₀ : State) (c : Nat) (v : Val), (s.th t.val).life = .running → s.fetch t.val = (s₀, some (c, v)) →
      exec i s = .next (s₀.raise t.val c v true)) ∧
  (∀ (s : State) (t : Tid),
    (t.val < 192 → deciding (s.th t.val).set.regions (s.priv t.val) (s.th t.val).pc = none →
      s.fetch t.val = (s, some (0x06, BitVec.ofNat 64 (s.th t.val).pc))) ∧
    (∀ r, t.val < 192 → deciding (s.th t.val).set.regions (s.priv t.val) (s.th t.val).pc = some r → r.x = false →
      s.fetch t.val = (s, some (0x06, BitVec.ofNat 64 (s.th t.val).pc))) ∧
    ((s.th t.val).pc < 0x1000000 ∨ (0x20000000 ≤ (s.th t.val).pc ∧ (s.th t.val).pc < 0x20300000) ∨
        inWindow (s.th t.val).pc = true → t.val < 192 →
      s.fetch t.val = (s, some (0x06, BitVec.ofNat 64 (s.th t.val).pc))) ∧
    (∀ r m k, (t.val < 192 → deciding (s.th t.val).set.regions (s.priv t.val) (s.th t.val).pc = some r ∧ r.x = true) →
      s.locate t.val (s.th t.val).pc = .cell m k → (∀ n, m ≠ .scratch n) → m ≠ .ingot → inWindow (s.th t.val).pc = false →
      (s.icacheHit t.val (wordKey k) = true → s.fetch t.val = (s, none)) ∧
      (s.icacheHit t.val (wordKey k) = false →
        (tget eccDefault s.bad (wordKey k) = .good →
          s.fetch t.val = if (s.word (wordKey k)).readAs.kind = .poison
            then (s, some (0x0B, (s.word (wordKey k)).readAs.val))
            else (s.icacheFill t.val (wordKey k) (s.word (wordKey k)).readAs, none)) ∧
        (tget eccDefault s.bad (wordKey k) = .uncorrectable →
          s.fetch t.val = (s.uncorrectable m (wordKey k), some (0x0C, BitVec.ofNat 64 (s.th t.val).pc))))))

/-- A fault stops its thread in FAULTED at the pc of its instruction with code and INFO held, those of BUDGET in place of any
other where the budget counter has reached LIMIT; a worker thread's record is due and its tile's fault count rises, a
Puppeteer core offers a recorder entry and P-core 0 loses READY; no register of a thread, no word of memory and no other
thread changes, but where it was the last supervisor of its tile that could take records and some wait in group 15: those go
to P-core 0 in their queue order, the first one into SUPV_ESC_REC where that is free. -/
def Obligations.FaultStopsThread : Prop :=
  ∀ (s : State) (t : Tid) (c : Nat) (v : Val),
    let s' := s.raise t.val c v
    let x := s.th t.val
    let tile := t.val / 32
    let limit := s.rd (F.GRP_BUDGET_LIMIT x.group)
    let due := decide (t.val < 192 ∧ x.held ≠ none ∧ limit ≠ 0 ∧ limit ≤ x.used)
    let code := if due then 0x0E else c
    let stopped : Thread := { x with
      life := .faulted, wait := none,
      fault := some ⟨code, if due then BitVec.ofNat 64 limit else v, x.pc, x.used, false, none,
        decide (t.val < 192) && t.val == s.activeSup tile⟩,
      record := if 192 ≤ t.val then .none else .waiting }
    let isReady := fun (k : Stage) => match k with
      | .ready _ => true
      | _ => false
    let due15 := fun (e : Nat × Task) => e.2.faultOf.map (· / 32) == some tile && isReady e.2.stage
    let last := ∀ u, u = s.activeSup tile ∨ u = s.otherSup tile → u = t.val ∨ s.available u = false
    let pending := s.is (F.SUPV_ESC_STAT_PENDING tile)
    let faults := s'.rd (F.TILE_FAULT_STAT_FAULTS tile) =
      min (2 ^ (F.TILE_FAULT_STAT_FAULTS tile).width - 1) (s.rd (F.TILE_FAULT_STAT_FAULTS tile) + 1)
    (192 ≤ t.val ∨ ¬ last ∨ (∀ e ∈ s.tasks, due15 e = false) → s'.th t.val = stopped ∧
      (∀ u, u ≠ t.val → s'.th u = s.th u) ∧
      s' = { s with threads := s'.threads, regs := s'.regs, recorder := s'.recorder } ∧
      (t.val < 192 → onlyRegs [A.TILE_FAULT_STAT tile] { s with threads := s'.threads } s' ∧ faults) ∧
      (t.val = 192 → s'.rd F.DICT_FW_CTL_READY = 0) ∧
      (192 ≤ t.val → s.recorder.frozen = false → s.recorder.offered.length < 64 →
        s'.recorder = { s.recorder with
          offered := s.recorder.offered ++ [⟨0x20 + (t.val - 192), code, x.pc % 2 ^ 64⟩] })) ∧
    (t.val < 192 → last → pending = true → s'.escQueue tile = s.escQueue tile ++
      ((s.tasks.filter due15).foldr insertTask []).map (fun e => (e.2.faultOf.getD 0, e.2.words.map Word.val))) ∧
    ∀ n k u, t.val < 192 → last → s.task n = some k → due15 (n, k) = true → (∀ e ∈ s.tasks, due15 e = true → e = (n, k)) →
      k.faultOf = some u → u ≠ t.val → u < 192 → pending = false → s.escQueue tile = [] → k.words.length = 4 →
      (s.th 192).life ≠ .blocked → (s.th 193).life ≠ .blocked →
      s'.th t.val = stopped ∧ (s'.th u).record = .delivered ∧ s'.task n = none ∧ (∀ m, m ≠ n → s'.task m = s.task m) ∧ faults ∧
      s'.is (F.SUPV_ESC_STAT_PENDING tile) = true ∧ s'.escQueue tile = [] ∧
      (∀ j, j < 4 → ∀ w : Word, k.words[j]? = some w → s'.rd (F.SUPV_ESC_REC_WORD tile (2 * j)) = w.val.toNat % 2 ^ 32 ∧
        s'.rd (F.SUPV_ESC_REC_WORD tile (2 * j + 1)) = w.val.toNat / 2 ^ 32) ∧
      (s'.th 192).evpend = Nat.lor (s.th 192).evpend 0x2

/-- Register w0 reads as value zero with tag DATA in every thread of every state, and a write to it has no effect. -/
def Obligations.RegisterZero : Prop :=
  ∀ (s : State) (t : Nat) (x : Thread) (w : Word), s.w t 0 = Word.zero ∧ x.setReg 0 w = x

/-! ### The A-pipe -/

/-- The arithmetic instructions with two register operands, none of them POISON: the result is DATA with the value below,
whatever the operands' other tags. The immediate instructions, the immediate shifts, CLZ and POPC, rs1 not POISON: the 16-bit
immediate is sign-extended for ADDI, SLTI and SLTIU and zero-extended for ANDI, ORI and XORI; CLZ of a value other than 0 is
the number of zero bits above its highest 1 bit. -/
def Obligations.ArithmeticResults : Prop :=
  (∀ (t : Tid) (rd rs1 rs2 : Reg) (s s₁ : State), issues s t.val .a [rs1, rs2] s₁ → unpoisoned s₁ t.val [rs1, rs2] →
    let a := (s₁.w t.val rs1.val).val
    let b := (s₁.w t.val rs2.val).val
    let n := b.toNat % 64
    (∃ s', exec (.add t rd rs1 rs2) s = .next s' ∧ gives t.val rd (Word.data (a + b)) s₁ s') ∧
    (∃ s', exec (.sub t rd rs1 rs2) s = .next s' ∧ gives t.val rd (Word.data (a - b)) s₁ s') ∧
    (∃ s', exec (.and_ t rd rs1 rs2) s = .next s' ∧ gives t.val rd (Word.data (a &&& b)) s₁ s') ∧
    (∃ s', exec (.or_ t rd rs1 rs2) s = .next s' ∧ gives t.val rd (Word.data (a ||| b)) s₁ s') ∧
    (∃ s', exec (.xor t rd rs1 rs2) s = .next s' ∧ gives t.val rd (Word.data (a ^^^ b)) s₁ s') ∧
    (∃ s', exec (.sll t rd rs1 rs2) s = .next s' ∧ gives t.val rd (Word.data (BitVec.ofNat 64 (a.toNat * 2 ^ n))) s₁ s') ∧
    (∃ s', exec (.srl t rd rs1 rs2) s = .next s' ∧ gives t.val rd (Word.data (BitVec.ofNat 64 (a.toNat / 2 ^ n))) s₁ s') ∧
    (∃ s', exec (.sra t rd rs1 rs2) s = .next s' ∧ gives t.val rd (Word.data (BitVec.ofInt 64 (a.toInt / 2 ^ n))) s₁ s') ∧
    (∃ s', exec (.slt t rd rs1 rs2) s = .next s' ∧ gives t.val rd (Word.data (if a.toInt < b.toInt then 1 else 0)) s₁ s') ∧
    (∃ s', exec (.sltu t rd rs1 rs2) s = .next s' ∧ gives t.val rd (Word.data (if a.toNat < b.toNat then 1 else 0)) s₁ s') ∧
    (∃ s', exec (.mul t rd rs1 rs2) s = .next s' ∧ gives t.val rd (Word.data (a * b)) s₁ s') ∧
    (∃ s', exec (.mulh t rd rs1 rs2) s = .next s' ∧
      gives t.val rd (Word.data (BitVec.ofInt 64 (a.toInt * b.toInt / 2 ^ 64))) s₁ s') ∧
    (∃ s', exec (.mulhu t rd rs1 rs2) s = .next s' ∧
      gives t.val rd (Word.data (BitVec.ofNat 64 (a.toNat * b.toNat / 2 ^ 64))) s₁ s') ∧
    (∃ s', exec (.min t rd rs1 rs2) s = .next s' ∧ gives t.val rd (Word.data (if b.toInt < a.toInt then b else a)) s₁ s') ∧
    (∃ s', exec (.max t rd rs1 rs2) s = .next s' ∧ gives t.val rd (Word.data (if a.toInt < b.toInt then b else a)) s₁ s')) ∧
  (∀ (t : Tid) (rd rs1 : Reg) (imm : BitVec 16) (sh : BitVec 6) (s s₁ : State), issues s t.val .a [rs1] s₁ →
    unpoisoned s₁ t.val [rs1] →
    let a := (s₁.w t.val rs1.val).val
    let n := sh.toNat
    let x : Val := BitVec.ofInt 64 imm.toInt
    let z : Val := BitVec.ofNat 64 imm.toNat
    (∃ s', exec (.addi t rd rs1 imm) s = .next s' ∧ gives t.val rd (Word.data (a + x)) s₁ s') ∧
    (∃ s', exec (.andi t rd rs1 imm) s = .next s' ∧ gives t.val rd (Word.data (a &&& z)) s₁ s') ∧
    (∃ s', exec (.ori t rd rs1 imm) s = .next s' ∧ gives t.val rd (Word.data (a ||| z)) s₁ s') ∧
    (∃ s', exec (.xori t rd rs1 imm) s = .next s' ∧ gives t.val rd (Word.data (a ^^^ z)) s₁ s') ∧
    (∃ s', exec (.slti t rd rs1 imm) s = .next s' ∧ gives t.val rd (Word.data (if a.toInt < imm.toInt then 1 else 0)) s₁ s') ∧
    (∃ s', exec (.sltiu t rd rs1 imm) s = .next s' ∧ gives t.val rd (Word.data (if a.toNat < x.toNat then 1 else 0)) s₁ s') ∧
    (∃ s', exec (.shiSll t rd rs1 sh) s = .next s' ∧ gives t.val rd (Word.data (BitVec.ofNat 64 (a.toNat * 2 ^ n))) s₁ s') ∧
    (∃ s', exec (.shiSrl t rd rs1 sh) s = .next s' ∧ gives t.val rd (Word.data (BitVec.ofNat 64 (a.toNat / 2 ^ n))) s₁ s') ∧
    (∃ s', exec (.shiSra t rd rs1 sh) s = .next s' ∧ gives t.val rd (Word.data (BitVec.ofInt 64 (a.toInt / 2 ^ n))) s₁ s') ∧
    (∃ s', exec (.shiRor t rd rs1 sh) s = .next s' ∧
      gives t.val rd (Word.data (BitVec.ofNat 64 (a.toNat / 2 ^ n) ||| BitVec.ofNat 64 (a.toNat * 2 ^ (64 - n)))) s₁ s') ∧
    (∃ s' k, exec (.clz t rd rs1) s = .next s' ∧ gives t.val rd (Word.data (BitVec.ofNat 64 k)) s₁ s' ∧ k ≤ 64 ∧
      (k < 64 → a.toNat.testBit (63 - k) = true) ∧ ∀ i, 64 - k ≤ i → a.toNat.testBit i = false) ∧
    (∃ s', exec (.popc t rd rs1) s = .next s' ∧
      gives t.val rd (Word.data (BitVec.ofNat 64 ((List.range 64).countP (fun i => a.toNat.testBit i)))) s₁ s'))

/-- The divisions, no operand POISON: with a divisor other than 0 the quotient is rounded towards zero and the remainder has
the sign of the dividend, the most negative value by −1 gives itself and 0; a divisor of 0 makes a RUNNING thread raise
DIVIDE_ZERO with the value of rs1. -/
def Obligations.DivisionResults : Prop :=
  ∀ (t : Tid) (rd rs1 rs2 : Reg) (s s₁ : State), issues s t.val .a [rs1, rs2] s₁ → unpoisoned s₁ t.val [rs1, rs2] →
    let a := (s₁.w t.val rs1.val).val
    let b := (s₁.w t.val rs2.val).val
    let q := BitVec.ofInt 64 (a.toInt.tdiv b.toInt)
    (b ≠ 0 →
      (∃ s', exec (.div t rd rs1 rs2) s = .next s' ∧ gives t.val rd (Word.data q) s₁ s') ∧
      (∃ s', exec (.divu t rd rs1 rs2) s = .next s' ∧ gives t.val rd (Word.data (BitVec.ofNat 64 (a.toNat / b.toNat))) s₁ s') ∧
      (∃ s', exec (.rem t rd rs1 rs2) s = .next s' ∧ gives t.val rd (Word.data (a - b * q)) s₁ s') ∧
      (∃ s', exec (.remu t rd rs1 rs2) s = .next s' ∧
        gives t.val rd (Word.data (BitVec.ofNat 64 (a.toNat % b.toNat))) s₁ s')) ∧
    (a = BitVec.ofNat 64 (2 ^ 63) → b = -1 → q = a ∧ a - b * q = 0) ∧
    (b = 0 → (s.th t.val).life = .running →
      exec (.div t rd rs1 rs2) s = .next (s₁.raise t.val 0x11 a) ∧ exec (.divu t rd rs1 rs2) s = .next (s₁.raise t.val 0x11 a) ∧
      exec (.rem t rd rs1 rs2) s = .next (s₁.raise t.val 0x11 a) ∧ exec (.remu t rd rs1 rs2) s = .next (s₁.raise t.val 0x11 a))

/-- DIV of the most negative value by −1 gives the most negative value and REM of that pair gives 0: neither raises a fault. -/
def Obligations.MostNegativeByMinusOne : Prop :=
  ∀ (t : Tid) (rd rs1 rs2 : Reg) (s s₁ : State), issues s t.val .a [rs1, rs2] s₁ → unpoisoned s₁ t.val [rs1, rs2] →
    (s₁.w t.val rs1.val).val = BitVec.ofInt 64 (-2 ^ 63) → (s₁.w t.val rs2.val).val = -1 →
    (∃ s', exec (.div t rd rs1 rs2) s = .next s' ∧ gives t.val rd (Word.data (BitVec.ofInt 64 (-2 ^ 63))) s₁ s') ∧
    ∃ s', exec (.rem t rd rs1 rs2) s = .next s' ∧ gives t.val rd (Word.data 0) s₁ s'

/-- MOV copies value and tag and TAGGET reads the tag, of a POISON register too; MOVZ, MOVK, EXT and INS make DATA from
fields, EXT and INS of a field beyond bit 63 raise ILLEGAL with the instruction word; TAGSET sets the tag where the thread is
privileged and the tag is one that may be made, else it raises PRIVILEGE or ILLEGAL. Where the model chose: log entry 5. -/
def Obligations.CopyAndFieldResults : Prop :=
  ∀ (t : Tid) (rd rs1 : Reg) (h : BitVec 2) (imm : BitVec 16) (pos len : BitVec 6) (tag : BitVec 8) (s s₁ : State),
    (issues s t.val .a [rs1] s₁ →
      (∃ s', exec (.mov t rd rs1) s = .next s' ∧ gives t.val rd (s₁.w t.val rs1.val) s₁ s') ∧
      (∃ s', exec (.tagget t rd rs1) s = .next s' ∧
        gives t.val rd (Word.data (BitVec.ofNat 64 (s₁.w t.val rs1.val).tag.toNat)) s₁ s') ∧
      (unpoisoned s₁ t.val [rs1] → pos.toNat + len.toNat ≤ 63 →
        ∃ s', exec (.ext t rd rs1 pos len) s = .next s' ∧
          gives t.val rd (Word.data (BitVec.ofNat 64 (bits (s₁.w t.val rs1.val).val.toNat pos.toNat (len.toNat + 1)))) s₁ s') ∧
      (s₁.priv t.val = true → Tag.reserved tag = false → (Tag.kind tag = .poison → 0x20 ≤ Tag.low6 tag ∧ Tag.low6 tag ≤ 0x3E) →
        ∃ s', exec (.tagset t rd rs1 tag) s = .next s' ∧ gives t.val rd ⟨tag, (s₁.w t.val rs1.val).val⟩ s₁ s')) ∧
    (issues s t.val .a [rs1, rd] s₁ → unpoisoned s₁ t.val [rs1, rd] → pos.toNat + len.toNat ≤ 63 →
      ∃ s' v, exec (.ins t rd rs1 pos len) s = .next s' ∧ gives t.val rd (Word.data v) s₁ s' ∧
        ∀ i, i < 64 → v.toNat.testBit i = if pos.toNat ≤ i ∧ i < pos.toNat + len.toNat + 1
          then (s₁.w t.val rs1.val).val.toNat.testBit (i - pos.toNat) else (s₁.w t.val rd.val).val.toNat.testBit i) ∧
    (issues s t.val .a [] s₁ → ∃ s', exec (.movz t rd h imm) s = .next s' ∧
      gives t.val rd (Word.data (BitVec.ofNat 64 (imm.toNat * 2 ^ (16 * h.toNat)))) s₁ s') ∧
    (issues s t.val .a [rd] s₁ → unpoisoned s₁ t.val [rd] →
      ∃ s' v, exec (.movk t rd h imm) s = .next s' ∧ gives t.val rd (Word.data v) s₁ s' ∧
        ∀ i, i < 64 → v.toNat.testBit i = if 16 * h.toNat ≤ i ∧ i < 16 * h.toNat + 16
          then imm.toNat.testBit (i - 16 * h.toNat) else (s₁.w t.val rd.val).val.toNat.testBit i) ∧
    (runs s t.val s₁ →
      (64 ≤ pos.toNat + len.toNat →
        exec (.ext t rd rs1 pos len) s = .next (s₁.raise t.val 0x01 ((wordOf (.ext t rd rs1 pos len)).setWidth 64)) ∧
        exec (.ins t rd rs1 pos len) s = .next (s₁.raise t.val 0x01 ((wordOf (.ins t rd rs1 pos len)).setWidth 64))) ∧
      (Tag.reserved tag = true ∨ (Tag.kind tag = .poison ∧ ¬ (0x20 ≤ Tag.low6 tag ∧ Tag.low6 tag ≤ 0x3E)) →
        exec (.tagset t rd rs1 tag) s = .next (s₁.raise t.val 0x01 ((wordOf (.tagset t rd rs1 tag)).setWidth 64))) ∧
      (Tag.reserved tag = false → (Tag.kind tag = .poison → 0x20 ≤ Tag.low6 tag ∧ Tag.low6 tag ≤ 0x3E) →
        s₁.priv t.val = false →
        exec (.tagset t rd rs1 tag) s = .next (s₁.raise t.val 0x02 ((wordOf (.tagset t rd rs1 tag)).setWidth 64))))

/-- A compare branch, no operand POISON: it goes to pc + 4 × off where its condition holds, else to the next instruction; BTAG
compares the tag kind, of a POISON register too; J, JAL and JALR jump, JAL and JALR write pc + 4 with tag CODE into rd, JALR
from a CODE operand, or DATA where privileged, else it raises TAG_KIND, and ALIGN off a word. That JALR takes its target
modulo 2^40 is the model's choice (log entry 222). -/
def Obligations.BranchesAndJumps : Prop :=
  ∀ (t : Tid) (rd rs1 rs2 : Reg) (off : BitVec 16) (joff : BitVec 21) (kind : BitVec 2) (neg : Bool) (s s₁ : State),
    let pc := (s₁.th t.val).pc
    let dest := fun (o : Int) => (((pc : Int) + 4 * o) % 2 ^ 40).toNat
    let w := s₁.w t.val rs1.val
    let a := w.val
    let b := (s₁.w t.val rs2.val).val
    let link : Word := ⟨Tag.codeTag, BitVec.ofNat 64 ((pc + 4) % 2 ^ 40)⟩
    let g := w.val + BitVec.ofInt 64 off.toInt
    let br := fun (i : Instr) (c : Prop) =>
      ∃ s', exec i s = .next s' ∧ (c → movesTo t.val (dest off.toInt) s₁ s') ∧ (¬ c → movesTo t.val ((pc + 4) % 2 ^ 40) s₁ s')
    (issues s t.val .a [rs1, rs2] s₁ → unpoisoned s₁ t.val [rs1, rs2] →
      br (.beq t rs1 rs2 off) (a = b) ∧ br (.bne t rs1 rs2 off) (a ≠ b) ∧ br (.blt t rs1 rs2 off) (a.toInt < b.toInt) ∧
      br (.bge t rs1 rs2 off) (b.toInt ≤ a.toInt) ∧ br (.bltu t rs1 rs2 off) (a.toNat < b.toNat) ∧
      br (.bgeu t rs1 rs2 off) (b.toNat ≤ a.toNat)) ∧
    (issues s t.val .a [rs1] s₁ →
      br (.btag t rs1 kind neg off) (if neg then w.kind ≠ kindOf kind else w.kind = kindOf kind)) ∧
    (issues s t.val .a [] s₁ →
      (∃ s', exec (.j t joff) s = .next s' ∧ movesTo t.val (dest joff.toInt) s₁ s') ∧
      (∃ s', exec (.jal t rd joff) s = .next s' ∧ givesAt t.val rd link (dest joff.toInt) s₁ s')) ∧
    (issues s t.val .a [rs1] s₁ → w.kind = .code ∨ (w.kind = .data ∧ s₁.priv t.val = true) → g.toNat % 4 = 0 →
      ∃ s', exec (.jalr t rd rs1 off) s = .next s' ∧ givesAt t.val rd link (g.toNat % 2 ^ 40) s₁ s') ∧
    (runs s t.val s₁ → w.kind ≠ .poison →
      (w.kind ≠ .code → (w.kind ≠ .data ∨ s₁.priv t.val = false) →
        exec (.jalr t rd rs1 off) s = .next (s₁.raise t.val 0x12 (BitVec.ofNat 64 w.tag.toNat))) ∧
      (w.kind = .code ∨ (w.kind = .data ∧ s₁.priv t.val = true) → g.toNat % 4 ≠ 0 →
        exec (.jalr t rd rs1 off) s = .next (s₁.raise t.val 0x03 g)))

/-- A POISON operand of an arithmetic instruction makes a RUNNING thread raise POISON_USE, with the value of the first one in
operand order, and the instruction writes nothing. -/
def Obligations.PoisonOperandFaults : Prop :=
  ∀ (t : Tid) (rd rs1 rs2 : Reg) (imm : BitVec 16) (sh : BitVec 6) (s s₁ : State), runs s t.val s₁ →
    ((s₁.w t.val rs1.val).kind = .poison →
      ∀ i ∈ ([.add t rd rs1 rs2, .sub t rd rs1 rs2, .and_ t rd rs1 rs2, .or_ t rd rs1 rs2, .xor t rd rs1 rs2,
          .sll t rd rs1 rs2, .srl t rd rs1 rs2, .sra t rd rs1 rs2, .slt t rd rs1 rs2, .sltu t rd rs1 rs2, .mul t rd rs1 rs2,
          .mulh t rd rs1 rs2, .mulhu t rd rs1 rs2, .min t rd rs1 rs2, .max t rd rs1 rs2, .div t rd rs1 rs2, .divu t rd rs1 rs2,
          .rem t rd rs1 rs2, .remu t rd rs1 rs2, .clz t rd rs1, .popc t rd rs1, .addi t rd rs1 imm, .andi t rd rs1 imm,
          .ori t rd rs1 imm, .xori t rd rs1 imm, .slti t rd rs1 imm, .sltiu t rd rs1 imm, .shiSll t rd rs1 sh,
          .shiSrl t rd rs1 sh, .shiSra t rd rs1 sh, .shiRor t rd rs1 sh, .beq t rs1 rs2 imm, .bne t rs1 rs2 imm,
          .blt t rs1 rs2 imm, .bge t rs1 rs2 imm, .bltu t rs1 rs2 imm, .bgeu t rs1 rs2 imm, .jalr t rd rs1 imm] : List Instr),
        exec i s = .next (s₁.raise t.val 0x0B (s₁.w t.val rs1.val).val)) ∧
    ((s₁.w t.val rs1.val).kind ≠ .poison → (s₁.w t.val rs2.val).kind = .poison →
      ∀ i ∈ ([.add t rd rs1 rs2, .sub t rd rs1 rs2, .and_ t rd rs1 rs2, .or_ t rd rs1 rs2, .xor t rd rs1 rs2,
          .sll t rd rs1 rs2, .srl t rd rs1 rs2, .sra t rd rs1 rs2, .slt t rd rs1 rs2, .sltu t rd rs1 rs2, .mul t rd rs1 rs2,
          .mulh t rd rs1 rs2, .mulhu t rd rs1 rs2, .min t rd rs1 rs2, .max t rd rs1 rs2, .div t rd rs1 rs2, .divu t rd rs1 rs2,
          .rem t rd rs1 rs2, .remu t rd rs1 rs2, .beq t rs1 rs2 imm, .bne t rs1 rs2 imm, .blt t rs1 rs2 imm,
          .bge t rs1 rs2 imm, .bltu t rs1 rs2 imm, .bgeu t rs1 rs2 imm] : List Instr),
        exec i s = .next (s₁.raise t.val 0x0B (s₁.w t.val rs2.val).val))

/-! ### Loads and stores -/

/-- A load whose checks pass makes its RUNNING thread BLOCKED until its data returns: a STRONG one stays at its pc, any other
lets the thread run on; a check that fails makes it raise that check's fault. The data of an outstanding load returns: a word
of 8 bytes with its tag, fewer bytes zero- or sign-extended as DATA, a register of the M-bus likewise from its 32 bits, but
zero-extended where the window gives it; a POISON word read by fewer than 8 bytes raises POISON_USE with its value, a target
that answers an error status PROT_READ with the address; a STRONG load then goes on at the next instruction, a RELAXED one
where its thread stands. A worker thread's WT or WB load takes the word from its tile's cache, which holds the line or fills
it. An uncorrectable error rewrites the word as POISON of its memory and address, and a STRONG load writes that word into its
destination and raises ECC_UNCORRECTED with the address. Where the model chose: log entries 20, 23, 3, 221, 242. -/
def Obligations.Loads : Prop :=
  (∀ (t : Tid) (rd rs1 : Reg) (imm : BitVec 16) (s s₁ : State), runs s t.val s₁ →
    ∀ e ∈ ([(.lb t rd rs1 imm, 1, true), (.lbu t rd rs1 imm, 1, false), (.lh t rd rs1 imm, 2, true),
        (.lhu t rd rs1 imm, 2, false), (.lw t rd rs1 imm, 4, true), (.lwu t rd rs1 imm, 4, false),
        (.ld t rd rs1 imm, 8, false)] : List (Instr × Nat × Bool)),
      let s₂ := s₁.touchBase (s₁.w t.val rs1.val) imm e.2.1 none
      (∀ a c o, s₂.checkAccess t.val (s₂.w t.val rs1.val) imm e.2.1 none = .ok a c o →
        ∃ s', exec e.1 s = .next s' ∧ onlyThread t.val s₂ s' ∧
          s'.th t.val = { s₂.th t.val with
            life := .blocked
            wait := some (.load ⟨rd, e.2.1, e.2.2, a, c, o != 0, false, (s₂.th t.val).regs, (s₂.th t.val).pc⟩)
            strongs := (s₂.th t.val).strongs + (if o = 0 then 1 else 0)
            pc := if o = 0 then (s₂.th t.val).pc else pcAfter (s₂.th t.val) }) ∧
      ∀ c v, s₂.checkAccess t.val (s₂.w t.val rs1.val) imm e.2.1 none = .flt c v → exec e.1 s = .next (s₂.raise t.val c v)) ∧
  (∀ (t : Tid) (s : State) (p : PendLoad), (s.th t.val).life = .blocked → (s.th t.val).wait = some (.load p) →
    s.loadWaits t.val p = false → p.stale = false →
    let answers := fun (s₁ : State) (v : Word) => ∃ s', exec (.loadDataReturn t) s = .next s' ∧ onlyThread t.val s₁ s' ∧
      writes t.val p.rd v s₁ s' ∧ s'.th t.val = { s₁.th t.val with
        life := .running, wait := none, regs := (s'.th t.val).regs
        pc := if p.relaxed then (s₁.th t.val).pc else pcAfter (s₁.th t.val) }
    (∀ m k, s.locate t.val p.addr = .cell m k → m.dark s.vcoreOn = false → p.cache = 0 ∨ 192 ≤ t.val →
      tget eccDefault s.bad (wordKey k) = .good →
      let w := (s.word (wordKey k)).readAs
      let x := beNat ((List.range p.size).map (fun i => byteOf w.val (k % 8 + i)))
      (p.size = 8 → answers s w) ∧
      (p.size = 1 ∨ p.size = 2 ∨ p.size = 4 → k % 8 + p.size ≤ 8 → w.kind ≠ .poison →
        answers s (Word.data (BitVec.ofInt 64
          (if p.signed = true ∧ inWindow p.addr = false ∧ 2 ^ (8 * p.size - 1) ≤ x then (x : Int) - 2 ^ (8 * p.size) else x)))) ∧
      (p.size ≠ 8 → w.kind = .poison → p.relaxed = false → exec (.loadDataReturn t) s = .next (s.raise t.val 0x0B w.val))) ∧
    (∀ m k, s.locate t.val p.addr = .cell m k → m ≠ .rom → m.dark s.vcoreOn = false → p.cache = 0 ∨ 192 ≤ t.val →
      tget eccDefault s.bad (wordKey k) = .uncorrectable → p.relaxed = false → p.stale = false →
      let s₁ := s.uncorrectable m (wordKey k)
      let w := (s₁.word (wordKey k)).readAs
      (s.poolAt (wordKey k) = none → tget eccDefault s₁.bad (wordKey k) = .good ∧
        w = ⟨Tag.ofCause m.cause, BitVec.ofNat 64 (reportAddr m (wordKey k))⟩) ∧
      (s₁.budgetDue t.val = false →
        exec (.loadDataReturn t) s = .next ((s₁.modTh t.val (fun x => x.setReg p.rd.val w)).raise t.val 0x0C
          (BitVec.ofNat 64 p.addr)))) ∧
    (∀ m k way s₁ l, s.locate t.val p.addr = .cell m k → m.dark s.vcoreOn = false → t.val < 192 → p.cache ≠ 0 → p.size = 8 →
      lineIn s (t.val / 32) k way s₁ → (s₁.cset (setKey (t.val / 32) k)).line way = some l →
      answers s₁ ((l.words[k % 64 / 8]?).getD Word.zero).readAs) ∧
    (∀ a, s.locate t.val p.addr = .mbus a →
      let v := (s.mbusRead .software a).2.toNat
      answers (s.mbusRead .software a).1 (Word.data (BitVec.ofInt 64
        (if p.signed = true ∧ inWindow p.addr = false ∧ 2 ^ 31 ≤ v then (v : Int) - 2 ^ 32 else v)))) ∧
    (∀ st, s.locate t.val p.addr = .fail st → p.relaxed = false →
      exec (.loadDataReturn t) s = .next (s.raise t.val 0x04 (BitVec.ofNat 64 p.addr))))

/-- The checks of a load or store of `n` bytes, in their order: POISON base; for a store, a POISON source of fewer than 8
bytes, and a source other than DATA into the M-bus window by a raw address; then, by a raw address, alignment, 4 bytes only in
the window, and for a worker thread the deciding region; by a handle, the handle's own check, its range, its alignment and the
pool's attributes. Reserved cacheability and ordering act as NC and STRONG, and cacheability holds for ingot memory and SDRAM
only. The metadata word of a handle is read first: that changes nothing where the word holds no error. Where the model chose:
log entries 27, 28. -/
def Obligations.AccessChecks : Prop :=
  ∀ (s : State) (t : Tid) (b : Word) (imm : BitVec 16) (n : Nat) (src : Option Word),
    let a := (b.val + BitVec.ofInt 64 imm.toInt).toNat
    let chk := s.checkAccess t.val b imm n src
    let prot := if src.isSome then 0x05 else 0x04
    let fits := ∀ w, src = some w → (n = 8 ∨ w.kind ≠ .poison) ∧ (w.kind = .data ∨ b.kind = .handle ∨ inWindow a = false)
    (b.kind ≠ .handle → s.touchBase b imm n src = s) ∧
    (∀ l, (s.pool (hPool b.val)).built = some l → tget eccDefault s.bad (l.meta_ + 8 * hIndex b.val) = .good →
      s.touchBase b imm n src = s) ∧
    (b.kind = .poison → chk = .flt 0x0B b.val) ∧
    (b.kind ≠ .poison → ∀ w, src = some w →
      (n ≠ 8 → w.kind = .poison → chk = .flt 0x0B w.val) ∧
      (n = 8 ∨ w.kind ≠ .poison → w.kind ≠ .data → b.kind ≠ .handle → inWindow a = true →
        chk = .flt 0x12 (BitVec.ofNat 64 w.tag.toNat))) ∧
    (b.kind ≠ .poison → b.kind ≠ .handle → fits →
      (a % n ≠ 0 ∨ (inWindow a = true ∧ n ≠ 4) → chk = .flt 0x03 (BitVec.ofNat 64 a)) ∧
      (a % n = 0 → (inWindow a = true → n = 4) → t.val < 192 →
        (deciding (s.th t.val).set.regions (s.priv t.val) a = none → chk = .flt prot (BitVec.ofNat 64 a)) ∧
        (∀ r, deciding (s.th t.val).set.regions (s.priv t.val) a = some r →
          (if src.isSome then r.w else r.r) = false → chk = .flt prot (BitVec.ofNat 64 a)) ∧
        (∀ r, deciding (s.th t.val).set.regions (s.priv t.val) a = some r → (if src.isSome then r.w else r.r) = true →
          chk = .ok a (if farAddr a = true ∧ r.cache ≠ 3 then r.cache else 0) (if r.order = 3 then 0 else r.order))) ∧
      (a % n = 0 → (inWindow a = true → n = 4) → 192 ≤ t.val → (∀ x, s.locate t.val a = .mbus x → n = 4) → chk = .ok a 0 0)) ∧
    (b.kind = .handle → fits →
      (∀ c, s.handleCheck b .access (s.th t.val).acct (s.priv t.val) = some c → chk = .flt c b.val) ∧
      (s.handleCheck b .access (s.th t.val).acct (s.priv t.val) = none →
        let off := (hOffset b.val : Int) + imm.toInt
        let l := s.hLayout b
        (off < 0 ∨ (l.size : Int) < off + n → chk = .flt 0x07 b.val) ∧
        (0 ≤ off → off + n ≤ l.size →
          let x := l.base + hIndex b.val * l.size + off.toNat
          (x % n ≠ 0 → chk = .flt 0x03 (BitVec.ofNat 64 x)) ∧
          (x % n = 0 → t.val < 192 → farAddr x = true → s.rd (F.POOL_CFG_CACHE (hPool b.val)) ≠ 3 →
            s.rd (F.POOL_CFG_ORDER (hPool b.val)) ≠ 3 →
            chk = .ok x (s.rd (F.POOL_CFG_CACHE (hPool b.val))) (s.rd (F.POOL_CFG_ORDER (hPool b.val)))))))

/-- A STRONG or RELAXED store, not cacheable, that nothing outstanding comes before is performed in its own step: 8 bytes
replace value and tag, fewer bytes replace their bytes and make the word DATA; every byte outside the stored ones reads as
before, and its thread goes on at the next instruction. A worker thread's WT store of 8 bytes replaces the word in memory, and
in its tile's cache where that holds the line; a WB store replaces it in the cache only, which holds the line or fills it. A
store to a register of the M-bus is the register write of its low 32 bits; a store whose checks fail raises that check's
fault; an address with no target, or in an SDRAM channel that has not been filled, makes a STRONG store raise PROT_WRITE with
the address. Where the model chose: log entries 24, 25, 191, 192, 193, 196, 242. -/
def Obligations.Stores : Prop :=
  ((∀ (t : Tid) (rs2 rs1 : Reg) (imm : BitVec 16) (s s₁ : State), runs s t.val s₁ →
    (s₁.th t.val).posted = [] → (s₁.th t.val).limbo = [] →
    ∀ e ∈ ([(.sb t rs2 rs1 imm, 1), (.sh t rs2 rs1 imm, 2), (.sw t rs2 rs1 imm, 4), (.sd t rs2 rs1 imm, 8)] : List (Instr × Nat)),
      let s₂ := s₁.touchBase (s₁.w t.val rs1.val) imm e.2 (some (s₁.w t.val rs2.val))
      ∀ a o m k, s₂.checkAccess t.val (s₂.w t.val rs1.val) imm e.2 (some (s₂.w t.val rs2.val)) = .ok a 0 o → o ≠ 2 →
        s₂.locate t.val a = .cell m k → m.dark s₂.vcoreOn = false → m ≠ .rom → k % 8 + e.2 ≤ 8 →
        (e.2 < 8 → tget eccDefault s₂.bad (wordKey k) = .good ∧ (s₂.word (wordKey k)).readAs.kind ≠ .poison) →
        ∃ s', exec e.1 s = .next s' ∧ s' = { s₂ with threads := s'.threads, mem := s'.mem, bad := s'.bad } ∧
          (∀ u, u ≠ t.val → s'.th u = s₂.th u) ∧
          s'.th t.val = { s₂.th t.val with
            pc := pcAfter (s₂.th t.val), strongs := (s₂.th t.val).strongs + (if o = 0 then 1 else 0) } ∧
          (∀ j, j ≠ wordKey k → s'.word j = s₂.word j) ∧
          (e.2 = 8 → s'.word (wordKey k) = s₂.w t.val rs2.val) ∧
          (e.2 < 8 → (s'.word (wordKey k)).tag = 0 ∧ ∀ i, i < 8 →
            byteOf (s'.word (wordKey k)).val i = if k % 8 ≤ i ∧ i < k % 8 + e.2
              then byteOf (s₂.w t.val rs2.val).val (8 - e.2 + (i - k % 8)) else byteOf (s₂.word (wordKey k)).val i)) ∧
  ∀ (t : Tid) (rs2 rs1 : Reg) (imm : BitVec 16) (s s₁ : State), runs s t.val s₁ →
    (s₁.th t.val).posted = [] → (s₁.th t.val).limbo = [] → t.val < 192 →
    let w := s₁.w t.val rs2.val
    let s₂ := s₁.touchBase (s₁.w t.val rs1.val) imm 8 (some w)
    ∀ a cache o m k, s₂.checkAccess t.val (s₂.w t.val rs1.val) imm 8 (some (s₂.w t.val rs2.val)) = .ok a cache o → o ≠ 2 →
      s₂.locate t.val a = .cell m k → m.dark s₂.vcoreOn = false → m ≠ .rom → k % 8 = 0 →
      let i := setKey (t.val / 32) k
      let x : Thread := { s₂.th t.val with
        pc := pcAfter (s₂.th t.val), strongs := (s₂.th t.val).strongs + (if o = 0 then 1 else 0) }
      (cache = 1 → ∃ s', exec (.sd t rs2 rs1 imm) s = .next s' ∧
        s' = { s₂ with threads := s'.threads, mem := s'.mem, bad := s'.bad, caches := s'.caches } ∧
        s'.th t.val = x ∧ (∀ u, u ≠ t.val → s'.th u = s₂.th u) ∧ s'.word k = w ∧ (∀ j, j ≠ k → s'.word j = s₂.word j) ∧
        (∀ j, j ≠ i → s'.cset j = s₂.cset j) ∧
        ((s₂.cset i).wayOf (k / 64) = none → s'.caches = s₂.caches) ∧
        ∀ way l, (s₂.cset i).wayOf (k / 64) = some way → (s₂.cset i).line way = some l →
          s'.cset i = ⟨(s₂.cset i).ways.set way (some { l with words := l.words.set (k % 64 / 8) w }),
            plruTouch (s₂.cset i).plru way⟩) ∧
      (cache = 2 → ∀ way s₃ l, lineIn s₂ (t.val / 32) k way s₃ → (s₃.cset i).line way = some l →
        ∃ s', exec (.sd t rs2 rs1 imm) s = .next s' ∧ s' = { s₃ with threads := s'.threads, caches := s'.caches } ∧
          s'.th t.val = x ∧ (∀ u, u ≠ t.val → s'.th u = s₂.th u) ∧ (∀ j, j ≠ i → s'.cset j = s₃.cset j) ∧
          s'.cset i = ⟨(s₃.cset i).ways.set way (some ⟨l.tag, true, l.words.set (k % 64 / 8) w⟩), (s₃.cset i).plru⟩)) ∧
  (∀ (t : Tid) (rs2 rs1 : Reg) (imm : BitVec 16) (s s₁ : State), runs s t.val s₁ →
    ∀ e ∈ ([(.sb t rs2 rs1 imm, 1), (.sh t rs2 rs1 imm, 2), (.sw t rs2 rs1 imm, 4), (.sd t rs2 rs1 imm, 8)] : List (Instr × Nat)),
      let s₂ := s₁.touchBase (s₁.w t.val rs1.val) imm e.2 (some (s₁.w t.val rs2.val))
      (∀ c v, s₂.checkAccess t.val (s₂.w t.val rs1.val) imm e.2 (some (s₂.w t.val rs2.val)) = .flt c v →
        exec e.1 s = .next (s₂.raise t.val c v)) ∧
      ∀ a c o, s₂.checkAccess t.val (s₂.w t.val rs1.val) imm e.2 (some (s₂.w t.val rs2.val)) = .ok a c o → o = 0 →
        (s₂.th t.val).posted = [] → (s₂.th t.val).limbo = [] →
        let done := s₂.modTh t.val (fun x => { x with pc := pcAfter x, strongs := x.strongs + 1 })
        (∀ x, s₂.locate t.val a = .mbus x →
          exec e.1 s = .next (done.mbusWrite x (BitVec.ofNat 32 (s₂.w t.val rs2.val).val.toNat))) ∧
        (∀ st, s₂.locate t.val a = .fail st → st = 1 ∨ st = 3 →
          exec e.1 s = .next ((s₂.modTh t.val (fun x => { x with strongs := x.strongs + 1 })).raise t.val 0x05
            (BitVec.ofNat 64 a))))

/-- A POSTED store joins the thread's outstanding writes and the thread goes on; with 16 outstanding it is BLOCKED. The target
performs the oldest of them and the write leaves the thread; an error status enters the posted-error slot, or counts there as
further while it is full. Where the model chose: log entry 26. -/
def Obligations.PostedWrites : Prop :=
  (∀ (t : Tid) (rs2 rs1 : Reg) (imm : BitVec 16) (s s₁ : State), runs s t.val s₁ →
    ∀ e ∈ ([(.sb t rs2 rs1 imm, 1), (.sh t rs2 rs1 imm, 2), (.sw t rs2 rs1 imm, 4), (.sd t rs2 rs1 imm, 8)] : List (Instr × Nat)),
      let s₂ := s₁.touchBase (s₁.w t.val rs1.val) imm e.2 (some (s₁.w t.val rs2.val))
      ∀ a c, s₂.checkAccess t.val (s₂.w t.val rs1.val) imm e.2 (some (s₂.w t.val rs2.val)) = .ok a c 2 →
        let x := s₂.th t.val
        let p : Posted := ⟨a, e.2, s₂.w t.val rs2.val, c, x.strongs⟩
        ∃ s', exec e.1 s = .next s' ∧ onlyThread t.val s₂ s' ∧
          (x.posted.length < 16 → s'.th t.val = { x with posted := x.posted ++ [p], pc := pcAfter x }) ∧
          (16 ≤ x.posted.length → s'.th t.val = { x with life := .blocked, wait := some (.store true p) })) ∧
  ∀ (t : Tid) (s : State) (p : Posted) (r : List Posted), (s.th t.val).posted = p :: r → (s.th t.val).limbo = [] →
    (s.th t.val).wait = none → s.phase ≠ .entering →
    let x := s.th t.val
    (∀ m k, s.locate t.val p.addr = .cell m k → m.dark s.vcoreOn = false → m ≠ .rom → p.size = 8 → p.cache = 0 →
      ∃ s', exec (.postedWriteStatus t 0) s = .next s' ∧ s' = { s with threads := s'.threads, mem := s'.mem, bad := s'.bad } ∧
        (∀ u, u ≠ t.val → s'.th u = s.th u) ∧ s'.th t.val = { x with posted := r } ∧
        s'.word (wordKey k) = p.data ∧ ∀ j, j ≠ wordKey k → s'.word j = s.word j) ∧
    (∀ st, s.locate t.val p.addr = .fail st → st ≠ 0 →
      ∃ s', exec (.postedWriteStatus t 0) s = .next s' ∧ onlyThread t.val s s' ∧
        s'.th t.val = { x with posted := r, perr := some (match x.perr with
          | none => ⟨p.addr, st, p.cache, 0⟩
          | some q => { q with further := min 65535 (q.further + 1) }) })

/-! ### Draining, handles, tasks, helpers -/

/-- With nothing outstanding, no posted error and, but for FENCE and ABORT, no failed helper job, a draining instruction ends
in its own step: FENCE goes on; DONE and ABORT complete the held task as COMPLETED and ABORTED, and GETWORK as COMPLETED
before it goes IDLE. In a PARALLEL domain the task retires at once, in an ORDERED or ATOMIC one when it is the earliest: a
later one then follows it, retiring where it has completed and ready where it waited; behind an earlier one it stays,
completed. With posted writes outstanding the thread is BLOCKED. A posted error makes each of the four raise POSTED_WRITE with
its address, and a helper job that failed and was not collected makes DONE and GETWORK raise HELPER with its status word, the
drain ended. Without a held task DONE and ABORT raise ILLEGAL, and all three do on a Puppeteer core. Where the model chose:
log entries 37, 38, 50, 63, 65. -/
def Obligations.DrainingInstructions : Prop :=
  ∀ (t : Tid) (s s₁ : State), runs s t.val s₁ →
    let x := s₁.th t.val
    let waits := fun (k : DrainKind) => s₁.modTh t.val (fun y => { y with life := .blocked, wait := some (.drain k none) })
    let quiet := t.val < 192 ∧ (∀ k ∈ x.tickets, k ≠ .out) ∧ (s₁.th 192).life ≠ .blocked ∧ (s₁.th 193).life ≠ .blocked
    let freed := x.tickets.map (fun _ => Ticket.free)
    let ended : Thread := { x with
      life := .running, wait := none, pc := pcAfter x, held := none, cancel := false, tickets := freed, lostFail := none }
    let idle : Thread := { x with
      life := .idle, wait := some .work, acct := 0, idleSeq := s₁.sched.seq, getPc := pcAfter x
      group := s₁.rd (F.THREAD_CFG_GROUP (t.val / 32) (t.val % 32)), held := none, cancel := false, tickets := freed, lostFail := none }
    let enders : List (Instr × Nat × Thread × Nat) := [(.done t, 0x01, ended, 0), (.abort t, 0x02, ended, 0), (.getwork t, 0x01, idle, 1)]
    let others := fun (s' : State) => ∀ u, u ≠ t.val → s'.th u = s₁.th u
    (x.posted = [] → x.perr = none →
      (∃ s', exec (.fence t) s = .next s' ∧ onlyThread t.val s₁ s' ∧
        s'.th t.val = { x with life := .running, wait := none, pc := pcAfter x }) ∧
      (∀ n y d, quiet → x.held = some n → s₁.task n = some y → y.domain = some d → y.frames = [] → x.oldProg = false →
        s₁.tasks.Pairwise (fun a b => a.1 < b.1) → ∀ e ∈ enders, x.failedJob = none ∨ e.1 = .abort t →
        let cpl := fun (l : List Nat) => { s₁.sched with seq := s₁.sched.seq + e.2.2.2, cpl := s₁.sched.cpl ++ l }
        (s₁.domType d = 2 ∨ s₁.domTasks d = [(n, y)] → ∃ s', exec e.1 s = .next s' ∧
          s' = { s₁ with threads := s'.threads, tasks := s'.tasks, sched := s'.sched } ∧ others s' ∧ s'.th t.val = e.2.2.1 ∧
          s'.task n = none ∧ (∀ k, k ≠ n → s'.task k = s₁.task k) ∧ s'.sched = cpl [y.cplRecord n e.2.1 t.val]) ∧
        (s₁.domType d ≠ 2 → ∀ m z, z.frames = [] → m ≠ n →
          (∀ u, s₁.domTasks d = [(m, z), (n, y)] → z.stage = .delivered u → ∃ s', exec e.1 s = .next s' ∧
            s' = { s₁ with threads := s'.threads, tasks := s'.tasks, sched := s'.sched } ∧ others s' ∧ s'.th t.val = e.2.2.1 ∧
            s'.task n = some { y with stage := .completed e.2.1 t.val } ∧ (∀ k, k ≠ n → s'.task k = s₁.task k) ∧
            s'.sched = cpl []) ∧
          (∀ status u, s₁.domTasks d = [(n, y), (m, z)] → z.stage = .completed status u → ∃ s', exec e.1 s = .next s' ∧
            s' = { s₁ with threads := s'.threads, tasks := s'.tasks, sched := s'.sched } ∧ others s' ∧ s'.th t.val = e.2.2.1 ∧
            s'.task n = none ∧ s'.task m = none ∧ (∀ k, k ≠ n → k ≠ m → s'.task k = s₁.task k) ∧
            s'.sched = cpl [y.cplRecord n e.2.1 t.val, z.cplRecord m status u]) ∧
          (s₁.domTasks d = [(n, y), (m, z)] → z.stage = .waiting → ∃ s' q, exec e.1 s = .next s' ∧
            s' = { s₁ with threads := s'.threads, tasks := s'.tasks, sched := s'.sched, loop := s'.loop } ∧ others s' ∧
            s'.task n = none ∧ s'.task m = some { z with stage := .ready q } ∧ s₁.sched.seq ≤ q ∧ q < s'.sched.seq ∧
            (∀ k, k ≠ n → k ≠ m → s'.task k = s₁.task k) ∧ s'.sched.cpl = s₁.sched.cpl ++ [y.cplRecord n e.2.1 t.val] ∧
            (s'.th t.val).held = none ∧ (s'.th t.val).life = e.2.2.1.life)))  ∧
      (quiet → x.held = none → x.failedJob = none → x.oldProg = false →
        ∃ s', exec (.getwork t) s = .next s' ∧ s' = { s₁ with threads := s'.threads, sched := s'.sched } ∧ others s' ∧
          s'.th t.val = { idle with cancel := x.cancel } ∧
          s'.sched = { s₁.sched with seq := s₁.sched.seq + 1 })) ∧
    (∀ p, x.posted = [] → x.perr = some p →
      exec (.fence t) s = .next ((waits .fence).raise t.val 0x0D (BitVec.ofNat 64 p.addr) false (some .fence)) ∧
      (t.val < 192 → (∀ k ∈ x.tickets, k ≠ .out) →
        exec (.getwork t) s = .next ((waits .getwork).raise t.val 0x0D (BitVec.ofNat 64 p.addr) false (some .getwork)) ∧
        (x.held.isSome = true →
          exec (.done t) s = .next ((waits .done).raise t.val 0x0D (BitVec.ofNat 64 p.addr) false (some .done)) ∧
          exec (.abort t) s = .next ((waits .abort).raise t.val 0x0D (BitVec.ofNat 64 p.addr) false (some .abort))))) ∧
    (∀ w, x.posted = [] → x.perr = none → t.val < 192 → (∀ k ∈ x.tickets, k ≠ .out) → x.failedJob = some w →
      exec (.getwork t) s = .next ((waits .getwork).raise t.val 0x0F w false (some .getwork)) ∧
      (x.held.isSome = true → exec (.done t) s = .next ((waits .done).raise t.val 0x0F w false (some .done)))) ∧
    (x.posted ≠ [] → ∃ s', exec (.fence t) s = .next s' ∧ onlyThread t.val s₁ s' ∧
      s'.th t.val = { x with life := .blocked, wait := some (.drain .fence (some s₁.nowNs)) }) ∧
    (192 ≤ t.val ∨ x.held = none →
      exec (.done t) s = .next (s₁.raise t.val 0x01 ((wordOf (.done t)).setWidth 64)) ∧
      exec (.abort t) s = .next (s₁.raise t.val 0x01 ((wordOf (.abort t)).setWidth 64))) ∧
    (192 ≤ t.val → exec (.getwork t) s = .next (s₁.raise t.val 0x01 ((wordOf (.getwork t)).setWidth 64)))

/-- The checks of a handle, in the order of Table 6.4: a pool never built or an index beyond its count, HANDLE_RANGE; for an
access in a pool in AUDIT mode nothing more; GEN 0 or another generation, STALE_HANDLE; a buffer not allocated, DOUBLE_FREE
for FREE and STALE_HANDLE else; a tag that is not the owner's, or a user that is neither privileged, nor of account 0, nor the
owner, OWNER. Where the model chose: log entry 75. -/
def Obligations.HandleChecks : Prop :=
  ∀ (s : State) (h : Word) (use : Use) (acct : Nat) (any : Bool),
    ((s.pool (hPool h.val)).built = none → s.handleCheck h use acct any = some 0x07) ∧
    ∀ l, (s.pool (hPool h.val)).built = some l →
      let v := s.metaOf l (hIndex h.val)
      let live := hIndex h.val < l.count ∧ ¬ (use = .access ∧ s.rd (F.POOL_CFG_MODE (hPool h.val)) = 1)
      let own := hGen h.val ≠ 0 ∧ hGen h.val = mGen v
      (l.count ≤ hIndex h.val → s.handleCheck h use acct any = some 0x07) ∧
      (hIndex h.val < l.count → use = .access → s.rd (F.POOL_CFG_MODE (hPool h.val)) = 1 →
        s.handleCheck h use acct any = none) ∧
      (live → ¬ own → s.handleCheck h use acct any = some 0x09) ∧
      (live → own → mAlloc v = false → s.handleCheck h use acct any = some (if use = .free then 0x0A else 0x09)) ∧
      (live → own → mAlloc v = true →
        (Tag.low6 h.tag ≠ mOwner v ∨ (any = false ∧ acct ≠ Tag.low6 h.tag ∧ acct ≠ 0) →
          s.handleCheck h use acct any = some 0x08) ∧
        (Tag.low6 h.tag = mOwner v → any = true ∨ acct = Tag.low6 h.tag ∨ acct = 0 →
          s.handleCheck h use acct any = none))

/-- ALLOC takes the buffer at the head of the free list, its metadata word without error and not marked RETIRE, under the next
generation (1 after 255) for the thread's account and counts it; at its limit, or of a pool that is not READY or whose SDRAM
channel does not answer, or where the free list is empty or holds no more than the other accounts' reserves, it writes the
POISON word of its cause and counts the failure. FREE of a handle that passes its checks puts the buffer at the head of the
free list and counts it back; one whose buffer is marked RETIRE leaves service instead: RETIRED set beside the mark, out of
the free list, counted and recorded with its address; an uncorrectable error in a built pool's area sets that mark in its
buffer's metadata word and no other bit of it; a check that fails raises its fault with the handle, and so does an operand
that is no HANDLE. The metadata word of the handle is read first: that changes nothing where the word holds no error. HADD
adds to the offset field modulo 2³² and keeps the other fields and the tag. Where the model chose: log entries 75, 190, 201,
229. -/
def Obligations.BufferInstructions : Prop :=
  (∀ (t : Tid) (rd rs1 : Reg) (s s₁ : State), runs s t.val s₁ → (s₁.w t.val rs1.val).kind = .data →
    s₁.is (F.UPL_CTL_PAUSE_TX_EN 0) = false → s₁.is (F.UPL_CTL_PAUSE_TX_EN 1) = false →
    let p := (s₁.w t.val rs1.val).val.toNat % 16
    let a := if t.val < 192 then (s₁.th t.val).acct else 0
    let fails := fun (cause : Nat) => ∃ s', exec (.alloc t rd rs1) s = .next s' ∧
      s' = { s₁ with threads := s'.threads, regs := s'.regs } ∧ writes t.val rd ⟨Tag.ofCause cause, 0⟩ s₁ s' ∧
      (s'.th t.val).pc = pcAfter (s₁.th t.val) ∧
      s'.rd (F.POOL_ALLOC_FAIL_COUNT p) = min (2 ^ (F.POOL_ALLOC_FAIL_COUNT p).width - 1) (s₁.rd (F.POOL_ALLOC_FAIL_COUNT p) + 1)
    ((s₁.pool p).built = none ∨ s₁.is (F.POOL_STATUS_READY p) = false ∨ s₁.is (F.POOL_CFG_ENABLE p) = false ∨
        (∃ l, (s₁.pool p).built = some l ∧ s₁.poolAnswers p l = false) → fails 0x03) ∧
    ∀ l, (s₁.pool p).built = some l → s₁.is (F.POOL_STATUS_READY p) = true → s₁.is (F.POOL_CFG_ENABLE p) = true →
      s₁.poolAnswers p l = true → a < 64 →
      let u := s₁.rd (F.ACCT_INUSE_INUSE p a)
      let i := (s₁.pool p).head
      let k := l.meta_ + 8 * i
      let v := (s₁.word k).val.toNat
      let g := if bits v 56 8 = 255 then 1 else bits v 56 8 + 1
      (s₁.rd (F.ACCT_LIMIT_LIMIT p a) ≤ u → s₁.rd (F.ACCT_RES_RES p a) ≤ u → fails 0x02) ∧
      (u < s₁.rd (F.ACCT_LIMIT_LIMIT p a) ∨ u < s₁.rd (F.ACCT_RES_RES p a) →
        l.count ≤ i ∨ ((s₁.grants p l.count).getD a 0 ≤ u ∧ s₁.sharedFree p l.count ≤ 0) → fails 0x01) ∧
      (u < s₁.rd (F.ACCT_LIMIT_LIMIT p a) ∨ u < s₁.rd (F.ACCT_RES_RES p a) →
        u < (s₁.grants p l.count).getD a 0 ∨ 0 < s₁.sharedFree p l.count → 0 < s₁.rd (F.POOL_FREE_FREE p) → i < l.count →
        bits v 46 1 = 0 → tget eccDefault s₁.bad k = .good → k < mbusWindow →
        ∃ s', exec (.alloc t rd rs1) s = .next s' ∧
          s' = { s₁ with threads := s'.threads, regs := s'.regs, pools := s'.pools, mem := s'.mem, bad := s'.bad } ∧
          (∀ q, q ≠ t.val → s'.th q = s₁.th q) ∧ (s'.th t.val).pc = pcAfter (s₁.th t.val) ∧
          writes t.val rd ⟨Tag.ofAccount a, mkHandle p g i⟩ s₁ s' ∧
          (s'.pool p).head = bits v 0 32 ∧ (∀ q, q ≠ p → s'.pool q = s₁.pool q) ∧
          s'.word k = mkMeta g a 0b10000 s₁.nowMs ∧ (∀ j, j ≠ k → s'.word j = s₁.word j) ∧
          s'.rd (F.ACCT_INUSE_INUSE p a) = (u + 1) % 2 ^ (F.ACCT_INUSE_INUSE p a).width ∧
          s'.rd (F.POOL_INUSE_COUNT p) = (s₁.rd (F.POOL_INUSE_COUNT p) + 1) % 2 ^ (F.POOL_INUSE_COUNT p).width ∧
          s'.rd (F.POOL_FREE_FREE p) = s₁.rd (F.POOL_FREE_FREE p) - 1)) ∧
  (∀ (t : Tid) (rd rs1 rs2 : Reg) (s s₁ : State), runs s t.val s₁ →
    let h := s₁.w t.val rs1.val
    let b := s₁.w t.val rs2.val
    let s₂ := s₁.touchHandle h .free
    (h.kind = .handle → ∀ c, s₂.handleCheck h .free (s₂.th t.val).acct (s₂.priv t.val) = some c →
      exec (.free t rs1) s = .next (s₂.raise t.val c h.val)) ∧
    (∀ l, (s₁.pool (hPool h.val)).built = some l → tget eccDefault s₁.bad (l.meta_ + 8 * hIndex h.val) = .good → s₂ = s₁) ∧
    (h.kind = .data ∨ h.kind = .code →
      exec (.free t rs1) s = .next (s₁.raise t.val 0x12 (BitVec.ofNat 64 h.tag.toNat)) ∧
      exec (.hadd t rd rs1 rs2) s = .next (s₁.raise t.val 0x12 (BitVec.ofNat 64 h.tag.toNat))) ∧
    (h.kind = .handle → s₁.handleCheck h .free (s₁.th t.val).acct (s₁.priv t.val) = none →
      s₁.is (F.UPL_CTL_PAUSE_TX_EN 0) = false → s₁.is (F.UPL_CTL_PAUSE_TX_EN 1) = false → s₁.caches = [] →
      let p := hPool h.val
      let i := hIndex h.val
      ∀ l, (s₁.pool p).built = some l →
        let k := l.meta_ + 8 * i
        let v := (s₁.word k).val.toNat
        tget eccDefault s₁.bad k = .good → k < mbusWindow →
        (bits v 46 1 = 1 → s₁.recorder.frozen = false → s₁.recorder.offered.length < 64 →
          ∃ s', exec (.free t rs1) s = .next s' ∧ s' = { s₁ with
            threads := s'.threads, regs := s'.regs, mem := s'.mem, bad := s'.bad, recorder := { s₁.recorder with
              offered := s₁.recorder.offered ++ [⟨0x06, 0x02, (l.base + i * l.size) % 2 ^ 64⟩] } } ∧
            (∀ q, q ≠ t.val → s'.th q = s₁.th q) ∧ s'.th t.val = { s₁.th t.val with pc := pcAfter (s₁.th t.val) } ∧
            s'.word k = mkMeta (bits v 56 8) (bits v 50 6) 0b00011 s₁.nowMs ∧ (∀ j, j ≠ k → s'.word j = s₁.word j) ∧
            s'.rd (F.ACCT_INUSE_INUSE p (bits v 50 6)) = s₁.rd (F.ACCT_INUSE_INUSE p (bits v 50 6)) - 1 ∧
            s'.rd (F.POOL_INUSE_COUNT p) = s₁.rd (F.POOL_INUSE_COUNT p) - 1 ∧
            s'.rd (F.POOL_FREE_FREE p) = s₁.rd (F.POOL_FREE_FREE p) ∧
            s'.rd (F.POOL_RETIRED_COUNT p) = (s₁.rd (F.POOL_RETIRED_COUNT p) + 1) % 2 ^ (F.POOL_RETIRED_COUNT p).width) ∧
        (bits v 46 1 = 0 →
        ∃ s', exec (.free t rs1) s = .next s' ∧
          s' = { s₁ with threads := s'.threads, regs := s'.regs, pools := s'.pools, mem := s'.mem, bad := s'.bad } ∧
          (∀ q, q ≠ t.val → s'.th q = s₁.th q) ∧ s'.th t.val = { s₁.th t.val with pc := pcAfter (s₁.th t.val) } ∧
          (s'.pool p).head = i ∧ (∀ q, q ≠ p → s'.pool q = s₁.pool q) ∧
          s'.word k = mkMeta (bits v 56 8) (bits v 50 6) 0 (s₁.pool p).head ∧ (∀ j, j ≠ k → s'.word j = s₁.word j) ∧
          s'.rd (F.ACCT_INUSE_INUSE p (bits v 50 6)) = s₁.rd (F.ACCT_INUSE_INUSE p (bits v 50 6)) - 1 ∧
          s'.rd (F.POOL_INUSE_COUNT p) = s₁.rd (F.POOL_INUSE_COUNT p) - 1 ∧
          s'.rd (F.POOL_FREE_FREE p) = (s₁.rd (F.POOL_FREE_FREE p) + 1) % 2 ^ (F.POOL_FREE_FREE p).width)) ∧
    (∀ m k p l i, s₁.poolAt k = some (p, l, i) → tget eccDefault s₁.bad (l.meta_ + 8 * i) = .good →
      l.meta_ + 8 * i < mbusWindow → k ≠ l.meta_ + 8 * i →
      let v := (s₁.word (l.meta_ + 8 * i)).val
      (s₁.uncorrectable m k).word (l.meta_ + 8 * i) =
        Word.data (v ||| BitVec.ofNat 64 (2 ^ 46))) ∧
    (h.kind = .handle → b.kind = .data → ∃ s', exec (.hadd t rd rs1 rs2) s = .next s' ∧
      gives t.val rd ⟨h.tag, BitVec.ofNat 64
        (h.val.toNat / 2 ^ 32 * 2 ^ 32 + (h.val.toNat % 2 ^ 32 + b.val.toNat % 2 ^ 32) % 2 ^ 32)⟩ s₁ s'))

/-- SEND of a worker thread that holds a task, or of a Puppeteer core: where the target group's share admits it, the task
takes a free descriptor number with the next SERIAL of it, and w[rs1 + 1] holds its header; where it does not, a worker thread
raises QUEUE_FULL with the group and the refusal is counted, unless its budget is due and it raises BUDGET, which is none; and
a Puppeteer core waits. Where the model chose: log entries 19, 61, 62, 63, 64. -/
def Obligations.SendResults : Prop :=
  ∀ (t : Tid) (rs1 : Reg) (s s₁ : State), runs s t.val s₁ → 1 ≤ rs1.val → rs1.val ≤ 28 →
    192 ≤ t.val ∨ (s₁.th t.val).held.isSome = true → (∀ i, i < 4 → (s₁.w t.val (rs1.val + i)).kind ≠ .poison) →
    let h := (s₁.w t.val (rs1.val + 1)).val.toNat
    let w1 := s₁.w t.val rs1.val
    let g := bits h 21 4
    let acct := if w1.kind = .handle then Tag.low6 w1.tag else if t.val < 192 then (s₁.th t.val).acct else 0
    g ≠ 15 →
    (s₁.admits g = true → s₁.tasks.length < 65536 → s₁.tasks.Pairwise (fun a b => a.1 < b.1) →
      ∃ s' n, exec (.send t rs1) s = .next s' ∧ s₁.task n = none ∧
        s' = { s₁ with
          threads := s'.threads, tasks := s'.tasks, sched := s'.sched, loop := s'.loop, freeCount := s₁.freeCount + 1 } ∧
        (∀ m, m ≠ n → s'.task m = s₁.task m) ∧
        ∃ x, s'.task n = some x ∧ x.domain = some (bits h 28 12) ∧ x.prio = bits h 25 3 ∧ x.group = g ∧
          x.source = (if t.val < 192 then 1 else 2) ∧ x.acct = acct ∧ x.vheld = false ∧
          (s₁.domType (bits h 28 12) ≠ 1 ∨ (∀ e ∈ s₁.tasks, e.2.domain = some (bits h 28 12) → s₁.sched.seq ≤ e.2.seq) →
            x.stage = .ready s₁.sched.seq) ∧
          (s₁.domType (bits h 28 12) = 1 → (∃ e ∈ s₁.tasks, e.2.domain = some (bits h 28 12) ∧ e.2.seq < s₁.sched.seq) →
            x.stage = .waiting) ∧
          x.words = [w1, s₁.w t.val (rs1.val + 1), s₁.w t.val (rs1.val + 2), s₁.w t.val (rs1.val + 3)] ∧
          x.serial = (tget (fun _ => 0) s₁.sched.serials n + 1) % 256 ∧
          s'.th t.val = { s₁.th t.val with regs := (s'.th t.val).regs, pc := pcAfter (s₁.th t.val) } ∧
          s'.w t.val (rs1.val + 1) = x.header n false ∧
          ∀ q, q ≠ rs1.val + 1 → s'.w t.val q = s₁.w t.val q) ∧
    (s₁.admits g = false →
      (t.val < 192 → s₁.budgetDue t.val = false → exec (.send t rs1) s =
        .next ((s₁.bump F.SCH_REFUSE_SEND_CNT_COUNT).raise t.val 0x13 (BitVec.ofNat 64 g))) ∧
      (t.val < 192 → s₁.budgetDue t.val = true → exec (.send t rs1) s = .next (s₁.raise t.val 0x0E
        (BitVec.ofNat 64 (s₁.rd (F.GRP_BUDGET_LIMIT (s₁.th t.val).group))))) ∧
      (192 ≤ t.val → ∃ s', exec (.send t rs1) s = .next s' ∧ onlyThread t.val s₁ s' ∧
        s'.th t.val = { s₁.th t.val with life := .blocked, wait := some (.send rs1) }))

/-- XMIT of a task of a PARALLEL domain, or of the earliest one of its domain, puts its frame into the queue of an UP port
with room at once; a DOWN port takes none: the frame is discarded, its buffer given back and the port's count goes up; the
frame of a task behind an earlier one of its ORDERED or ATOMIC domain waits with the task; CANCEL voids a task that waits for
its turn (1), flags a delivered one (2), and answers 0 for a reference to none; CHKCANCEL reads the thread's flag; without a
held task XMIT and CHKCANCEL raise ILLEGAL. Where the model chose: log entries 63, 68. -/
def Obligations.TaskInstructions : Prop :=
  ∀ (t : Tid) (rd rs1 rs2 : Reg) (s s₁ : State), runs s t.val s₁ →
    let h := s₁.w t.val rs1.val
    let v := (s₁.w t.val rs2.val).val.toNat
    let port := bits v 16 8
    let len := bits v 0 14
    let m := bits h.val.toNat 48 16
    let now := fun (d : Nat) (x : Task) => s₁.domType d = 2 ∨ ∀ e ∈ s₁.tasks, e.2.domain = some d → x.seq ≤ e.2.seq
    let word := fun (i : Instr) => (wordOf i).setWidth 64
    (∀ n x d, t.val < 192 → (s₁.th t.val).held = some n → s₁.task n = some x → x.domain = some d → now d x →
      port < 48 ∨ port = 64 ∨ port = 65 ∨ port = 80 → h.kind = .handle → (s₁.w t.val rs2.val).kind ≠ .poison →
      s₁.touchHandle h .xmit = s₁ → s₁.handleCheck h .xmit (s₁.th t.val).acct (s₁.priv t.val) = none → 64 ≤ hOffset h.val →
      0 < len →
      hOffset h.val + len ≤ (s₁.hLayout h).size → s₁.portUp port = true → (s₁.txOf port).line = [] →
      (∀ k, txPlaces port = some k → (s₁.txOf port).queue.length < k) →
      ∃ s', exec (.xmit t rs1 rs2) s = .next s' ∧ s' = { s₁ with threads := s'.threads, txq := s'.txq } ∧
        movesTo t.val (pcAfter (s₁.th t.val)) { s₁ with txq := s'.txq } s' ∧
        s'.txOf port = ⟨(s₁.txOf port).queue ++ [⟨h, port, len, d⟩], []⟩ ∧ ∀ q, q ≠ port → s'.txOf q = s₁.txOf q) ∧
    (∀ n x d, t.val < 192 → (s₁.th t.val).held = some n → s₁.task n = some x → x.domain = some d → now d x →
      port < 48 ∨ port = 64 ∨ port = 65 ∨ port = 80 → h.kind = .handle → (s₁.w t.val rs2.val).kind ≠ .poison →
      s₁.touchHandle h .xmit = s₁ → s₁.handleCheck h .xmit (s₁.th t.val).acct (s₁.priv t.val) = none → 64 ≤ hOffset h.val →
      0 < len → hOffset h.val + len ≤ (s₁.hLayout h).size → s₁.portUp port = false →
      ∃ s', exec (.xmit t rs1 rs2) s = .next s' ∧ s'.txq = s₁.txq ∧ counts (downCnt port) s₁ s' ∧
        movesTo t.val (pcAfter (s₁.th t.val)) ((s₁.release h).bump (downCnt port)) s') ∧
    (∀ n x d, t.val < 192 → (s₁.th t.val).held = some n → s₁.task n = some x → x.domain = some d → ¬ now d x →
      s₁.tasks.Pairwise (fun a b => a.1 < b.1) →
      port < 48 ∨ port = 64 ∨ port = 65 ∨ port = 80 → h.kind = .handle → (s₁.w t.val rs2.val).kind ≠ .poison →
      s₁.touchHandle h .xmit = s₁ → s₁.handleCheck h .xmit (s₁.th t.val).acct (s₁.priv t.val) = none → 64 ≤ hOffset h.val →
      0 < len → hOffset h.val + len ≤ (s₁.hLayout h).size →
      ∃ s', exec (.xmit t rs1 rs2) s = .next s' ∧ s' = { s₁ with threads := s'.threads, tasks := s'.tasks } ∧
        movesTo t.val (pcAfter (s₁.th t.val)) { s₁ with tasks := s'.tasks } s' ∧
        s'.task n = some { x with frames := x.frames ++ [⟨h, port, len, d⟩] } ∧ ∀ k, k ≠ n → s'.task k = s₁.task k) ∧
    (h.kind = .data → (s₁.w t.val rs2.val).kind ≠ .poison →
      (s₁.task m = none → ∃ s', exec (.cancel t rd rs1 rs2) s = .next s' ∧ gives t.val rd (Word.data 0) s₁ s') ∧
      (∀ x u, s₁.task m = some x → x.serial = bits h.val.toNat 40 8 → x.faultOf = none → x.stage = .delivered u →
        u ≠ t.val → (s₁.th u).cancel = false →
        ∃ s', exec (.cancel t rd rs1 rs2) s = .next s' ∧ s' = { s₁ with threads := s'.threads, regs := s'.regs } ∧
          s'.th u = { s₁.th u with cancel := true } ∧ writes t.val rd (Word.data 2) s₁ s' ∧
          s'.rd F.SCH_FLAG_CNT_COUNT = min (2 ^ F.SCH_FLAG_CNT_COUNT.width - 1) (s₁.rd F.SCH_FLAG_CNT_COUNT + 1)) ∧
      (∀ x q d, s₁.task m = some x → x.serial = bits h.val.toNat 40 8 → x.faultOf = none → x.stage = .ready q →
        x.domain = some d → (∀ e ∈ s₁.tasks, e.2.domain = some d → e.1 = m) → (x.words.headD Word.zero).kind ≠ .handle → (s₁.th 192).life ≠ .blocked → (s₁.th 193).life ≠ .blocked →
        ∃ s', exec (.cancel t rd rs1 rs2) s = .next s' ∧ writes t.val rd (Word.data 1) s₁ s' ∧ s'.task m = none ∧
          s'.sched.cpl = s₁.sched.cpl ++ [x.cplRecord m 0x03 0xFF] ∧
          s'.rd F.SCH_VOID_CNT_COUNT = min (2 ^ F.SCH_VOID_CNT_COUNT.width - 1) (s₁.rd F.SCH_VOID_CNT_COUNT + 1))) ∧
    (t.val < 192 → (s₁.th t.val).held.isSome = true → ∃ s', exec (.chkcancel t rd) s = .next s' ∧
      gives t.val rd (Word.data (if (s₁.th t.val).cancel then 1 else 0)) s₁ s') ∧
    ((s₁.th t.val).held = none →
      exec (.chkcancel t rd) s = .next (s₁.raise t.val 0x01 (word (.chkcancel t rd))) ∧
      exec (.xmit t rs1 rs2) s = .next (s₁.raise t.val 0x01 (word (.xmit t rs1 rs2))))

/-- HJOB of a descriptor that its thread can name, whose four words hold neither POISON nor an error and spell an operation,
takes the lowest free ticket and joins its helper's queue; with 16 jobs in that queue it keeps the ticket's number and waits
for an entry; one that spells none ends its ticket at once with BAD_DESC. HWAIT of an ended job writes its status word and
frees the ticket, of a failed one raises HELPER with the word, of an outstanding one waits, and of none writes NO_JOB (its
HELPER field is open). A Puppeteer core raises ILLEGAL. Where the model chose: log entries 38, 39, 41, 46. -/
def Obligations.HelperInstructions : Prop :=
  ∀ (t : Tid) (rd rs1 : Reg) (s s₁ : State), runs s t.val s₁ → (s₁.w t.val rs1.val).kind = .data →
    let x := s₁.th t.val
    let v := (s₁.w t.val rs1.val).val.toNat
    let k := v % 4
    (192 ≤ t.val → exec (.hjob t rd rs1) s = .next (s₁.raise t.val 0x01 ((wordOf (.hjob t rd rs1)).setWidth 64)) ∧
      exec (.hwait t rd rs1) s = .next (s₁.raise t.val 0x01 ((wordOf (.hwait t rd rs1)).setWidth 64))) ∧
    (t.val < 192 →
      (∀ a n, s₁.descLoc t.val v = some a → s₁.accessWaits t.val v 32 = false →
        (∀ i, i < 4 → s₁.memOf (a + 8 * i) ≠ none ∧ tget eccDefault s₁.bad (a + 8 * i) = .good ∧
          (s₁.word (a + 8 * i)).readAs.kind ≠ .poison) →
        x.tickets.findIdx? (fun q => q != .out) = some n → n < 4 →
        let ws := (List.range 4).map (fun i => (s₁.word (a + 8 * i)).readAs)
        let f := bits (ws.headD Word.zero).val.toNat 60 4
        let j : Job := ⟨t.val, n, f, ws, x.acct, x.set.regions, s₁.priv t.val⟩
        let i := 3 * (t.val / 32) + f
        (j.badDesc = false → (s₁.helper i).queue.length < 16 →
          ∃ s', exec (.hjob t rd rs1) s = .next s' ∧ s' = { s₁ with threads := s'.threads, helpers := s'.helpers } ∧
            s'.helper i = { s₁.helper i with queue := (s₁.helper i).queue ++ [j] } ∧
            (∀ q, q ≠ i → s'.helper q = s₁.helper q) ∧ (∀ u, u ≠ t.val → s'.th u = s₁.th u) ∧
            writes t.val rd (Word.data (BitVec.ofNat 64 n)) s₁ s' ∧ (s'.th t.val).life = .running ∧
            (s'.th t.val).pc = pcAfter x ∧ (s'.th t.val).tickets = x.tickets.set n .out) ∧
        (j.badDesc = false → 16 ≤ (s₁.helper i).queue.length →
          ∃ s', exec (.hjob t rd rs1) s = .next s' ∧ onlyThread t.val s₁ s' ∧
            s'.th t.val = { x with life := .blocked, wait := some (.hjob rd none j) }) ∧
        (j.badDesc = true →
          ∃ s', exec (.hjob t rd rs1) s = .next s' ∧ onlyThread t.val s₁ s' ∧
            writes t.val rd (Word.data (BitVec.ofNat 64 n)) s₁ s' ∧ (s'.th t.val).life = .running ∧
            (s'.th t.val).pc = pcAfter x ∧ (s'.th t.val).tickets = x.tickets.set n (.ended (statusWord 1 f n 0)))) ∧
      (∀ w, x.tickets[k]? = some (.ended w) →
        (bits w.toNat 0 8 = 0 ∨ bits w.toNat 0 8 = 5 → ∃ s', exec (.hwait t rd rs1) s = .next s' ∧ onlyThread t.val s₁ s' ∧
          writes t.val rd (Word.data w) s₁ s' ∧ s'.th t.val = { x with
            life := .running, wait := none, pc := pcAfter x, regs := (s'.th t.val).regs, tickets := x.tickets.set k .free }) ∧
        (bits w.toNat 0 8 ≠ 0 → bits w.toNat 0 8 ≠ 5 → exec (.hwait t rd rs1) s = .next ((s₁.modTh t.val (fun y => { y with
          life := .blocked, wait := some (.hwait rd k) })).raise t.val 0x0F w))) ∧
      (x.tickets[k]? = some .out → ∃ s', exec (.hwait t rd rs1) s = .next s' ∧ onlyThread t.val s₁ s' ∧
        s'.th t.val = { x with life := .blocked, wait := some (.hwait rd k) }) ∧
      (x.tickets[k]? = some .free → ∃ s' f, exec (.hwait t rd rs1) s = .next s' ∧ (s'.th t.val).pc = pcAfter x ∧
        writes t.val rd (Word.data (statusWord 0x0F f k 0)) s₁ s'))

/-- A helper that is idle starts the oldest job of its queue, where memory holds no latent error; the one thread that waits
for an entry of that queue takes the entry that this frees and goes on with its ticket; one that is busy, or whose queue is
empty, does nothing. When the job ends its output bytes stand in memory, in words with tag DATA, and every other word is as
before; an output that reaches no memory any more ends it with ACCESS, a POISON word that it would write in part with ECC, and
then nothing is written. Its ticket holds the status word of its outcome (status [7:0], HELPER [11:8], ticket [15:12], result
[63:32]), the helper is idle, and a thread that waits in HWAIT of that ticket goes on with that word for OK and CHECK_FAIL,
and raises HELPER with it else. What a helper's job comes to, where memory holds no latent error. The model's choices: ACCESS
for a FLOWHASH source that is no handle (log entry 42), the natural alignment of samples and words (log entry 43), and the
byte order of the CRC that CRC32_CHECK finds (log entry 45). With a length outside the operation's range LENGTH, with a
source, destination or coefficients that its captured context cannot access ACCESS, with a POISON word in what it reads ECC,
else the result of its operation over the source bytes. CSUM16 is the ones'-complement sum of big-endian pairs; the CRCs and
HASH64 have the check values of their polynomials over the digits 1 to 9, and a result chains into the next job's seed. STATS
gives RMS, PEAK, MAX, MIN, sum and N; a windowed sample is rounded to nearest, halfway to even, and saturated; an FFT output
lies within log₂N + 2 of the exact value. Where the model chose: log entries 3, 39, 40, 46, 197, 198, 199, 243. -/
def Obligations.HelperRuns : Prop :=
  (∀ (tile : Fin 6) (h : Fin 3) (s : State),
    let i := 3 * tile.val + h.val
    (∀ j r, s.helper i = ⟨j :: r, none⟩ → s.bad = [] → s.queueWaiters i = [] →
      ∃ s', exec (.helperJobStart tile h) s = .next s' ∧ s' = { s with helpers := s'.helpers } ∧
        s'.helper i = ⟨r, some (j, (s.runJob j).2)⟩ ∧ ∀ q, q ≠ i → s'.helper q = s.helper q) ∧
    (∀ j r t rd j', s.helper i = ⟨j :: r, none⟩ → s.bad = [] → s.queueWaiters i = [t] → (s.th t).life = .blocked →
      (s.th t).wait = some (.hjob rd none j') → r.length < 16 →
      ∃ s', exec (.helperJobStart tile h) s = .next s' ∧
        s' = { s with helpers := s'.helpers, threads := s'.threads, freeCount := s.freeCount + 1 } ∧
        s'.helper i = ⟨r ++ [j'], some (j, (s.runJob j).2)⟩ ∧ (∀ q, q ≠ i → s'.helper q = s.helper q) ∧
        (∀ u, u ≠ t → s'.th u = s.th u) ∧ writes t rd (Word.data (BitVec.ofNat 64 j'.ticket)) s s' ∧
        (s'.th t).life = .running ∧ (s'.th t).wait = none ∧ (s'.th t).pc = pcAfter (s.th t) ∧
        (s'.th t).tickets = (s.th t).tickets.set j'.ticket .out) ∧
    ((s.helper i).busy ≠ none ∨ (s.helper i).queue = [] → exec (.helperJobStart tile h) s = .next s) ∧
    (∀ q, s.helper i = ⟨q, none⟩ → exec (.helperJobComplete tile h) s = .next s) ∧
    (∀ q j e, s.helper i = ⟨q, some (j, e)⟩ → s.bad = [] →
      let word := fun (e : JobEnd) => statusWord e.status j.hf j.ticket e.result
      let ends := fun (e : JobEnd) (s' : State) => exec (.helperJobComplete tile h) s = .next s' ∧
        s' = { s with threads := s'.threads, helpers := s'.helpers, mem := s'.mem, bad := s'.bad } ∧
        s'.helper i = ⟨q, none⟩ ∧ (∀ p, p ≠ i → s'.helper p = s.helper p) ∧ (∀ u, u ≠ j.thread → s'.th u = s.th u) ∧
        s'.th j.thread = { s.th j.thread with
          tickets := (s.th j.thread).tickets.set j.ticket (.ended (word e)) }
      ((s.th j.thread).life ≠ .blocked →
        (e.writes = [] → ∃ s', ends e s' ∧ s'.mem = s.mem) ∧
        ∀ a bs, e.writes = [(a, bs)] → 0 < bs.length → a + bs.length ≤ mbusWindow →
          let parts := [wordKey a, wordKey (a + bs.length)].filter (fun k =>
            decide ((k = wordKey a ∧ (a % 8 ≠ 0 ∨ bs.length < 8)) ∨ (k = wordKey (a + bs.length) ∧ (a + bs.length) % 8 ≠ 0)))
          (s.memOf (wordKey a) = none ∨ s.memOf (wordKey (a + bs.length - 1)) = none →
            ∃ s', ends (endWith 3) s' ∧ s'.mem = s.mem) ∧
          (s.memOf (wordKey a) ≠ none → s.memOf (wordKey (a + bs.length - 1)) ≠ none →
            ((∃ k ∈ parts, (s.word k).readAs.kind = .poison) → ∃ s', ends (endWith 4) s' ∧ s'.mem = s.mem) ∧
            ((∀ k ∈ parts, (s.word k).readAs.kind ≠ .poison) → ∃ s', ends e s' ∧
              (∀ n b, bs[n]? = some b → (s'.word (wordKey (a + n))).tag = 0 ∧
                byteOf (s'.word (wordKey (a + n))).val ((a + n) % 8) = b) ∧
              ∀ k, (∀ n, n < bs.length → k ≠ wordKey (a + n)) → s'.word k = s.word k))) ∧
      (∀ rd, (s.th j.thread).life = .blocked → (s.th j.thread).wait = some (.hwait rd j.ticket) → e.writes = [] →
        j.ticket < (s.th j.thread).tickets.length →
        let s₁ := (s.setHelper i ⟨q, none⟩).modTh j.thread (fun x => { x with
          tickets := x.tickets.set j.ticket (.ended (word e)) })
        let x := s₁.th j.thread
        (e.status = 0 ∨ e.status = 5 → ∃ s', exec (.helperJobComplete tile h) s = .next s' ∧ onlyThread j.thread s₁ s' ∧
          writes j.thread rd (Word.data (word e)) s₁ s' ∧ s'.th j.thread = { x with
            life := .running, wait := none, pc := pcAfter x, regs := (s'.th j.thread).regs
            tickets := x.tickets.set j.ticket .free }) ∧
        (e.status = 1 ∨ e.status = 2 ∨ e.status = 3 ∨ e.status = 4 →
          exec (.helperJobComplete tile h) s = .next (s₁.raise j.thread 0x0F (word e)))))) ∧
  ((∀ (s : State) (j : Job), s.bad = [] →
    let n := j.len
    let src := j.word 1
    let seed := j.param
    let reads := fun (a m : Nat) (f : List Byte → JobEnd) =>
      ((∀ i, i < m → readable s (a + i)) → s.runJob j = (s, f (bytesAt s a m))) ∧
      ((∃ i, i < m ∧ ¬ readable s (a + i)) → s.runJob j = (s, endWith 4))
    (j.hf = 0 →
      (n = 0 ∨ 16384 < n → s.runJob j = (s, endWith 2)) ∧
      (0 < n → n ≤ 16384 →
        (j.op ≠ 4 → s.jobLoc j false src 0 n 1 = none → s.runJob j = (s, endWith 3)) ∧
        (j.op = 4 → s.jobLoc j false src 0 (n + 4) 1 = none → s.runJob j = (s, endWith 3)) ∧
        (∀ a, s.jobLoc j false src 0 n 1 = some a →
          (j.op = 1 → reads a n (fun bs => ⟨0, csum16 (seed % 65536) bs, []⟩)) ∧
          (j.op = 2 → s.jobLoc j true (j.word 2) (bits seed 32 16) 2 2 = none → s.runJob j = (s, endWith 3)) ∧
          (j.op = 2 → ∀ d, s.jobLoc j true (j.word 2) (bits seed 32 16) 2 2 = some d → reads a n (fun bs =>
            let c := 65535 - csum16 (seed % 65536) (zeroAt a d 2 bs)
            ⟨0, c, [(d, beBytes 2 c)]⟩)) ∧
          (j.op = 3 → reads a n (fun bs => ⟨0, crc32 (crcInit seed) (j.flags.testBit 0) bs, []⟩))) ∧
        (j.op = 4 → ∀ a, s.jobLoc j false src 0 (n + 4) 1 = some a → reads a (n + 4) (fun bs =>
          let c := crc32 (crcInit seed) (j.flags.testBit 0) (bs.take n)
          ⟨if c = leNat (bs.drop n) then 0 else 5, c, []⟩)))) ∧
    (j.hf = 1 →
      (j.op = 1 ∨ j.op = 2 → n = 0 ∨ 16384 < n → s.runJob j = (s, endWith 2)) ∧
      (j.op = 1 ∨ j.op = 2 → 0 < n → n ≤ 16384 → s.jobLoc j false src 0 n 1 = none → s.runJob j = (s, endWith 3)) ∧
      (∀ a, 0 < n → n ≤ 16384 → s.jobLoc j false src 0 n 1 = some a →
        (j.op = 1 → reads a n (fun bs => ⟨0, hash32 seed bs, []⟩)) ∧
        (j.op = 2 → s.jobLoc j true (j.word 2) 0 8 8 = none → s.runJob j = (s, endWith 3)) ∧
        (j.op = 2 → ∀ d, s.jobLoc j true (j.word 2) 0 8 8 = some d → reads a n (fun bs =>
          ⟨0, 0, [(d, valBytes (hash64 (j.word 3).val bs))]⟩))) ∧
      (j.op = 3 →
        let b : Word := ⟨src.tag, BitVec.ofNat 64 (src.val.toNat / 2 ^ 32 * 2 ^ 32)⟩
        (b.kind ≠ .handle ∨ s.jobLoc j false b 32 32 2 = none → s.runJob j = (s, endWith 3)) ∧
        (b.kind = .handle → ∀ a, s.jobLoc j false b 32 32 2 = some a → reads a 32 (fun bs =>
          ⟨0, hash32 (seed / 2 ^ 32) ((List.range 16).flatMap (fun i =>
            if seed.testBit i then (bs.drop (2 * i)).take 2 else [])), []⟩)))) ∧
    (j.hf = 2 →
      let size := if j.flags.testBit 0 then 2 else 4
      let samples := fun (bs : List Byte) => if j.flags.testBit 0 then samples2 bs else samples4 bs
      let w := seed % 4
      let user := w = 2 ∧ (j.op = 2 ∨ (j.op = 3 ∧ seed.testBit 2 = true))
      let table := s.jobLoc j false (Word.data (BitVec.ofNat 64 (seed / 256))) 0 (4 * n) 4
      let out := if j.op = 1 then 32 else if j.op = 2 then 4 * n else 8 * (n / 2 + 1)
      let aligned := if j.op = 2 then 4 else 8
      (n = 0 ∨ 4096 < n ∨ (j.op = 3 ∧ ∀ m, 4 ≤ m → n ≠ 2 ^ m) → j.op ∈ [1, 2, 3] → s.runJob j = (s, endWith 2)) ∧
      (j.op ∈ [1, 2, 3] → 0 < n → n ≤ 4096 → (j.op = 3 → ∃ m, 4 ≤ m ∧ n = 2 ^ m) →
        (s.jobLoc j false src 0 (n * size) size = none ∨ s.jobLoc j true (j.word 2) 0 out aligned = none →
          s.runJob j = (s, endWith 3)) ∧
        ∀ a d, s.jobLoc j false src 0 (n * size) size = some a → s.jobLoc j true (j.word 2) 0 out aligned = some d →
          (j.op = 1 → reads a (n * size) (fun bs => ⟨0, 0, [(d, (statsWords (samples bs)).flatMap valBytes)]⟩)) ∧
          (j.op = 2 → w ≠ 2 → reads a (n * size) (fun bs => ⟨0, 0, [(d, sampleBytes (windowed w [] (samples bs)))]⟩)) ∧
          (user → table = none → s.runJob j = (s, endWith 3)) ∧
          (user → ∀ c, table = some c → (∃ i, i < 4 * n ∧ ¬ readable s (c + i)) → s.runJob j = (s, endWith 4)) ∧
          (user → ∀ c, table = some c → (∀ i, i < 4 * n → readable s (c + i)) → reads a (n * size) (fun bs =>
            let coef := samples4 (bytesAt s c (4 * n))
            let y := weighted w coef (samples bs)
            ⟨0, 0, [(d, if j.op = 2 then sampleBytes (windowed w coef (samples bs))
              else (fftWords (seed.testBit 3) y.1 y.2).flatMap valBytes)]⟩)) ∧
          (j.op = 3 → seed.testBit 2 = false → reads a (n * size) (fun bs =>
            ⟨0, 0, [(d, (fftWords (seed.testBit 3) (samples bs) 1).flatMap valBytes)]⟩)) ∧
          (j.op = 3 → seed.testBit 2 = true → w ≠ 2 → reads a (n * size) (fun bs =>
            let y := weighted w [] (samples bs)
            ⟨0, 0, [(d, (fftWords (seed.testBit 3) y.1 y.2).flatMap valBytes)]⟩))))) ∧
  (∀ (init : Nat) (bs : List Byte), init < 65536 → bs.length ≤ 16384 →
    let sum := init + ((List.range bs.length).map (fun i =>
      ((bs[i]?).getD 0).toNat * (if i % 2 = 0 then 256 else 1))).sum
    csum16 init bs ≤ 65535 ∧ csum16 init bs % 65535 = sum % 65535 ∧ (csum16 init bs = 0 ↔ sum = 0)) ∧
  (∀ digits : List Byte, digits = [0x31, 0x32, 0x33, 0x34, 0x35, 0x36, 0x37, 0x38, 0x39] →
    crcInit 0 = 0xFFFFFFFF ∧ crcInit (2 ^ 32) = 0 ∧ crc32 0xFFFFFFFF true digits = 0xCBF43926 ∧
    hash32 0xFFFFFFFF digits = 0xFFFFFFFF - 0xE3069283 ∧ hash64 0 digits = 0x6C40DF5F0B497347) ∧
  (∀ (seed : Nat) (a b : List Byte), hash32 seed (a ++ b) = hash32 (hash32 seed a) b ∧
    crc32 seed false (a ++ b) = crc32 (crc32 seed false a) false b) ∧
  (∀ xs : List Int, xs ≠ [] → xs.length ≤ 4096 → (∀ x ∈ xs, -2 ^ 31 ≤ x ∧ x < 2 ^ 31) →
    let n := xs.length
    let s2 := (xs.map (fun x => x.natAbs * x.natAbs)).sum
    ∃ (r p : Nat) (mx mn : Int),
      statsWords xs = [BitVec.ofNat 64 (r * 2 ^ 32 + p), BitVec.ofNat 64 (low32 mx * 2 ^ 32 + low32 mn),
        BitVec.ofInt 64 xs.sum, BitVec.ofNat 64 n] ∧
      mx ∈ xs ∧ mn ∈ xs ∧ (∀ x ∈ xs, mn ≤ x ∧ x ≤ mx ∧ min x.natAbs 0x7FFFFFFF ≤ p) ∧
      (∃ x ∈ xs, p = min x.natAbs 0x7FFFFFFF) ∧ r ≤ 0x7FFFFFFF ∧ (0 < r → n * (2 * r - 1) ^ 2 ≤ 4 * s2) ∧
      (r < 0x7FFFFFFF → 4 * s2 ≤ n * (2 * r + 1) ^ 2)) ∧
  (∀ (w : Nat) (coef xs : List Int) (i : Nat) (x : Int), w < 3 → xs[i]? = some x →
    let n := xs.length
    let e : Int × Int := if w = 0 then (x * (2 ^ 96 - cosFix i n), 2 ^ 97)
      else if w = 1 then (x * (54 * 2 ^ 96 - 46 * cosFix i n), 100 * 2 ^ 96) else (x * (coef[i]?).getD 0, 2 ^ 31)
    ∃ y : Int, (windowed w coef xs)[i]? = some y ∧ -2 ^ 31 ≤ y ∧ y < 2 ^ 31 ∧
      (y < 2 ^ 31 - 1 → 2 * e.1 ≤ (2 * y + 1) * e.2 ∧ (2 * e.1 = (2 * y + 1) * e.2 → y % 2 = 0)) ∧
      (-2 ^ 31 < y → (2 * y - 1) * e.2 ≤ 2 * e.1 ∧ (2 * e.1 = (2 * y - 1) * e.2 → y % 2 = 0))) ∧
  ∀ (xs : List Int) (den : Int) (m k : Nat), xs.length = 2 ^ m → m ≤ 12 → 0 < den → k ≤ xs.length / 2 →
    let d : Int := xs.length * 2 ^ 96 * den
    let b : Int := m + 2
    let near := fun (v x : Int) => -2 ^ 31 ≤ v ∧ v < 2 ^ 31 ∧ (v < 2 ^ 31 - 1 → x - b * d ≤ v * d) ∧
      (-2 ^ 31 < v → v * d ≤ x + b * d)
    ∃ re im : Int, (fftWords false xs den)[k]? = some (BitVec.ofNat 64 (low32 re * 2 ^ 32 + low32 im)) ∧
      near re (dftBin xs k).1 ∧ near im (dftBin xs k).2 ∧
      ∀ q : Nat, q ^ 2 ≤ (dftBin xs k).1.natAbs ^ 2 + (dftBin xs k).2.natAbs ^ 2 →
        (dftBin xs k).1.natAbs ^ 2 + (dftBin xs k).2.natAbs ^ 2 < (q + 1) ^ 2 → q < 2 ^ 256 →
        ∃ v : Int, 0 ≤ v ∧ near v q ∧ (fftWords true xs den)[k]? = some (BitVec.ofNat 64 (low32 v * 2 ^ 32)))

/-- RDTIME gives station time in ns; RECORD offers an entry of source 0x80 + account, or counts it lost; TRAP raises TRAP with
its code; a word that decodes to no instruction raises ILLEGAL with it; MFSR gives the system register or raises ILLEGAL; MTSR
on a Puppeteer core writes EVPEND, EVMASK or MAILBOX and on a worker thread raises ILLEGAL; SWAPSET flips the selector of a
privileged worker thread and raises PRIVILEGE else; WAITEV waits until EVPEND AND EVMASK is non-zero and writes it. Where the
model chose: log entry 54. -/
def Obligations.SystemInstructions : Prop :=
  ∀ (t : Tid) (rd rs1 rs2 : Reg) (n code : BitVec 5) (s s₁ : State), runs s t.val s₁ →
    let x := s₁.th t.val
    let v := (s₁.w t.val rs1.val).val
    let word := fun (i : Instr) => (wordOf i).setWidth 64
    let reads := fun (m : Nat) => ∃ s', exec (.mfsr t rd n) s = .next s' ∧ gives t.val rd (Word.data (BitVec.ofNat 64 m)) s₁ s'
    (∃ s', exec (.rdtime t rd) s = .next s' ∧ gives t.val rd (Word.data (BitVec.ofNat 64 s₁.nowNs)) s₁ s') ∧
    (exec (.trap t code) s = .next (s₁.raise t.val 0x10 (code.setWidth 64))) ∧
    (∀ w, decodeIsa t w = none → exec (.reservedOpcode t w) s = .next (s₁.raise t.val 0x01 (w.setWidth 64))) ∧
    (unpoisoned s₁ t.val [rs1, rs2] → s₁.recorder.frozen = false → s₁.recorder.offered.length < 64 →
      ∃ s', exec (.record t rs1 rs2) s = .next s' ∧ s' = { s₁ with threads := s'.threads, recorder := { s₁.recorder with
        offered := s₁.recorder.offered ++ [⟨0x80 + x.acct, (s₁.w t.val rs2.val).val.toNat % 256, v.toNat⟩] } } ∧
        (∀ u, u ≠ t.val → s'.th u = s₁.th u) ∧ s'.th t.val = { x with pc := pcAfter x }) ∧
    (unpoisoned s₁ t.val [rs1, rs2] → s₁.recorder.frozen = true ∨ 64 ≤ s₁.recorder.offered.length →
      ∃ s', exec (.record t rs1 rs2) s = .next s' ∧ onlyRegs [A.REC_LOST] { s₁ with threads := s'.threads } s' ∧
        counts F.REC_LOST_COUNT s₁ s' ∧ (∀ u, u ≠ t.val → s'.th u = s₁.th u) ∧
        s'.th t.val = { x with pc := pcAfter x }) ∧
    (n = 0x00 → reads t.val) ∧ (n = 0x01 → reads x.acct) ∧ (n = 0x02 → reads x.epoch) ∧
    (n = 0x03 → reads ((if x.held.isSome then 1 else 0) + (if s₁.priv t.val then 2 else 0))) ∧
    (192 ≤ t.val → (n = 0x08 → reads x.evpend) ∧ (n = 0x09 → reads x.evmask) ∧ (n = 0x0A → reads 0)) ∧
    ((4 ≤ n.toNat ∧ n.toNat < 8) ∨ 0x0B ≤ n.toNat ∨ (8 ≤ n.toNat ∧ t.val < 192) →
      exec (.mfsr t rd n) s = .next (s₁.raise t.val 0x01 (word (.mfsr t rd n)))) ∧
    (t.val < 192 → exec (.mtsr t rs1 n) s = .next (s₁.raise t.val 0x01 (word (.mtsr t rs1 n))) ∧
      exec (.waitev t rd) s = .next (s₁.raise t.val 0x01 (word (.waitev t rd)))) ∧
    (192 ≤ t.val → unpoisoned s₁ t.val [rs1] →
      (n = 0x08 → ∃ s', exec (.mtsr t rs1 n) s = .next s' ∧ onlyThread t.val s₁ s' ∧ s'.th t.val = { x with
        pc := pcAfter x, evpend := Nat.lor (x.evpend - Nat.land x.evpend v.toNat) (s₁.standing t.val) }) ∧
      (n = 0x09 → ∃ s', exec (.mtsr t rs1 n) s = .next s' ∧ onlyThread t.val s₁ s' ∧
        s'.th t.val = { x with pc := pcAfter x, evmask := v.toNat % 2 ^ 12 }) ∧
      (n = 0x0A → v.toNat % 2 = 1 → (s₁.th (385 - t.val)).life ≠ .blocked → ∃ s', exec (.mtsr t rs1 n) s = .next s' ∧
        s' = { s₁ with threads := s'.threads } ∧ s'.th t.val = { x with pc := pcAfter x } ∧
        s'.th (385 - t.val) = { s₁.th (385 - t.val) with evpend := Nat.lor (s₁.th (385 - t.val)).evpend 0x10 })) ∧
    (s₁.priv t.val = false → exec (.swapset t) s = .next (s₁.raise t.val 0x02 (word (.swapset t)))) ∧
    (s₁.priv t.val = true → ∃ s', exec (.swapset t) s = .next s' ∧ onlyThread t.val s₁ s' ∧
      s'.th t.val = { x with pc := pcAfter x, selB := if t.val < 192 then !x.selB else x.selB }) ∧
    (192 ≤ t.val → ∃ s', exec (.waitev t rd) s = .next s' ∧ onlyThread t.val s₁ s' ∧
      (Nat.land x.evpend x.evmask = 0 → s'.th t.val = { x with life := .blocked, wait := some (.waitev rd) }) ∧
      (Nat.land x.evpend x.evmask ≠ 0 → writes t.val rd (Word.data (BitVec.ofNat 64 (Nat.land x.evpend x.evmask))) s₁ s' ∧
        s'.th t.val = { x with life := .running, wait := none, pc := pcAfter x, regs := (s'.th t.val).regs }))

/-! ### Caches, fault records, thread control, delivery -/

/-- CLEAN writes a dirty line of the tile cache back to memory and keeps it clean; CINV then invalidates it; a line not
cached, an address outside ingot memory and SDRAM, and a Puppeteer core leave memory as it is, and so does a line of a channel
that does not answer; an address that the deciding region does not let the thread write raises PROT_WRITE. Where the model
chose: log entries 21, 228. -/
def Obligations.CacheMaintenance : Prop :=
  ∀ (t : Tid) (rs1 : Reg) (s s₁ : State), runs s t.val s₁ → (s₁.w t.val rs1.val).kind = .data →
    let a := (s₁.w t.val rs1.val).val.toNat
    let key := setKey (t.val / 32) a
    ∀ e ∈ ([(.clean t rs1, false), (.cinv t rs1, true)] : List (Instr × Bool)),
      (192 ≤ t.val ∨ farAddr a = false → ∃ s', exec e.1 s = .next s' ∧ movesTo t.val (pcAfter (s₁.th t.val)) s₁ s') ∧
      (t.val < 192 → farAddr a = true →
        (∀ r, deciding (s₁.th t.val).set.regions (s₁.priv t.val) a = some r → r.w = false →
          exec e.1 s = .next (s₁.raise t.val 0x05 (BitVec.ofNat 64 a))) ∧
        (∀ r, deciding (s₁.th t.val).set.regions (s₁.priv t.val) a = some r → r.w = true →
          ((s₁.cset key).wayOf (a / 64) = none →
            ∃ s', exec e.1 s = .next s' ∧ movesTo t.val (pcAfter (s₁.th t.val)) s₁ s') ∧
          (∀ w l, (s₁.cset key).wayOf (a / 64) = some w → (s₁.cset key).line w = some l → l.dirty = true →
            l.words.length = 8 → l.tag = a / 64 →
            ((∀ m k, s₁.locData none (a / 64 * 64) ≠ .cell m k) → ∃ s', exec e.1 s = .next s' ∧
              s' = { s₁ with threads := s'.threads, caches := s'.caches } ∧
              s'.cset key = { s₁.cset key with ways := (s₁.cset key).ways.set w (if e.2 then none else some l) }) ∧
            ∀ m k, s₁.locData none (a / 64 * 64) = .cell m k → ∃ s', exec e.1 s = .next s' ∧
              s' = { s₁ with threads := s'.threads, mem := s'.mem, bad := s'.bad, caches := s'.caches } ∧
              (∀ u, u ≠ t.val → s'.th u = s₁.th u) ∧
              s'.th t.val = { s₁.th t.val with pc := pcAfter (s₁.th t.val) } ∧
              (∀ i, i < 8 → some (s'.word (a / 64 * 64 + 8 * i)) = l.words[i]?) ∧
              (∀ k, (∀ i, i < 8 → k ≠ a / 64 * 64 + 8 * i) → s'.word k = s₁.word k) ∧
              s'.cset key = { s₁.cset key with
                ways := (s₁.cset key).ways.set w (if e.2 then none else some { l with dirty := false }) } ∧
              ∀ q, q ≠ key → s'.cset q = s₁.cset q)))

/-- FRESOLVE by the active supervisor of the target's tile or P-core 0: RESUME sets a FAULTED thread RUNNING with its budget
at zero, past a TRAP or an uncorrectable load or store and at its instruction else, and answers 0; one of a POSTED_WRITE
clears the slot, one of a HELPER fault consumes the failure, one of a protection fault first reloads the inactive set and
flips where the account's generation has changed; a fault that Table 5.2 refuses to resume, a RESTART without a task and a
caller without authority answer 2; a thread that is not FAULTED answers 1; RESTART runs the held task again from its delivered
words and leaves its buffers as they are; ABORT of a thread without a task leaves it OFFLINE, of one with a task it retires
the task ABORTED, sends the thread to GETWORK, and gives the buffer of w1 back where rs2 asks for it and it is a HANDLE that
passes its checks; every other buffer stays allocated; a decision code of 3 raises ILLEGAL and an unprivileged caller
PRIVILEGE. The row names the decision (log entry 3). Where the model chose: log entries 18, 38, 50, 55, 56, 57, 245. -/
def Obligations.FaultDecisions : Prop :=
  ∀ (t : Tid) (rd rs1 rs2 : Reg) (s s₁ : State), runs s t.val s₁ → unpoisoned s₁ t.val [rs1, rs2] →
    let d := (s₁.w t.val rs2.val).val.toNat % 4
    let u := (s₁.w t.val rs1.val).val.toNat % 256
    let y := s₁.th u
    let row := fun (n : Nat) =>
      if n = 0 then Instr.fresolveResume t rd rs1 rs2
      else if n = 1 then Instr.fresolveRestart t rd rs1 rs2 else Instr.fresolveAbort t rd rs1 rs2
    let same := y.set.acct = y.acct ∧ y.set.gen = s₁.rd (F.ACCT_GEN_GEN (u / 32) y.acct)
    let frees := (s₁.w t.val rs2.val).val.toNat.testBit 2
    let rights := t.val = 192 ∨ t.val = s₁.activeSup (u / 32)
    let clear := (y.record = .none ∨ y.record = .delivered) ∧ oget s₁.sched.escHeld (u / 32) ≠ some u ∧ y.haltPend = false ∧ u ≠ t.val
    (∀ n, n < 3 →
      (d = 3 → exec (row n) s = .next (s₁.raise t.val 0x01 ((wordOf (.fresolveResume t rd rs1 rs2)).setWidth 64))) ∧
      (d ≠ 3 → s₁.priv t.val = false →
        exec (row n) s = .next (s₁.raise t.val 0x02 ((wordOf (.fresolveResume t rd rs1 rs2)).setWidth 64))) ∧
      (s₁.priv t.val = true → d = n →
        (192 ≤ u ∨ ¬ rights → ∃ s', exec (row n) s = .next s' ∧ gives t.val rd (Word.data 2) s₁ s') ∧
        (u < 192 → rights → y.life ≠ .faulted → ∃ s', exec (row n) s = .next s' ∧ gives t.val rd (Word.data 1) s₁ s') ∧
        (∀ f, u < 192 → rights → y.life = .faulted → y.fault = some f →
          (n = 0 → f.code ∈ [0x01, 0x02, 0x03, 0x07, 0x08, 0x09, 0x0A, 0x0B, 0x11, 0x12] →
            ∃ s', exec (row n) s = .next s' ∧ gives t.val rd (Word.data 2) s₁ s') ∧
          (n = 1 → y.held = none → ∃ s', exec (row n) s = .next s' ∧ gives t.val rd (Word.data 2) s₁ s') ∧
          (n = 0 → f.code = 0x0C → f.fetch = true → ∃ s', exec (row n) s = .next s' ∧ gives t.val rd (Word.data 2) s₁ s') ∧
          (n = 0 → clear →
            f.code ∈ [0x04, 0x05, 0x06, 0x0D, 0x0E, 0x0F, 0x10, 0x13] ∨ (f.code = 0x0C ∧ f.fetch = false) →
            let goes := { y with
              life := .running, fault := none, record := .none, run := 0
              pc := if f.code = 0x0C ∨ f.code = 0x10 then pcAfter y else y.pc }
            ∃ s', exec (row n) s = .next s' ∧ s' = { s₁ with threads := s'.threads } ∧ writes t.val rd (Word.data 0) s₁ s' ∧
              (s'.th t.val).pc = pcAfter (s₁.th t.val) ∧
              (f.code ∈ [0x0C, 0x0E, 0x10, 0x13] → s'.th u = goes) ∧
              (f.code = 0x0D → s'.th u = { goes with perr := none }) ∧
              (f.code = 0x0F → s'.th u = { goes with
                lostFail := if f.drain.isSome then none else y.lostFail
                tickets := if f.drain.isSome then y.tickets.map (fun k => match k with
                    | .ended w => if bits w.toNat 0 8 = 0 ∨ bits w.toNat 0 8 = 5 then k else .free
                    | _ => k)
                  else y.tickets.set (bits f.info.toNat 12 4) .free }) ∧
              (f.code ∈ [0x04, 0x05, 0x06] →
                (same → s'.th u = goes) ∧
                (¬ same → s'.th u = { goes with selB := !y.selB, setA := (s'.th u).setA, setB := (s'.th u).setB } ∧
                  (s'.th u).set = ⟨y.acct, s₁.rd (F.ACCT_GEN_GEN (u / 32) y.acct),
                    (List.range 16).map (s₁.regionOf (u / 32) y.acct)⟩ ∧
                  if y.selB then (s'.th u).setB = y.setB else (s'.th u).setA = y.setA))) ∧
          (n = 1 → clear → ∀ m x, y.held = some m → s₁.task m = some x →
            ∃ s', exec (row n) s = .next s' ∧ s' = { s₁ with threads := s'.threads } ∧ writes t.val rd (Word.data 0) s₁ s' ∧ (s'.th u).life = .running ∧
              (s'.th u).pc = y.getPc ∧ (s'.th u).run = 0 ∧ (s'.th u).perr = none ∧ (s'.th u).held = some m ∧
              ∀ i, i < 4 → s'.w u (i + 1) = (x.words[i]?).getD Word.zero) ∧
          (n = 2 → clear → y.oldProg = false → ∀ m x d, y.held = some m → s₁.task m = some x → x.domain = some d →
            s₁.domType d = 2 → x.frames = [] → (s₁.th 192).life ≠ .blocked → (s₁.th 193).life ≠ .blocked →
            let w := x.words.headD Word.zero
            let gone := ((s₁.withdraw u).endTask u 0x02).touchHandle w .free
            ∃ s', exec (row n) s = .next s' ∧ writes t.val rd (Word.data 0) s₁ s' ∧ (s'.th u).life = .idle ∧
              (s'.th u).wait = some .work ∧ (s'.th u).pc = y.getPc ∧ (s'.th u).acct = 0 ∧ (s'.th u).held = none ∧
              (s'.th u).fault = none ∧ (s'.th u).perr = none ∧ (s'.th u).cancel = false ∧ s'.task m = none ∧
              s'.sched.cpl = s₁.sched.cpl ++ [x.cplRecord m 0x02 u] ∧
              (frees = false ∨ w.kind ≠ .handle → s'.mem = s₁.mem ∧ s'.pools = s₁.pools ∧ s'.regs = s₁.regs) ∧
              (frees = true → w.kind = .handle → gone.handleCheck w .free 0 true = none →
                s'.mem = (gone.release w).mem ∧ s'.pools = (gone.release w).pools ∧ s'.regs = (gone.release w).regs) ∧
              (frees = true → w.kind = .handle → gone.handleCheck w .free 0 true ≠ none →
                s'.mem = gone.mem ∧ s'.pools = gone.pools ∧ s'.regs = gone.regs)) ∧
          (n = 2 → clear → y.held = none →
            ∃ s', exec (row n) s = .next s' ∧ writes t.val rd (Word.data 0) s₁ s' ∧ (s'.th u).life = .offline ∧
              (s'.th u).fault = none ∧ (s'.th u).perr = none ∧ (s'.th u).cancel = false))))

/-- The record of a FAULTED thread that is not its tile's active supervisor, its helper jobs complete, becomes a task of group
15 and priority 7 with the four words of Table 5.3: code, thread, account and pc; INFO; task, domain, group, flags and epoch;
the posted error, the budget counter and the failed job. That of a thread that was the active supervisor when it faulted goes
to P-core 0, whose SUPV_ESC it sets, and the role moves to the other supervisor where it still has it. -/
def Obligations.FaultRecords : Prop :=
  ∀ (t : Fin 192) (s : State) (f : FaultInfo), (s.th t.val).life = .faulted → (s.th t.val).fault = some f →
    (s.th t.val).record = .waiting → (∀ k ∈ (s.th t.val).tickets, k ≠ .out) →
    let x := s.th t.val
    let tile := t.val / 32
    let w1 := f.code * 2 ^ 56 + t.val * 2 ^ 48 + x.acct * 2 ^ 40 + f.pc
    let bit := fun (b : Bool) (n : Nat) => if b then 2 ^ n else 0
    let task := match x.held, x.held.bind s.task with
      | some m, some y => m + y.domain.getD 0 * 2 ^ 16
      | _, _ => 0
    let w3 := task + x.group * 2 ^ 28 + bit x.held.isSome 32 + bit x.selB 33 + bit (s.priv t.val) 34 + bit x.cancel 35 +
      x.epoch * 2 ^ 36
    let posted := match x.perr with
      | some e => e.status + e.cache * 2 ^ 4 + e.further * 2 ^ 8
      | none => 0
    let failed := match x.failedJob with
      | some w => bits w.toNat 0 16 * 2 ^ 48
      | none => 0
    let w4 := posted + f.used * 2 ^ 28 + if f.code = 0x0D ∧ (f.drain = some .done ∨ f.drain = some .getwork) then failed else 0
    let record : List Val := [BitVec.ofNat 64 w1, f.info, BitVec.ofNat 64 w3, BitVec.ofNat 64 w4]
    (f.sup = false → s.available (s.activeSup tile) = true → s.admits 15 = true → s.tasks.length < 65536 →
      ∃ s' n, exec (.faultRecordEnqueue t) s = .next s' ∧ s'.th t.val = { x with record := .queued n } ∧
        (∀ u, u ≠ t.val → s'.th u = s.th u) ∧ (∀ m, m ≠ n → s'.task m = s.task m) ∧
        ∃ y, s'.task n = some y ∧ y.domain = none ∧ y.prio = 7 ∧ y.group = 15 ∧ y.source = 0 ∧ y.faultOf = some t.val ∧
          y.stage = .ready s.sched.seq ∧ y.words.map Word.tag = [0, 0, 0, 0] ∧ y.words.map Word.val = record) ∧
    (f.sup = true → t.val = s.activeSup tile → s.available (s.otherSup tile) = true → s.is (F.SUPV_ESC_STAT_PENDING tile) = false →
      s.escQueue tile = [] → (s.th 192).life ≠ .blocked →
      ∃ s', exec (.faultRecordEnqueue t) s = .next s' ∧ (s'.th t.val).record = .delivered ∧ s'.tasks = s.tasks ∧
        s'.is (F.SUPV_ESC_STAT_PENDING tile) = true ∧
        (∀ k, k < 4 → ∀ v : Val, record[k]? = some v → s'.rd (F.SUPV_ESC_REC_WORD tile (2 * k)) = v.toNat % 2 ^ 32 ∧
          s'.rd (F.SUPV_ESC_REC_WORD tile (2 * k + 1)) = v.toNat / 2 ^ 32) ∧
        s'.rd (F.TILE_SUPV_ACTIVE tile) = 1 - s.rd (F.TILE_SUPV_ACTIVE tile) ∧
        s'.is (F.TILE_FAULT_STAT_SWITCHED tile) = true ∧ (s'.th 192).evpend = Nat.lor (s.th 192).evpend 0x2)

/-- What comes to a thread in time. The oldest record that waits for SUPV_ESC_REC is loaded into its eight words once PENDING
is 0, PENDING is set, and P-core 0 takes SUPV_ESC. A thread that holds a task and is RUNNING or BLOCKED raises BUDGET with its
group's LIMIT once its budget counter has reached a LIMIT other than 0; what ran past a RELAXED access is discarded. After TMO
µs of station time, at least one, a write still outstanding in a drain fails with TIMEOUT (status 0xF), its target may still
perform it, and a FENCE raises POSTED_WRITE with its address. Before its time each of them changes nothing. A completion
record that the filter lets pass is stored as one DATA word of 64 bits at SCH_CPL_BASE + 8 × WR, and WR advances modulo the
size; to a full log it is lost and counted; with none waiting nothing changes. Where the model chose: log entries 3, 26, 48,
49, 58, 65, 231. -/
def Obligations.ThreadEvents : Prop :=
  ((∀ (tile : Fin 6) (s : State),
    (s.is (F.SUPV_ESC_STAT_PENDING tile.val) = true → exec (.escRecordLoad tile) s = .next s) ∧
    ∀ u ws r, s.is (F.SUPV_ESC_STAT_PENDING tile.val) = false → s.escQueue tile.val = (u, ws) :: r → u < 192 → ws.length = 4 →
      (s.th 192).life ≠ .blocked →
      ∃ s', exec (.escRecordLoad tile) s = .next s' ∧
        s' = { s with threads := s'.threads, regs := s'.regs, sched := s'.sched } ∧ s'.escQueue tile.val = r ∧
        s'.is (F.SUPV_ESC_STAT_PENDING tile.val) = true ∧
        (∀ k, k < 4 → ∀ v : Val, ws[k]? = some v → s'.rd (F.SUPV_ESC_REC_WORD tile.val (2 * k)) = v.toNat % 2 ^ 32 ∧
          s'.rd (F.SUPV_ESC_REC_WORD tile.val (2 * k + 1)) = v.toNat / 2 ^ 32) ∧
        (s'.th u).record = .delivered ∧ (s'.th 192).evpend = Nat.lor (s.th 192).evpend 0x2) ∧
  (∀ (t : Fin 192) (s : State),
    let x := s.th t.val
    let lim := s.rd (F.GRP_BUDGET_LIMIT x.group)
    (lim = 0 ∨ x.held = none ∨ x.used < lim → exec (.budgetExpiry t) s = .next s) ∧
    (0 < lim → x.held.isSome = true → lim ≤ x.used → x.life = .running ∨ x.life = .blocked →
      (x.snapshot = none → exec (.budgetExpiry t) s = .next (s.raise t.val 0x0E (BitVec.ofNat 64 lim))) ∧
      ∀ regs pc, x.snapshot = some (regs, pc) →
        exec (.budgetExpiry t) s = .next ((s.setTh t.val { x with regs := regs, pc := pc }).raise t.val 0x0E
          (BitVec.ofNat 64 lim)))) ∧
  ∀ (t : Tid) (s : State) (p : Posted) (b : Nat), (s.th t.val).life = .blocked →
    (s.th t.val).wait = some (.drain .fence (some b)) → (s.th t.val).posted = [p] → (s.th t.val).perr = none →
    let x := s.th t.val
    let due := b + max 1 (s.rd (F.TILE_POSTED_TMO_TMO (t.val / 32))) * 1000
    (s.nowNs < due → exec (.postedDrainTimeout t) s = .next s) ∧
    (due ≤ s.nowNs → exec (.postedDrainTimeout t) s = .next ((s.setTh t.val { x with
      posted := [], limbo := x.limbo ++ [p], perr := some ⟨p.addr, 0xF, p.cache, 0⟩ }).raise t.val 0x0D
        (BitVec.ofNat 64 p.addr) false (some .fence)))) ∧
  (∀ (s : State), (s.sched.cpl = [] → exec .completionRecordStore s = .next s) ∧
    ∀ r rest, s.sched.cpl = r :: rest →
      let size := s.rd F.SCH_CPL_SIZE_SIZE
      let wr := s.rd F.SCH_CPL_WR_WR
      let k := s.rd F.SCH_CPL_BASE_ADDR / 8 * 8 + 8 * wr
      let pass := 0 < size ∧ (s.reg A.SCH_CPL_FILTER).toNat.testBit (bits r 16 8) = true
      (¬ pass → exec .completionRecordStore s = .next { s with sched := { s.sched with cpl := rest } }) ∧
      (pass → (wr + 1) % size = s.rd F.SCH_CPL_RD_RD → ∃ s', exec .completionRecordStore s = .next s' ∧
        s' = { s with regs := s'.regs, sched := { s.sched with cpl := rest } } ∧
        s'.rd F.SCH_CPL_LOST_CNT_COUNT =
          min (2 ^ F.SCH_CPL_LOST_CNT_COUNT.width - 1) (s.rd F.SCH_CPL_LOST_CNT_COUNT + 1)) ∧
      (pass → (wr + 1) % size ≠ s.rd F.SCH_CPL_RD_RD → k < 0x80000 → ∃ s', exec .completionRecordStore s = .next s' ∧
        s' = { s with regs := s'.regs, mem := s'.mem, bad := s'.bad, sched := { s.sched with cpl := rest } } ∧
        s'.word (mbusWindow + k) = Word.data (BitVec.ofNat 64 r) ∧
        (∀ j, j ≠ mbusWindow + k → s'.word j = s.word j) ∧ s'.rd F.SCH_CPL_WR_WR = (wr + 1) % size ∧
        ∀ a, a ≠ A.SCH_CPL_WR → s'.reg a = s.reg a))

/-- START of an OFFLINE thread of a core that has not failed, VCORE on, while no test of its core starts its threads: it runs
at its tile's entry with registers zero, account 0, both sets loaded from account 0 and set A selected; in its core's test it
waits to be started when the test has passed; of any other thread nothing changes. GROUP of THREAD_CFG is in effect at once
for an IDLE or OFFLINE thread, and GROUP 15 is refused to a thread that is no supervisor of its tile. A write to a region
register of an account increments the account's generation. Where the model chose: log entries 3, 50, 53, 223, 238. -/
def Obligations.ThreadControl : Prop :=
  ∀ (t : Fin 192) (s : State) (v : BitVec 32), s.mainOn = true →
    let x := s.th t.val
    let tile := t.val / 32
    let n := t.val % 32
    let img : ProtSet := ⟨0, s.rd (F.ACCT_GEN_GEN tile 0), (List.range 16).map (s.regionOf tile 0)⟩
    let e := s.rd (F.TILE_ENTRY_LO_PC tile) + s.rd (F.TILE_ENTRY_HI_PC tile) * 2 ^ 32
    let g := bits v.toNat 0 4
    (x.life ≠ .offline ∨ x.failed = true ∨ s.vcoreOn = false → exec (.threadStart t) s = .next s) ∧
    (x.life = .offline → x.failed = false → s.vcoreOn = true →
      s.rd F.ST_STATUS_STATE ≠ 4 ∨ coreOf t.val ≠ s.rd F.ST_STATUS_CORE → ∃ s', exec (.threadStart t) s = .next s' ∧
      onlyThread t.val s s' ∧ (s'.th t.val).life = .running ∧ (s'.th t.val).pc = e / 4 * 4 ∧ (s'.th t.val).acct = 0 ∧
      (s'.th t.val).selB = false ∧ (s'.th t.val).setA = img ∧ (s'.th t.val).setB = img ∧ (s'.th t.val).held = none ∧
      (s'.th t.val).run = 0 ∧ (s'.th t.val).group = x.group ∧ ∀ r, s'.w t.val r = Word.zero) ∧
    (x.life = .offline → x.failed = false → s.vcoreOn = true →
      s.rd F.ST_STATUS_STATE = 4 → coreOf t.val = s.rd F.ST_STATUS_CORE → ∃ s', exec (.threadStart t) s = .next s' ∧
        s' = { s with field := s'.field } ∧ t.val ∈ s'.field.test.idle) ∧
    (g = 15 → n ≠ s.rd (F.TILE_SUPV_PRIMARY tile) → n ≠ s.rd (F.TILE_SUPV_ALTERNATE tile) → s.inConfig = false →
      exec (.threadGroupWrite t v) s = .next s) ∧
    (g ≠ 15 → s.inConfig = false → ∃ s', exec (.threadGroupWrite t v) s = .next s' ∧
      s' = { s with threads := s'.threads, regs := s'.regs } ∧ (∀ a, a ≠ A.THREAD_CFG tile n → s'.reg a = s.reg a) ∧
      s'.rd (F.THREAD_CFG_GROUP tile n) = g ∧ s'.rd (F.THREAD_CFG_PRIV tile n) = s.rd (F.THREAD_CFG_PRIV tile n) ∧
      (∀ u, u ≠ t.val → s'.th u = s.th u) ∧
      s'.th t.val = { x with group := if x.life = .idle ∨ x.life = .offline then g else x.group }) ∧
    (∀ (ti : Fin 6) (a : Fin 64) (r : Fin 16) (k : Fin 4), ∃ s', exec (.prRegionWrite ti a r k v) s = .next s' ∧
      onlyRegs [A.ACCT_GEN ti.val a.val, A.PR_BASE_LO ti.val a.val r.val + 4 * k.val] s s' ∧
      s'.rd (F.ACCT_GEN_GEN ti.val a.val) = (s.rd (F.ACCT_GEN_GEN ti.val a.val) + 1) % 2 ^ (F.ACCT_GEN_GEN ti.val a.val).width)

/-- A delivery gives a thread that is IDLE in GETWORK the task's four words in w1 to w4, its account, budget counter 0 and the
instruction after its GETWORK, and flips the set where the task's account or that account's generation is not the active set's
source; one to a thread of a hot tile is counted. The header that the thread takes is the hardware's, with PRE_EXCHANGE set
where a commit has come since the task was enqueued; a fault record (group 15) goes as it is to the active supervisor of its
tile where that one is in group 15, and its thread's record counts as delivered. Where the model chose: log entries 66, 202. -/
def Obligations.TaskDelivery : Prop :=
  ∀ (g : Fin 16) (tile : Fin 6) (s : State) (n : Nat) (x : Task) (t : Nat), t < 192 → x.words.length = 4 →
    (g.val ≠ 15 ∧ x.faultOf = none ∧ s.firstReady (fun y => y.group == g.val) = some (n, x) ∧
        s.placeFor g.val = some (t, false)) ∨
      (g.val = 15 ∧ s.firstReady (fun y => y.group == 15 && (y.faultOf.map tileOf) == some tile.val) = some (n, x) ∧
        t = s.activeSup tile.val ∧ (s.th t).life = .idle ∧ (s.th t).wait = some .work ∧ (s.th t).group = 15 ∧
        s.drained (t / 4) = false) →
    let y := s.th t
    let img : ProtSet := ⟨x.acct, s.rd (F.ACCT_GEN_GEN (t / 32) x.acct), (List.range 16).map (s.regionOf (t / 32) x.acct)⟩
    let same := y.set.acct = x.acct ∧ y.set.gen = s.rd (F.ACCT_GEN_GEN (t / 32) x.acct)
    let ws := if x.faultOf.isSome then x.words else x.words.set 1 (x.header n (x.commits != s.sched.commits))
    ∃ s', exec (.taskDispatch g tile) s = .next s' ∧
      onlyRegs [A.SCH_HOT_DISPATCH_CNT] { s with threads := s'.threads, tasks := s'.tasks } s' ∧
      (if s.tileTherm (t / 32) = 0 then s'.regs = s.regs else counts F.SCH_HOT_DISPATCH_CNT_COUNT s s') ∧
      (∀ u, u ≠ t → s'.th u = if x.faultOf = some u then { s.th u with record := .delivered } else s.th u) ∧
      (∀ m, m ≠ n → s'.task m = s.task m) ∧ s'.task n = some { x with stage := .delivered t, words := ws } ∧
      (s'.th t).life = .running ∧ (s'.th t).wait = none ∧ (s'.th t).held = some n ∧ (s'.th t).acct = x.acct ∧
      (s'.th t).run = 0 ∧ (s'.th t).cancel = false ∧ (s'.th t).pc = y.getPc ∧
      (∀ i, i < 4 → some (s'.w t (i + 1)) = ws[i]?) ∧ (∀ r, r = 0 ∨ 5 ≤ r → s'.w t r = s.w t r) ∧
      (same → (s'.th t).setA = y.setA ∧ (s'.th t).setB = y.setB ∧ (s'.th t).selB = y.selB) ∧
      (¬ same → (s'.th t).selB = !y.selB ∧ (s'.th t).set = img ∧
        (if y.selB then (s'.th t).setB = y.setB else (s'.th t).setA = y.setA))

/-! ### Registers, pools, memories -/

/-- A software write to a register stores each field under its access code: RO keeps, RW takes, W1C clears where 1 is written,
WO stores nothing, RWC takes in CONFIG only; bits that no field names read as zero and no other register changes. It says so
of every register that does nothing else (any write to the SYS block also breaks a watchdog kick), and of those that may do
more where they have nothing more to do: a fixed voltage, a domain's type, a group's shares, the slow target, the supervisors.
What a write to each other register does beside is said for it: a layout register of a pool, the process-data windows, a
declaration, a cell link's and an uplink's enable, the watchdog's enable, a timestamp FIFO, RD of the reply queue, the total
of a forwarded read, the ring's recalibration; a write to a register that has a row of its own is that row, and without the
bits that command it stores its fields. Where no register stands, and while the main domains are off, a write changes nothing.
Where the model chose: log entries 13, 15, 71, 87, 90, 133, 144, 147, 167, 220, 240. -/
def Obligations.RegisterWrites : Prop :=
  ∀ (addr v : BitVec 32) (s : State),
    let a := addr.toNat
    let w := exec (.registerWrite addr v) s
    (s.mainOn = false ∨ regRow a = none → w = .next s) ∧
    ∀ row idx, s.mainOn = true → regRow a = some (row, idx) →
      (a / 0x10000 = 0x4003 ∨ a / 0x10000 = 0x4004 ∨ row.base = A.PWR_WAKE_EN ∨ row.base = A.PWR_WAKE_TMR → s.settleAll = s) →
      let h := a / 0x10000
      let free := ∀ c, c < 2 → (s.th (192 + c)).life ≠ .blocked
      let i := idx.headD 0
      let bit := fun (n : Nat) => v.toNat.testBit n
      let takes := fun (s' : State) => fieldsTake s.inConfig row.fields (s.reg a) v (s'.reg a)
      let plain := ∃ s', w = .next s' ∧ onlyRegs [a] s s' ∧ takes s'
      (row.base ∉ actingRegs → h ≠ 0x4000 → plain) ∧
      (row.base ∉ actingRegs → h = 0x4000 → ∃ s', w = .next s' ∧ onlyRegs [a] { s with kick := false } s' ∧ takes s') ∧
      (a = A.PWR_FIXED → s.vcoreOn = false ∨ s.rd F.PWR_VSAFE_MV ≠ 0 ∨ s.is F.TMR_REF_STOPPED = true → plain) ∧
      (h = 0x400C → (row.base = A.SCH_DOM_TYPE 0 ∧ s.tasks = []) ∨
        ((row.base = A.GRP_MIN 0 ∨ row.base = A.GRP_MAX 0) ∧ free) → plain) ∧
      (h = 0x4009 ∨ h = 0x400A → row.base = A.CLS_SLOW → free → plain) ∧
      (0x4010 ≤ h → h < 0x4016 →
        (row.base = A.TILE_SUPV 0 → s.tasks = [] → free → plain) ∧
        (row.base = A.THREAD_CTL 0 0 → bit 0 = false → w = .next s) ∧
        (∀ t : Fin 192, t.val = 32 * i + (idx.drop 1).headD 0 →
          (row.base = A.THREAD_CTL 0 0 → bit 0 = true → w = exec (.threadStart t) s) ∧
          (row.base = A.THREAD_CFG 0 0 → w = exec (.threadGroupWrite t v) s)) ∧
        ∀ (ti : Fin 6) (ac : Fin 64) (r : Fin 16) (k : Fin 4), idx = [ti.val, ac.val, r.val] →
          row.base = A.PR_BASE_LO 0 0 0 + 4 * k.val → w = exec (.prRegionWrite ti ac r k v) s) ∧
      (h = 0x4008 →
        (row.base ∈ [A.POOL_BASE_LO 0, A.POOL_BASE_HI 0, A.POOL_COUNT 0, A.POOL_META_LO 0, A.POOL_META_HI 0] →
          a ≠ A.POOL_STATUS i →
          ∃ s', w = .next s' ∧ onlyRegs [a, A.POOL_STATUS i] { s with pools := s'.pools } s' ∧
            takes s' ∧ (∀ q, q ≠ i → s'.pool q = s.pool q) ∧
            (s'.reg a = s.reg a → s'.pools = s.pools ∧ s'.reg (A.POOL_STATUS i) = s.reg (A.POOL_STATUS i)) ∧
            (s'.reg a ≠ s.reg a → s'.is (F.POOL_STATUS_READY i) = false ∧
              s'.pool i = { s.pool i with dirty := true })) ∧
        (∀ p : Fin 16, p.val = i → row.base = A.POOL_CFG 0 → w = exec (.poolEnableWrite p v) s) ∧
        (row.base = A.AUDIT_CTL → (bit 0 = true → w = exec (.auditStart v) s) ∧ (bit 0 = false →
          let period := bits v.toNat 24 8
          ∃ s', w = .next s' ∧ takes s' ∧ onlyRegs [a] { s with audit := s'.audit } s' ∧
            s'.audit = if period = s.rd F.AUDIT_CTL_PERIOD_S then s.audit
              else ⟨if period = 0 then none else some (s.nowNs + period * 1000000000)⟩))) ∧
      (h = 0x4030 → (row.base = A.MEMECC_CTRL → (bit 0 = true → w = exec (.memeccCeClear v) s) ∧ (bit 0 = false →
          ∃ s', w = .next s' ∧ takes s' ∧ onlyRegs [a] { s with scrub := s'.scrub } s' ∧
            (bit 1 = false → s'.scrub = { s.scrub with active := false }) ∧
            (bit 1 = true → s'.scrub = if s.is F.MEMECC_CTRL_INGOT_SCRUB_EN then s.scrub else ⟨true, 0, s.nowNs⟩))) ∧
        ∀ c : Fin 2, c.val = i → row.base = A.SDC_CTRL 0 →
          (bit 0 = false → bit 1 = false → bit 2 = false → ∃ s', w = .next s' ∧ takes s' ∧
            onlyRegs [a, A.SDC_STATUS i] { s with sdcInit := s'.sdcInit } s' ∧
            (s'.is (F.SDC_CTRL_POPULATED i) = true → s'.sdcInit = s.sdcInit ∧ s'.reg (A.SDC_STATUS i) = s.reg (A.SDC_STATUS i)) ∧
            (s'.is (F.SDC_CTRL_POPULATED i) = false → s'.initRuns i = false ∧ s'.is (F.SDC_STATUS_INIT_DONE i) = false ∧
              s'.is (F.SDC_STATUS_INIT_FAIL i) = false ∧ s'.is (F.SDC_STATUS_FILL_DONE i) = false ∧
              s'.rd (F.SDC_STATUS_FAIL_STEP i) = 0 ∧ s'.is (F.SDC_STATUS_SCRUB_BUSY i) = false)) ∧
          (bit 0 = true → w = exec (.initStart c v) s) ∧ (bit 1 = true → w = exec (.sdcCeClear c v) s) ∧
          (bit 2 = true → w = exec (.sdcUeClear c v) s)) ∧
      (h = 0x4000 →
        (row.base = A.SYS_WDT_KICK → w = exec (.watchdogKick v) s) ∧ (row.base = A.SYS_LC_CMD → w = exec (.lcCmd v none) s) ∧
        (row.base = A.SYS_AON_RST → w = exec (.sysAonRst v) s) ∧ (row.base = A.SYS_PCORE_RST → w = exec (.pcoreReset v) s) ∧
        (row.base = A.SYS_PCORE_CTL → (bit 1 = true → w = exec (.pcoreRun1 v) s) ∧
          (bit 1 = false → ∃ s', w = .next s' ∧ onlyRegs [a] { s with kick := false } s' ∧ takes s')) ∧
        (row.base = A.SYS_OTP_OP → v.toNat % 4 ≠ 1 → v.toNat % 4 ≠ 2 → w = .next { s with kick := false }) ∧
        (row.base = A.SYS_BOOT_TRY → bit 8 = false → bit 9 = false → bit 10 = false → w = .next { s with kick := false }) ∧
        (row.base = A.SYS_OTP_OP → v.toNat % 4 = 1 → w = exec (.revoke v) s) ∧
        (row.base = A.SYS_OTP_OP → v.toNat % 4 = 2 → w = exec (.rollbackInc v) s) ∧
        (row.base = A.SYS_BOOT_TRY → (bit 8 = true → w = exec (.confirm v) s) ∧ (bit 9 = true → w = exec (.clearA v) s) ∧
          (bit 10 = true → w = exec (.clearB v) s)) ∧
        (a = A.SYS_WDT_CTL → ∃ s', w = .next s' ∧ onlyRegs [a] { s with kick := false } s' ∧
          (s.is F.SYS_WDT_CTL_EN = true → s'.is F.SYS_WDT_CTL_EN = true) ∧
          (s.is F.SYS_WDT_CTL_EN = false → takes s'))) ∧
      (h = 0x4009 ∨ h = 0x400A →
        (row.base = A.PRS_BANK → w = exec (.prsBankSwitch v 0) s) ∧
        (row.base = A.PRS_CMD →
          w = exec (if bit 9 then .prsCmdRead (v.setWidth 8) (bit 8) else .prsCmdCommit (v.setWidth 8) (bit 8)) s) ∧
        (row.base = A.CLS_COMMIT → w = if bit 0 then exec .clsCommit s else .next s) ∧
        (row.base = A.CLS_FRAG_CTL → (bit 8 = true → w = exec (.fragFlush v) s) ∧ (bit 8 = false → plain)) ∧
        ∀ k : Fin 16, k.val = i → row.base = A.RULE_W 0 → w = exec (.ruleWordWrite k v) s) ∧
      (0x4020 ≤ h → h ≤ 0x4022 →
        (row.base = A.RING_CTL → (bit 1 = true → w = exec (.join v) s) ∧ (bit 2 = true → w = exec (.leave v) s) ∧
          (bit 1 = false → bit 2 = false → plain)) ∧
        (row.base = A.PDM_RX 0 ∨ row.base = A.PDM_TX 0 →
          let m := i + if row.base = A.PDM_TX 0 then 64 else 0
          let on := tget (fun _ => false) s.dict.armed m
          ∃ s', w = .next s' ∧ onlyRegs [a, A.DICT_PD_SKIP_CNT] { s with dict := s'.dict } s' ∧ takes s' ∧
            (on = false → s'.dict = s.dict ∧ onlyRegs [a] s s') ∧
            (on = true → counts F.DICT_PD_SKIP_CNT_COUNT s s' ∧
              s'.dict = { s.dict with armed := tset (fun _ => false) s.dict.armed m false })) ∧
        (∀ m : Fin 64, m.val = i → row.base = A.PDM_TX_BANK 0 → w = if bit 8 then exec (.pdmTxCommit m) s else .next s) ∧
        (∀ (u : Fin 2) (tx : Bool), idx = [u.val, if tx then 1 else 0] → row.base = A.TS_STAT 0 0 →
          w = if bit 16 then exec (.tsPop u tx) s else .next s) ∧
        (row.base = A.UPL_CTL 0 → a = A.UPL_CTL i → i < 2 → s.is (F.UPL_STATUS_UP i) = false →
          ∃ s', w = .next s' ∧
            (s'.uplUp i = false → onlyRegs [a] s s' ∧ takes s') ∧
            (s'.uplUp i = true → s'.is (F.UPL_STATUS_UP i) = true ∧ s'.is (F.UPL_STATUS_LINK_CHG i) = true ∧
              offers 0x04 0x01 ((64 + i) * 256 + 1) s s')) ∧
        (row.base = A.UPL_CTL 0 → a = A.UPL_CTL i → i < 2 → s.is (F.UPL_STATUS_UP i) = true →
          ∃ s', w = .next s' ∧ (s'.uplUp i = false → s'.is (F.UPL_STATUS_UP i) = false ∧
              s'.is (F.UPL_STATUS_LINK_CHG i) = true ∧ s'.txOf (64 + i) = PortQ.empty ∧ offers 0x04 0x01 ((64 + i) * 256) s s') ∧
            (s'.uplUp i = true → s.is (F.UPL_CTL_PAUSE_TX_EN i) = true ∨ s'.is (F.UPL_CTL_PAUSE_TX_EN i) = false →
              onlyRegs [a] s s' ∧ takes s')) ∧
        (row.base = A.CL_CTL 0 → a = A.CL_CTL i → i < 48 → s.rd (F.CL_STATUS_STATE i) = 0 →
          ∃ s', w = .next s' ∧ onlyRegs [a] { s with out := s'.out } s' ∧ takes s' ∧
            s'.out = s.out ++ if s'.is (F.CL_CTL_EN i) = true ∧ s.is (F.CL_CTL_EN i) = false
              then [Output.cell i [.idle0]] else []) ∧
        (row.base = A.CL_CTL 0 → a = A.CL_CTL i → i < 48 → s.rd (F.CL_STATUS_STATE i) ≠ 0 → ∃ s', w = .next s' ∧
          (s'.is (F.CL_CTL_EN i) = false → s'.rd (F.CL_STATUS_STATE i) = 0 ∧ s'.txOf i = PortQ.empty) ∧
          (s'.is (F.CL_CTL_EN i) = true → s.is (F.CL_CTL_EN i) = true → onlyRegs [a] s s' ∧ takes s'))) ∧
      (h = 0x4040 ∨ h = 0x4041 →
        (row.base = A.DICT_STATE_CMD → ∀ e ∈ ([(1, .stateCmdConfig), (2, .stateCmdRun), (3, .stateCmdHold), (4, .stateCmdSafe),
          (5, .stateCmdStandby)] : List (Nat × Instr)), v.toNat % 8 = e.1 → w = exec e.2 s) ∧
        (row.base = A.DICT_STATE_CMD → v.toNat % 8 = 0 ∨ 5 < v.toNat % 8 →
          ∃ s', w = .next s' ∧ onlyRegs [a] s s' ∧ s'.rd F.DICT_STATE_CMD_RESULT = 6) ∧
        (row.base = A.DICT_FWD_TOTAL → w = .next { s with dict := { s.dict with total := v.toNat } }) ∧
        (row.base = A.DICT_RPL_RD → ∃ s', w = .next s' ∧ onlyRegs [a] { s with dict := s'.dict } s' ∧ takes s' ∧
          (s.dict.leaving = [] → s'.dict = s.dict) ∧
          ∀ kind k, s.dict.leaving = [⟨.reset kind, 2, k⟩] →
            let size := s.rd F.DICT_RPL_SIZE_SIZE
            let behind := fun (n : Nat) => (n + size - s'.rd F.DICT_RPL_RD_RD) % size
            s'.dict = if behind (s.rd F.DICT_RPL_WR_WR) ≤ behind k
              then { s.dict with leaving := [], reset := s.dict.reset ++ [(kind, s.nowNs)] } else s.dict) ∧
        (row.base = A.DICT_SUB_GO → w = if bit 0 then exec .subGo s else .next s) ∧
        (row.base = A.DICT_FWD_POP → w = if bit 0 then exec .fwdPop s else .next s) ∧
        (row.base = A.DICT_FWD_RESP → w = exec (.fwdResp v) s) ∧
        (row.base = A.DECL_1 0 → ∃ s', w = .next s' ∧ onlyRegs [a] s s' ∧
          fieldsTake s.inConfig row.fields (s.reg a) ((v ||| 0x4000) &&& 0xFFFF7FFF) (s'.reg a))) ∧
      (h = 0x4002 ∨ h = 0x4003 →
        (∀ k : Fin 32, k.val = i →
          (row.base = A.TMR_CTL 0 → (bit 1 = true → w = exec (.timerClear k v) s) ∧
            (bit 1 = false → s.settleTimer i = s → plain)) ∧
          (row.base = A.TMR_CMP_A_LO 0 → w = exec (.cmpLoWrite k false v) s) ∧
          (row.base = A.TMR_CMP_A_HI 0 → w = exec (.cmpHiWrite k false v) s) ∧
          (row.base = A.TMR_CMP_B_LO 0 → w = exec (.cmpLoWrite k true v) s) ∧
          (row.base = A.TMR_CMP_B_HI 0 → w = exec (.cmpHiWrite k true v) s)) ∧
        (∀ k : Fin 64, k.val = i → row.base = A.CAP_CTL 0 → w = exec (.capInvertWrite k v) s) ∧
        (row.base = A.REC_CMD → (v.toNat % 4 = 1 → w = exec .freeze s) ∧ (v.toNat % 4 = 2 → w = exec .unfreeze s) ∧
          (v.toNat % 4 = 0 → w = .next s) ∧ (v.toNat % 4 = 3 → w = exec .unfreeze s)) ∧
        (row.base = A.REC_RD_SEL → w = exec (.recRdSelWrite v) s)) ∧
      (h = 0x4050 ∨ h = 0x4060 →
        (row.base = A.ST_CTL → w = exec (.coreTestStart (v.setWidth 6)) s) ∧
        (row.base = A.EXCH_CTL → w = if bit 0 then exec .exchCommit s else .next s) ∧
        (row.base = A.EXCH_PC_CTL → w =
          if bit 0 then exec (.pcoreExchangeGo v) s else .next { s with field := { s.field with task4Lo := v } }) ∧
        (row.base = A.EXCH_PC_STAT → ∃ s', w = .next s' ∧ takes s' ∧
          onlyRegs [a] { s with field := { s.field with task4Hi := v.setWidth 8 } } s') ∧
        (row.base = A.UART_DATA → w = exec (.uartDataWrite v) s) ∧
        (row.base = A.I2C_CMD → (bit 31 = true → w = exec (.i2cGo v) s) ∧ (bit 31 = false → plain)) ∧
        (row.base = A.ST_RING_CAL → (bit 0 = false → plain) ∧ (bit 0 = true → ∃ s', w = .next s' ∧ onlyRegs [a] s s' ∧
          (2 ≤ s.rd F.RING_STATUS_STATE → s'.is F.ST_RING_CAL_REFUSED = true) ∧
          (s.rd F.RING_STATUS_STATE < 2 → s'.is F.ST_RING_CAL_BUSY = true))))

/-- ENABLE from 0 to 1 of a pool that is not built and not being built starts its build where the layout passes the checks of
Table 6.1, and else sets CFG_ERR with the first cause and offers a recorder entry. A build ends with every buffer free, of
generation 0 and linked to the next, the counts as built and no other word changed, and READY set unless the layout has
changed since the build began; none ends without VCORE, or while its channel does not answer. The leak audit, with no error in
memory. A sweep only ever sets SAT, and sets it on each buffer of an audited built pool that is allocated and 65,535 ms old.
START clears the counts of every account and sets BUSY; the expiry of a period starts a scan unless one runs and counts the
next period from it; a scan without a selected pool ends with DONE. A scan over any number of selected pools and buffers finds
the allocated buffers over their owners' thresholds: it counts each for its owner, keeps the greatest age with the handle that
first reached it, writes their audit words one behind the other while there is room, sets TRUNC for those without room,
changes no other word and ends with DONE. Where the model chose: log entries 3, 71, 73, 190, 200, 224, 225, 226, 229. -/
def Obligations.PoolUpkeep : Prop :=
  (∀ (p : Fin 16) (s : State),
    (∀ v : BitVec 32, s.mainOn = true → s.pool p.val = ⟨none, none, (s.pool p.val).head, true⟩ →
      s.is (F.POOL_CFG_ENABLE p.val) = false → v.toNat.testBit 0 = true → s.inConfig = false →
      let l := s.layoutOf p.val
      let c := s.layoutCheck p.val l
      ∃ s', exec (.poolEnableWrite p v) s = .next s' ∧ s'.is (F.POOL_CFG_ENABLE p.val) = true ∧
        s'.is (F.POOL_STATUS_READY p.val) = false ∧
        onlyRegs [A.POOL_CFG p.val, A.POOL_STATUS p.val, A.REC_LOST]
          { s with recorder := s'.recorder, pools := s'.pools } s' ∧
        (c = 0 → s'.is (F.POOL_STATUS_BUILDING p.val) = true ∧ s'.is (F.POOL_STATUS_CFG_ERR p.val) = false ∧
          (s'.pool p.val).building = some l ∧ s'.recorder = s.recorder) ∧
        (c ≠ 0 → s'.is (F.POOL_STATUS_CFG_ERR p.val) = true ∧ s'.rd (F.POOL_STATUS_ERR_CAUSE p.val) = c ∧
          (s'.pool p.val).building = none ∧
          (s.recorder.frozen = false → s.recorder.offered.length < 64 →
            s'.recorder.offered = s.recorder.offered ++ [⟨0x06, 0x01, p.val * 256 + c⟩]))) ∧
    ((s.pool p.val).building = none → exec (.poolBuildDone p) s = .next s) ∧
    (∀ l, (s.pool p.val).building = some l → s.vcoreOn = false ∨ s.poolAnswers p.val l = false →
      exec (.poolBuildDone p) s = .next s) ∧
    (∀ l, (s.pool p.val).building = some l → s.vcoreOn = true → s.poolAnswers p.val l = true → l.meta_ + 8 * l.count ≤ mbusWindow → l.count ≤ 1048576 →
      s.is (F.UPL_CTL_PAUSE_TX_EN 0) = false → s.is (F.UPL_CTL_PAUSE_TX_EN 1) = false →
      ∃ s', exec (.poolBuildDone p) s = .next s' ∧
        s' = { s with regs := s'.regs, pools := s'.pools, mem := s'.mem, bad := s'.bad } ∧
        s'.pool p.val = { s.pool p.val with built := some l, building := none, head := 0 } ∧
        (∀ q, q ≠ p.val → s'.pool q = s.pool q) ∧
        (∀ i, i < l.count → s'.word (l.meta_ + 8 * i) =
          Word.data (BitVec.ofNat 64 (if i + 1 < l.count then i + 1 else 0xFFFFFFFF))) ∧
        (∀ k, (∀ i, i < l.count → k ≠ l.meta_ + 8 * i) → s'.word k = s.word k) ∧
        s'.is (F.POOL_STATUS_BUILDING p.val) = false ∧ s'.is (F.POOL_STATUS_READY p.val) = !(s.pool p.val).dirty ∧
        s'.rd (F.POOL_FREE_FREE p.val) = l.count ∧ s'.rd (F.POOL_RETIRED_COUNT p.val) = 0)) ∧
  (∀ (s : State),
    (s.bad = [] → ∃ s', exec .ageSweep s = .next s' ∧ s' = { s with mem := s'.mem } ∧
      (∀ k, s'.word k = s.word k ∨ s'.word k = Word.data ((s.word k).val ||| BitVec.ofNat 64 (2 ^ 47))) ∧
      ∀ p l i, p < 16 → s.rd (F.POOL_CFG_MODE p) ≠ 2 → (s.pool p).built = some l → i < l.count →
        l.meta_ + 8 * l.count ≤ mbusWindow → mAlloc (s.metaOf l i) = true → ageOf s.nowMs (s.metaOf l i) = 65535 →
        mSat (s'.metaOf l i) = true) ∧
    (∀ v : BitVec 32, s.mainOn = true → s.is F.AUDIT_CTL_BUSY = false →
      ∃ s', exec (.auditStart v) s = .next s' ∧ s' = { s with regs := s'.regs, audit := s'.audit } ∧
        s'.is F.AUDIT_CTL_BUSY = true ∧ s'.rd F.AUDIT_CTL_PERIOD_S = bits v.toNat 24 8 ∧
        s'.rd F.AUDIT_WRITTEN_COUNT = 0 ∧ s'.is F.AUDIT_WRITTEN_TRUNC = false ∧
        (bits v.toNat 24 8 = s.rd F.AUDIT_CTL_PERIOD_S → s'.audit = s.audit) ∧
        (bits v.toNat 24 8 ≠ s.rd F.AUDIT_CTL_PERIOD_S → s'.audit.next =
          if bits v.toNat 24 8 = 0 then none else some (s.nowNs + bits v.toNat 24 8 * 1000000000)) ∧
        ∀ a, a < 64 → s'.rd (F.AUD_OLD_COUNT a) = 0 ∧ s'.rd (F.AUD_MAXAGE_AGE a) = 0 ∧ s'.rd (F.AUD_OLDEST_HANDLE a) = 0) ∧
    (s.audit.next = none ∨ (∃ n, s.audit.next = some n ∧ s.nowNs < n) → exec .auditPeriodExpiry s = .next s) ∧
    (∀ n, s.audit.next = some n → n ≤ s.nowNs → ∃ s', exec .auditPeriodExpiry s = .next s' ∧
      s' = { s with regs := s'.regs, audit := ⟨some (n + s.rd F.AUDIT_CTL_PERIOD_S * 1000000000)⟩ } ∧
      s'.is F.AUDIT_CTL_BUSY = true ∧ (s.is F.AUDIT_CTL_BUSY = true → s'.regs = s.regs)) ∧
    (s.is F.AUDIT_CTL_BUSY = false → exec .auditScanDone s = .next s) ∧
    (s.is F.AUDIT_CTL_BUSY = true → s.rd F.AUDIT_POOLS_MASK = 0 → ∃ s', exec .auditScanDone s = .next s' ∧
      onlyRegs [A.AUDIT_CTL] s s' ∧ s'.is F.AUDIT_CTL_BUSY = false ∧ s'.is F.AUDIT_CTL_DONE = true) ∧
    (∀ p l, p < 16 → s.is F.AUDIT_CTL_BUSY = true → s.rd F.AUDIT_POOLS_MASK = 2 ^ p → s.rd (F.POOL_CFG_MODE p) ≠ 2 →
      (s.pool p).built = some l → l.count = 1 → tget eccDefault s.bad l.meta_ = .good → s.rd F.AUDIT_WRITTEN_COUNT = 0 →
      let m := s.metaOf l 0
      let a := bits m 50 6
      let age := ageOf s.nowMs m
      let h := p * 2 ^ 28 + bits m 56 8 * 2 ^ 20
      let k := s.rd F.AUDIT_DST_ADDR / 8 * 8
      mAlloc m = true → s.rd (F.AUD_THR_THR a) ≤ age → 0 < s.rd F.AUDIT_MAX_MAX → k < 0x80000 →
      ∃ s', exec .auditScanDone s = .next s' ∧ s' = { s with regs := s'.regs, mem := s'.mem, bad := s'.bad } ∧
        s'.rd (F.AUD_OLD_COUNT a) = (s.rd (F.AUD_OLD_COUNT a) + 1) % 2 ^ 21 ∧
        s'.rd (F.AUD_MAXAGE_AGE a) = max (s.rd (F.AUD_MAXAGE_AGE a)) age ∧
        (s.rd (F.AUD_MAXAGE_AGE a) < age → s'.rd (F.AUD_OLDEST_HANDLE a) = h) ∧
        s'.word (mbusWindow + k) = Word.data (BitVec.ofNat 64 (h * 2 ^ 32 + age * 2 ^ 16 + a * 2 ^ 8)) ∧
        (∀ j, j ≠ mbusWindow + k → s'.word j = s.word j) ∧ s'.rd F.AUDIT_WRITTEN_COUNT = 1 ∧
        s'.is F.AUDIT_CTL_BUSY = false ∧ s'.is F.AUDIT_CTL_DONE = true) ∧
    (∀ p l, p < 16 → s.is F.AUDIT_CTL_BUSY = true → s.rd F.AUDIT_POOLS_MASK = 2 ^ p → s.rd (F.POOL_CFG_MODE p) ≠ 2 →
      (s.pool p).built = some l → l.count = 1 → tget eccDefault s.bad l.meta_ = .good → mAlloc (s.metaOf l 0) = true →
      s.rd (F.AUD_THR_THR (bits (s.metaOf l 0) 50 6)) ≤ ageOf s.nowMs (s.metaOf l 0) →
      s.rd F.AUDIT_MAX_MAX ≤ s.rd F.AUDIT_WRITTEN_COUNT →
      ∃ s', exec .auditScanDone s = .next s' ∧ s' = { s with regs := s'.regs } ∧ s'.is F.AUDIT_WRITTEN_TRUNC = true ∧
        s'.rd F.AUDIT_WRITTEN_COUNT = s.rd F.AUDIT_WRITTEN_COUNT ∧
        s'.rd (F.AUD_OLD_COUNT (bits (s.metaOf l 0) 50 6)) = (s.rd (F.AUD_OLD_COUNT (bits (s.metaOf l 0) 50 6)) + 1) % 2 ^ 21 ∧
        s'.is F.AUDIT_CTL_BUSY = false ∧ s'.is F.AUDIT_CTL_DONE = true) ∧
    (s.is F.AUDIT_CTL_BUSY = true →
      (∀ p l i, p < 16 → (s.rd F.AUDIT_POOLS_MASK).testBit p = true → s.rd (F.POOL_CFG_MODE p) ≠ 2 → (s.pool p).built = some l →
        i < l.count → l.meta_ + 8 * i < mbusWindow ∧ tget eccDefault s.bad (l.meta_ + 8 * i) = .good) →
      let age := fun (m : Nat) => ageOf s.nowMs m
      let found : List (Nat × Nat × Nat) := (List.range 16).flatMap (fun p => match (s.pool p).built with
        | some l => if (s.rd F.AUDIT_POOLS_MASK).testBit p = true ∧ s.rd (F.POOL_CFG_MODE p) ≠ 2
          then (List.range l.count).filterMap (fun i =>
            let m := s.metaOf l i
            if mAlloc m = true ∧ s.rd (F.AUD_THR_THR (bits m 50 6)) ≤ age m
              then some (bits m 50 6, age m, p * 2 ^ 28 + bits m 56 8 * 2 ^ 20 + i) else none)
          else []
        | none => [])
      let n := s.rd F.AUDIT_WRITTEN_COUNT
      let top := s.rd F.AUDIT_MAX_MAX
      let place := fun (j : Nat) => s.rd F.AUDIT_DST_ADDR / 8 * 8 + 8 * (n + j)
      ∃ s', exec .auditScanDone s = .next s' ∧ s' = { s with regs := s'.regs, mem := s'.mem, bad := s'.bad } ∧
        (∀ a, a < 64 →
          let mine := found.filter (fun x => x.1 == a)
          let most := mine.foldl (fun m x => max m x.2.1) (s.rd (F.AUD_MAXAGE_AGE a))
          s'.rd (F.AUD_OLD_COUNT a) = (s.rd (F.AUD_OLD_COUNT a) + mine.length) % 2 ^ 21 ∧ s'.rd (F.AUD_MAXAGE_AGE a) = most ∧
            (s.rd (F.AUD_MAXAGE_AGE a) = most → s'.rd (F.AUD_OLDEST_HANDLE a) = s.rd (F.AUD_OLDEST_HANDLE a)) ∧
            (s.rd (F.AUD_MAXAGE_AGE a) < most →
              (mine.find? (fun x => x.2.1 == most)).map (fun x => x.2.2) = some (s'.rd (F.AUD_OLDEST_HANDLE a)))) ∧
        s'.rd F.AUDIT_WRITTEN_COUNT = max n (min top (n + found.length)) ∧
        s'.is F.AUDIT_WRITTEN_TRUNC = (s.is F.AUDIT_WRITTEN_TRUNC || decide (max n top < n + found.length)) ∧
        (∀ j x, found[j]? = some x → n + j < top → place j < 0x80000 →
          s'.word (mbusWindow + place j) = Word.data (BitVec.ofNat 64 (x.2.2 * 2 ^ 32 + x.2.1 * 2 ^ 16 + x.1 * 2 ^ 8))) ∧
        (∀ w, (∀ j, j < found.length → n + j < top → w ≠ mbusWindow + place j) → s'.word w = s.word w) ∧
        s'.is F.AUDIT_CTL_BUSY = false ∧ s'.is F.AUDIT_CTL_DONE = true))

/-- The ingot scrubber reads its next word once its time has come and goes on to the next: a good word stays, a correctable
error is corrected and counted, an uncorrectable one is rewritten as POISON with cause 0x10 and its address; before its time
nothing changes. The patrol scrubber of a channel reads each populated word once in a pass, the same with cause 0x14 plus the
channel, keeps SCRUB_BUSY until the pass's last word, which the command says of its word, and begins its next pass PERIOD_H
hours after the beginning of this one. INIT_START runs Sequence 2.1 of a populated channel in CONFIG that has neither ended
nor failed since the last reset of the main domains; its end sets INIT_DONE, or INIT_FAIL with the step and offers a recorder
entry, neither of them while the 25 MHz reference is lost; the fill leaves every word of the channel at value 0 with tag DATA,
every other word as it was, sets FILL_DONE and begins the patrol's first pass. A write that leaves POPULATED 0 leaves
INIT_DONE, INIT_FAIL, FILL_DONE and SCRUB_BUSY 0, but a failed channel stays failed. CE_CLEAR and UE_CLEAR clear their counts,
and CE_CLEAR of MEMECC_CTRL its own. Where the model chose: log entries 3, 33, 34, 36, 190, 219, 220. -/
def Obligations.MemoryUpkeep : Prop :=
  ((∀ (s : State), s.scrub.pos + 8 < 16777216 →
    let due := s.scrub.active = true ∧ s.scrub.pos * hourNs ≤ ((s.nowNs : Int) - s.scrub.start) * 16777216
    let k := s.scrub.pos
    (¬ due → exec .ingotScrubRead s = .next s) ∧
    (due → tget eccDefault s.bad k = .good →
      exec .ingotScrubRead s = .next { s with scrub := { s.scrub with pos := k + 8 } }) ∧
    (due → tget eccDefault s.bad k = .correctable → ∃ s', exec .ingotScrubRead s = .next s' ∧ s'.scrub.pos = k + 8 ∧
      s'.mem = s.mem ∧ tget eccDefault s'.bad k = .good ∧ s'.rd (memeccBit false 0) = 1 ∧
      s'.rd F.MEMECC_CE_COUNT_COUNT = min (2 ^ 32 - 1) (s.rd F.MEMECC_CE_COUNT_COUNT + 1)) ∧
    (due → tget eccDefault s.bad k = .uncorrectable → s.pools = [] → ∃ s', exec .ingotScrubRead s = .next s' ∧
      s'.scrub.pos = k + 8 ∧ tget eccDefault s'.bad k = .good ∧ s'.rd (memeccBit true 0) = 1 ∧
      s'.word k = ⟨Tag.ofCause 0x10, BitVec.ofNat 64 k⟩ ∧ ∀ j, j ≠ k → s'.word j = s.word j)) ∧
  ∀ (c : Fin 2) (off : BitVec 35) (last : Bool) (s : State),
    let on := s.is (F.SDC_SCRUB_ENABLE c.val) = true ∧ off.toNat % 8 = 0 ∧ off.toNat < s.sdCapacity c.val ∧
      s.is (F.SDC_STATUS_FILL_DONE c.val) = true ∧ s.is F.TMR_REF_REF25_OK = true
    let k := sdBase c.val + off.toNat
    let p := s.patrolOf c.val
    let ended := s.sdCapacity c.val ≤ 8 * p.seen.length
    let due := if ended then p.start + s.patrolNs c.val ≤ s.nowNs else tget (fun _ => false) p.seen off.toNat = false
    let seen := tset (fun _ => false) (if ended then [] else p.seen) off.toNat true
    let agrees := last = decide (s.sdCapacity c.val ≤ 8 * seen.length)
    let reads := fun (s' : State) =>
      s'.patrolOf c.val = ⟨if ended then p.start + s.patrolNs c.val else p.start, seen⟩ ∧
      (∀ d, d ≠ c.val → s'.patrolOf d = s.patrolOf d) ∧
      s'.is (F.SDC_STATUS_SCRUB_BUSY c.val) = !last
    (¬ on ∨ ¬ due ∨ ¬ agrees → exec (.sdramPatrolScrub c off last) s = .next s) ∧
    (on → due → agrees → tget eccDefault s.bad k = .good → ∃ s', exec (.sdramPatrolScrub c off last) s = .next s' ∧ reads s' ∧
      onlyRegs [A.SDC_STATUS c.val] { s with patrols := s'.patrols } s') ∧
    (on → due → agrees → tget eccDefault s.bad k = .correctable → ∃ s', exec (.sdramPatrolScrub c off last) s = .next s' ∧ reads s' ∧
      s'.mem = s.mem ∧ tget eccDefault s'.bad k = .good ∧ counts (F.SDC_CE_COUNT_COUNT c.val) s s') ∧
    (on → due → agrees → tget eccDefault s.bad k = .uncorrectable → s.pools = [] →
      ∃ s', exec (.sdramPatrolScrub c off last) s = .next s' ∧ reads s' ∧
        s'.word k = ⟨Tag.ofCause (0x14 + c.val), BitVec.ofNat 64 k⟩ ∧ (∀ j, j ≠ k → s'.word j = s.word j) ∧
        counts (F.SDC_UE_COUNT_COUNT c.val) s s' ∧
        (s.rd (F.SDC_UE_COUNT_COUNT c.val) = 0 →
          s'.rd (F.SDC_UE_ADDR_LO_ADDR c.val) + s'.rd (F.SDC_UE_ADDR_HI_ADDR c.val) * 2 ^ 32 = k))) ∧
  (∀ (c : Fin 2) (v : BitVec 32) (s : State), s.mainOn = true →
    let pop := if s.inConfig then v.toNat.testBit 4 else s.is (F.SDC_CTRL_POPULATED c.val)
    (pop = false → ∃ s', exec (.initStart c v) s = .next s' ∧ s'.initRuns c.val = false ∧
      s'.is (F.SDC_STATUS_INIT_DONE c.val) = false ∧ s'.is (F.SDC_STATUS_INIT_FAIL c.val) = false ∧
      s'.is (F.SDC_STATUS_FILL_DONE c.val) = false ∧ s'.is (F.SDC_STATUS_SCRUB_BUSY c.val) = false ∧
      s'.initDead c.val = s.initDead c.val) ∧
    (s.initDead c.val = true → s.initRuns c.val = false → ∃ s', exec (.initStart c v) s = .next s' ∧
      s'.initRuns c.val = false) ∧
    (s.inConfig = true → s.is (F.SDC_STATUS_INIT_DONE c.val) = false → s.initDead c.val = false →
      v.toNat.testBit 4 = true → ∃ s', exec (.initStart c v) s = .next s' ∧ s'.initRuns c.val = true ∧
        s'.is (F.SDC_CTRL_POPULATED c.val) = true ∧ s'.rd (F.SDC_CTRL_DENSITY c.val) = bits v.toNat 8 2) ∧
    (pop = true → s.inConfig = false → v.toNat.testBit 1 = false → v.toNat.testBit 2 = false → ∃ s', exec (.initStart c v) s = .next s' ∧
      onlyRegs [A.SDC_CTRL c.val] s s') ∧
    (s.initRuns c.val = false ∨ s.is F.TMR_REF_REF25_OK = false → ∀ f, exec (.sdramInitDone c f) s = .next s) ∧
    (s.initRuns c.val = true → s.is F.TMR_REF_REF25_OK = true → ∃ s', exec (.sdramInitDone c none) s = .next s' ∧ s'.initRuns c.val = false ∧
      onlyRegs [A.SDC_STATUS c.val] { s with sdcInit := s'.sdcInit } s' ∧ s'.is (F.SDC_STATUS_INIT_DONE c.val) = true) ∧
    (s.initRuns c.val = true → s.is F.TMR_REF_REF25_OK = true → ∀ k : Fin 8, s.recorder.frozen = false → s.recorder.offered.length < 64 →
      ∃ s', exec (.sdramInitDone c (some k)) s = .next s' ∧ s'.initRuns c.val = false ∧
        onlyRegs [A.SDC_STATUS c.val] { s with sdcInit := s'.sdcInit, sdcDead := s'.sdcDead, recorder := s'.recorder } s' ∧
        s'.initDead c.val = true ∧ s'.is (F.SDC_STATUS_INIT_FAIL c.val) = true ∧ s'.rd (F.SDC_STATUS_FAIL_STEP c.val) = k.val ∧
        s'.recorder.offered = s.recorder.offered ++ [⟨0x00, 0x24, c.val * 256 + k.val⟩]) ∧
    (s.is (F.SDC_STATUS_INIT_DONE c.val) = false ∨ s.is (F.SDC_STATUS_FILL_DONE c.val) = true ∨ s.is F.TMR_REF_REF25_OK = false →
      exec (.sdramFillDone c) s = .next s) ∧
    (s.is (F.SDC_STATUS_INIT_DONE c.val) = true → s.is (F.SDC_STATUS_FILL_DONE c.val) = false → s.is F.TMR_REF_REF25_OK = true →
      ∃ s', exec (.sdramFillDone c) s = .next s' ∧
        onlyRegs [A.SDC_STATUS c.val] { s with mem := s'.mem, bad := s'.bad, patrols := s'.patrols } s' ∧
        s'.is (F.SDC_STATUS_FILL_DONE c.val) = true ∧ s'.is (F.SDC_STATUS_SCRUB_BUSY c.val) = false ∧ s'.patrolOf c.val = ⟨s.nowNs, []⟩ ∧
        ∀ k, s'.word k = if sdBase c.val ≤ k ∧ k < sdBase c.val + 0x800000000 then Word.zero else s.word k) ∧
    (pop = true → v.toNat.testBit 0 = false → v.toNat.testBit 2 = false → ∃ s', exec (.sdcCeClear c v) s = .next s' ∧
      onlyRegs [A.SDC_CTRL c.val, A.SDC_CE_COUNT c.val] s s' ∧ s'.rd (F.SDC_CE_COUNT_COUNT c.val) = 0) ∧
    (pop = true → v.toNat.testBit 0 = false → v.toNat.testBit 1 = false → ∃ s', exec (.sdcUeClear c v) s = .next s' ∧
      onlyRegs [A.SDC_CTRL c.val, A.SDC_UE_COUNT c.val, A.SDC_UE_ADDR_LO c.val, A.SDC_UE_ADDR_HI c.val] s s' ∧
      s'.rd (F.SDC_UE_COUNT_COUNT c.val) = 0 ∧ s'.rd (F.SDC_UE_ADDR_LO_ADDR c.val) = 0 ∧
      s'.rd (F.SDC_UE_ADDR_HI_ADDR c.val) = 0) ∧
    (∃ s', exec (.memeccCeClear v) s = .next s' ∧
      onlyRegs [A.MEMECC_CE_COUNT, A.MEMECC_CTRL] { s with scrub := s'.scrub } s' ∧
      s'.rd F.MEMECC_CE_COUNT_COUNT = 0 ∧ s'.is F.MEMECC_CTRL_INGOT_SCRUB_EN = v.toNat.testBit 1 ∧
      (v.toNat.testBit 1 = false → s'.scrub = { s.scrub with active := false }) ∧
      (v.toNat.testBit 1 = true → s.is F.MEMECC_CTRL_INGOT_SCRUB_EN = true → s'.scrub = s.scrub) ∧
      (v.toNat.testBit 1 = true → s.is F.MEMECC_CTRL_INGOT_SCRUB_EN = false → s'.scrub = ⟨true, 0, s.nowNs⟩)))

/-! ### Station time, timers, capture -/

/-- A cycle of the source advances station time by 40 ns × (1 + T ppb) on the reference and by 30,517.578125 ns × (1 + (T − X)
ppb) on the crystal, in units of 1 / (64 × 10⁹) ns, and not at all with neither; an enabled timer with no match due counts the
whole quotients of its divisor, and an armed compare that its COUNT has reached is due from then on; a timer that is not
enabled stands; the budget counter of a thread that holds a task and is RUNNING, BLOCKED or FAULTED advances with it; an error
that arises meanwhile is latent in its word. The flags of the two sources: each becomes 1 when its source qualifies and 0 when
it is lost; with the reference back, every enabled cell link that is DOWN sends IDLE_0 again; STOPPED is 1 while neither is
good; the loss of the reference leaves every uplink and cell link DOWN (their transmit queues empty before). At the end of a
whole second throughout which both were good, and not before, the crystal's measured offset is stored as valid. Where the
model chose: log entries 3, 137, 138, 139. -/
def Obligations.StationTimeAndSources : Prop :=
  (∀ (s : State),
    let ref := s.is F.TMR_REF_REF25_OK
    let xtal := s.is F.TMR_REF_XTAL_OK
    let sgn := fun (v : Nat) => if 2 ^ 19 ≤ v then (v : Int) - 2 ^ 20 else (v : Int)
    let T : Int := max (-250000) (min 250000 (if s.is F.TMR_TRIM_SRC then s.ringRate else sgn (s.rd F.TMR_TRIM_PPB)))
    let X : Int := if s.is F.TMR_XCAL_VALID then sgn (s.rd F.TMR_XCAL_PPB) else 0
    let d := if ref then (2560 * (1000000000 + T)).toNat else (1953125 * (1000000000 + T - X)).toNat
    (ref = false → xtal = false → exec (.stationTimeAdvance none) s = .next s) ∧
    (ref = true ∨ xtal = true → ∃ s', exec (.stationTimeAdvance none) s = .next s' ∧ s'.acc = s.acc + d ∧
      s'.is F.TMR_REF_SRC = !ref ∧
      (∀ t, t < 192 → (s'.th t).run = (s.th t).run +
        if (s.th t).held.isSome = true ∧ ((s.th t).life = .running ∨ (s.th t).life = .blocked ∨ (s.th t).life = .faulted)
        then d else 0) ∧
      ∀ k, k < 32 → (s.timer k).dueA = none → (s.timer k).dueB = none →
        (s.is (F.TMR_CTL_EN k) = false → s'.timer k = s.timer k) ∧
        (s.is (F.TMR_CTL_EN k) = true →
          let q := min 16777216 (max 1 (s.rd (F.TMR_DIV_DIV k))) * 64000000000
          (s'.timer k).count = ((s.timer k).count + ((s.timer k).rem + d) / q) % 2 ^ 64 ∧
          let due := fun (arm : Fld) (cmp : Nat) =>
            if s.is arm = true ∧ cmp ≤ (s'.timer k).count then some s'.nowNs else none
          (s'.timer k).rem = ((s.timer k).rem + d) % q ∧ (s'.timer k).cmpA = (s.timer k).cmpA ∧
          (s'.timer k).cmpB = (s.timer k).cmpB ∧ (s'.timer k).dueA = due (F.TMR_CTL_ARM_A k) (s.timer k).cmpA ∧
          (s'.timer k).dueB = due (F.TMR_CTL_ARM_B k) (s.timer k).cmpB)) ∧
    ∀ (k : BitVec 40) (ue : Bool) (s' : State), exec (.stationTimeAdvance none) s = .next s' →
      exec (.stationTimeAdvance (some (k, ue))) s = .next { s' with
        bad := tset eccDefault s'.bad (k.toNat / 8 * 8) (if ue then .uncorrectable else .correctable) }) ∧
  (∀ (s : State),
    let ref := s.is F.TMR_REF_REF25_OK
    let xtal := s.is F.TMR_REF_XTAL_OK
    (∃ s', exec .ref25Qualified s = .next s' ∧ s'.is F.TMR_REF_REF25_OK = true ∧ s'.is F.TMR_REF_XTAL_OK = xtal ∧
      s'.is F.TMR_REF_STOPPED = false ∧
      (ref = false → s.scanning = false → ∀ n, n < 48 → s.is (F.CL_CTL_EN n) = true → s.rd (F.CL_STATUS_STATE n) = 0 →
        Output.cell n [.idle0] ∈ s'.out)) ∧
    (∃ s', exec .xtalQualified s = .next s' ∧ onlyRegs [A.TMR_REF] { s with timeBase := s'.timeBase } s' ∧
      s'.is F.TMR_REF_XTAL_OK = true ∧ s'.is F.TMR_REF_REF25_OK = ref ∧ s'.is F.TMR_REF_STOPPED = false) ∧
    (∃ s', exec .xtalLoss s = .next s' ∧ onlyRegs [A.TMR_REF] { s with timeBase := s'.timeBase } s' ∧
      s'.is F.TMR_REF_XTAL_OK = false ∧ s'.is F.TMR_REF_REF25_OK = ref ∧ s'.is F.TMR_REF_STOPPED = !ref ∧
      s'.timeBase.both = none) ∧
    (s.txq = [] → ∃ s', exec .ref25Loss s = .next s' ∧ s'.is F.TMR_REF_REF25_OK = false ∧ s'.is F.TMR_REF_XTAL_OK = xtal ∧
      s'.is F.TMR_REF_STOPPED = !xtal ∧ (∀ u, u < 2 → s'.is (F.UPL_STATUS_UP u) = false) ∧
      ∀ n, n < 48 → s'.rd (F.CL_STATUS_STATE n) = 0) ∧
    ∀ (ppb : BitVec 20),
      let w := s.nowNs / 1000000000 * 1000000000
      let whole := 1000000000 ≤ w ∧ s.timeBase.xcal < w ∧ ∃ t, s.timeBase.both = some t ∧ t + 1000000000 ≤ w
      (¬ whole → exec (.xcalWindowEnd ppb) s = .next s) ∧
      (whole → ∃ s', exec (.xcalWindowEnd ppb) s = .next s' ∧
        onlyRegs [A.TMR_XCAL] { s with timeBase := { s.timeBase with xcal := w } } s' ∧
        s'.rd F.TMR_XCAL_PPB = ppb.toNat ∧ s'.is F.TMR_XCAL_VALID = true))

/-- A match that is due sets MATCH and, without AUTO, disarms its compare; with AUTO and a STEP other than 0 the compare moves
on by whole steps to the first value above COUNT and stays armed; a pin in compare mode on the timer applies its action; a
compare whose match is not due, and B while A is due, wait. CMP_x_LO is staged; CMP_x_HI loads both halves and arms, and where
COUNT has reached the value the match comes with the write; CLEAR sets COUNT and its remainder to 0. Where the model chose:
log entries 3, 140, 141. -/
def Obligations.Compares : Prop :=
  ∀ (k : Fin 32) (b : Bool) (v : BitVec 32) (s : State),
    let x := s.timer k.val
    let due := if b then x.dueB else x.dueA
    let cmp := if b then x.cmpB else x.cmpA
    let arm := if b then F.TMR_CTL_ARM_B k.val else F.TMR_CTL_ARM_A k.val
    let hit := if b then F.TMR_CTL_MATCH_B k.val else F.TMR_CTL_MATCH_A k.val
    let auto := s.is (if b then F.TMR_CTL_AUTO_B k.val else F.TMR_CTL_AUTO_A k.val)
    let step := s.rd (F.TMR_STEP_STEP k.val)
    let n := (x.count - cmp) / step + 1
    (due = none ∨ (b = true ∧ x.dueA.isSome = true) → exec (.compareMatch k b) s = .next s) ∧
    (∀ time, due = some time → (b = true → x.dueA = none) → bits (s.reg (A.TMR_ROUTE k.val)).toNat 0 2 = 0 → s.phase = .up →
      ∃ s', exec (.compareMatch k b) s = .next s' ∧ s' = { s with regs := s'.regs, timers := s'.timers } ∧
        (∀ j, j ≠ k.val → s'.timer j = s.timer j) ∧ s'.is hit = true ∧
        (auto = false ∨ step = 0 → s'.is arm = false ∧
          s'.timer k.val = if b then { x with dueB := none } else { x with dueA := none }) ∧
        (auto = true → 0 < step → s'.is arm = decide (cmp + n * step < 2 ^ 64) ∧
          s'.timer k.val = if b then { x with dueB := none, cmpB := (cmp + n * step) % 2 ^ 64 }
            else { x with dueA := none, cmpA := (cmp + n * step) % 2 ^ 64 }) ∧
        ∀ p, p < 64 → s'.rd (F.SIO_CFG_OUT p) =
          if s.rd (F.SIO_CFG_MODE p) = 3 ∧ s.rd (F.SIO_CFG_TIMER p) = k.val then
            match (if b then s.rd (F.SIO_CFG_ACT_B p) else s.rd (F.SIO_CFG_ACT_A p)) with
            | 1 => 1
            | 2 => 0
            | 3 => 1 - s.rd (F.SIO_CFG_OUT p)
            | _ => s.rd (F.SIO_CFG_OUT p)
          else s.rd (F.SIO_CFG_OUT p)) ∧
    (s.mainOn = true →
      (∃ s', exec (.cmpLoWrite k b v) s = .next s' ∧ s' = { s with timers := s'.timers } ∧
        s'.timer k.val = (if b then { x with stageB := v.toNat } else { x with stageA := v.toNat }) ∧
        ∀ j, j ≠ k.val → s'.timer j = s.timer j) ∧
      (x.dueA = none → x.dueB = none →
        let c := v.toNat * 2 ^ 32 + (if b then x.stageB else x.stageA)
        ∃ s', onlyRegs [A.TMR_CTL k.val] { s with timers := s'.timers } s' ∧
          s'.is arm = true ∧ (∀ j, j ≠ k.val → s'.timer j = s.timer j) ∧
          s'.timer k.val = (if b then { x with cmpB := c, dueB := if c ≤ x.count then some s.nowNs else none }
            else { x with cmpA := c, dueA := if c ≤ x.count then some s.nowNs else none }) ∧
          (x.count < c → exec (.cmpHiWrite k b v) s = .next s') ∧
          (c ≤ x.count → exec (.cmpHiWrite k b v) s = exec (.compareMatch k b) s')) ∧
      (x.dueA = none → x.dueB = none → 0 < x.cmpA → 0 < x.cmpB →
        ∃ s', exec (.timerClear k v) s = .next s' ∧ onlyRegs [A.TMR_CTL k.val] { s with timers := s'.timers } s' ∧
          s'.timer k.val = { x with count := 0, rem := 0 } ∧ s'.is (F.TMR_CTL_EN k.val) = v.toNat.testBit 0))

/-- A level change at a pin's ball: on the reference it is taken at its time, on the crystal at a step of it, and one not yet
past not at all. The ball's level shows at once, and its channel keeps the change with the exchange epoch of its time; a
change told with an earlier time than the last one is none. A new level that has held for the filter time, at the same command
or at the same one repeated, is an edge, once: with EN an edge to the active level holds the rise and its epoch, one that
follows another rise replaces it, and one back completes the pulse: RISE, FALL, WIDTH and PERIOD in ns (saturating), FIRST,
the epochs at rise and fall, the next SEQ, FRESH, and OVR where FRESH still stood. A level not yet held, a pulse's end without
a held rise and a channel that is not enabled capture nothing. A read of CAP_SEQ by software clears FRESH; a write that
changes INVERT discards a held rise and a change that its filter still holds, and makes the next pulse the first; a routed
event becomes a task of its route's domain, priority and group with source 4 for a capture and 3 for a timer, its time of
arrival in order, and where the group's share is used up it is counted, left in its pending bit, and offered to the recorder
as source 0x09, code 0x01 with the timer, or 0x100 plus the channel. Where the model chose: log entries 3, 143, 144, 145, 146.
-/
def Obligations.Captures : Prop :=
  (∀ (n : Fin 64) (level : Bool) (time : BitVec 64) (s : State), s.phase = .up → bits (s.reg (A.CAP_ROUTE n.val)).toNat 0 2 = 0 →
    let ref := s.is F.TMR_REF_REF25_OK
    let edge := Instr.captureEdge n level time
    let at_ := s.edgeTime time.toNat
    (ref = true → at_ = if time.toNat ≤ s.nowNs + 40 then some time.toNat else none) ∧
    (ref = false → s.nowNs < time.toNat → at_ = none) ∧
    (ref = false → time.toNat ≤ s.nowNs → ∃ t, t ≤ s.nowNs ∧ at_ = some t) ∧
    ∀ (c : Chan) (pins : Table Bool),
      let c₀ := s.chan n.val
      let was := tget (fun _ => false) s.sioIn n.val
      (∃ t, at_ = some t ∧ level ≠ was ∧ c₀.asked ≤ time.toNat ∧ pins = tset (fun _ => false) s.sioIn n.val level ∧
          c = { c₀ with changed := t, asked := time.toNat, epoch := s.epochAt t, counted := false }) ∨
        ((at_ = none ∨ level = was ∨ time.toNat < c₀.asked) ∧ pins = s.sioIn ∧ c = c₀) →
      let held := tget (fun _ => false) pins n.val = level ∧ c.asked = time.toNat ∧ c.counted = false ∧
        c.changed + 40 * s.rd (F.CAP_CTL_FILT n.val) ≤ s.nowNs + (if ref then 40 else 0)
      let x : Chan := { c with counted := true }
      let pair := fun (s : State) (lo hi : Nat) => (s.reg lo).toNat + (s.reg hi).toNat * 2 ^ 32
      let takes := fun (x : Chan) => ∃ s', exec edge s = .next s' ∧ s' = { s with sioIn := pins, chans := s'.chans } ∧
        s'.chan n.val = x ∧ ∀ j, j ≠ n.val → s'.chan j = s.chan j
      (¬ held → takes c ∧ (pins = s.sioIn → exec edge s = .next s)) ∧
      (held → s.is (F.CAP_CTL_EN n.val) = false ∨ (level = s.is (F.CAP_CTL_INVERT n.val) ∧ c.rise = none) → takes x) ∧
      (held → s.is (F.CAP_CTL_EN n.val) = true → level ≠ s.is (F.CAP_CTL_INVERT n.val) →
        takes { x with rise := some (c.changed, c.epoch) }) ∧
      (∀ r er, held → s.is (F.CAP_CTL_EN n.val) = true → level = s.is (F.CAP_CTL_INVERT n.val) → c.rise = some (r, er) →
        r < 2 ^ 64 → c.changed < 2 ^ 64 →
        ∃ s', exec edge s = .next s' ∧
          onlyRegs [A.CAP_RISE_LO n.val, A.CAP_RISE_HI n.val, A.CAP_FALL_LO n.val, A.CAP_FALL_HI n.val, A.CAP_WIDTH n.val,
            A.CAP_PERIOD n.val, A.CAP_STAT n.val, A.CAP_SEQ n.val] { s with sioIn := pins, chans := s'.chans } s' ∧
          s'.chan n.val = { x with rise := none, prev := some r } ∧ (∀ j, j ≠ n.val → s'.chan j = s.chan j) ∧
          pair s' (A.CAP_RISE_LO n.val) (A.CAP_RISE_HI n.val) = r ∧
          pair s' (A.CAP_FALL_LO n.val) (A.CAP_FALL_HI n.val) = c.changed ∧
          s'.rd (F.CAP_WIDTH_NS n.val) = min 0xFFFFFFFF (c.changed - r) ∧
          s'.rd (F.CAP_PERIOD_NS n.val) = min 0xFFFFFFFF (match c.prev with | none => 0 | some p => r - p) ∧
          s'.rd (F.CAP_STAT_EPOCH_RISE n.val) = er % 256 ∧ s'.rd (F.CAP_STAT_EPOCH_FALL n.val) = c.epoch % 256 ∧
          s'.is (F.CAP_STAT_FIRST n.val) = c.prev.isNone ∧ s'.is (F.CAP_STAT_FRESH n.val) = true ∧
          s'.is (F.CAP_STAT_OVR n.val) = (s.is (F.CAP_STAT_FRESH n.val) || s.is (F.CAP_STAT_OVR n.val)) ∧
          s'.rd (F.CAP_SEQ_SEQ n.val) = (s.rd (F.CAP_SEQ_SEQ n.val) + 1) % 2 ^ 32)) ∧
  (∀ (n : Fin 64) (v : BitVec 32) (cap : Bool) (s : State), s.mainOn = true →
    (∃ s', exec (.capSeqRead n) s = .next s' ∧ onlyRegs [A.CAP_STAT n.val] s s' ∧ s'.is (F.CAP_STAT_FRESH n.val) = false ∧
      s'.is (F.CAP_STAT_OVR n.val) = s.is (F.CAP_STAT_OVR n.val)) ∧
    (v.toNat.testBit 1 ≠ s.is (F.CAP_CTL_INVERT n.val) → ∃ s', exec (.capInvertWrite n v) s = .next s' ∧
      onlyRegs [A.CAP_CTL n.val] { s with chans := s'.chans } s' ∧
      s'.chan n.val = { s.chan n.val with rise := none, prev := none, counted := true } ∧
      s'.is (F.CAP_CTL_INVERT n.val) = v.toNat.testBit 1) ∧
    (v.toNat.testBit 1 = s.is (F.CAP_CTL_INVERT n.val) → v.toNat.testBit 0 = s.is (F.CAP_CTL_EN n.val) →
      ∃ s', exec (.capInvertWrite n v) s = .next s' ∧ onlyRegs [A.CAP_CTL n.val] s s') ∧
    (s.events = [] → exec (.eventEnqueue cap n) s = .next s) ∧
    ∀ e rest, s.events = e :: rest → e.cap = cap → e.num = n.val → bits e.route 5 4 ≠ 15 → (cap = false → n.val < 32) →
      (s.admits (bits e.route 5 4) = true → s.tasks.length < 65536 → s.domType (bits e.route 16 12) ≠ 1 →
        ∃ s' m x, exec (.eventEnqueue cap n) s = .next s' ∧ s'.events = rest ∧ s'.task m = some x ∧
          (∀ j, j ≠ m → s'.task j = s.task j) ∧ x.domain = some (bits e.route 16 12) ∧ x.prio = bits e.route 2 3 ∧
          x.group = bits e.route 5 4 ∧ x.acct = bits e.route 9 6 ∧ x.source = (if cap then 4 else 3) ∧
          x.stage = .ready s.sched.seq ∧ x.words = [Word.data (BitVec.ofNat 64 e.w1), Word.zero,
            Word.data (BitVec.ofNat 64 e.w3), Word.data (BitVec.ofNat 64 e.w4)] ∧
          (cap = true → s.rd (F.CAP_SEQ_SEQ n.val) = e.seq → s'.is (F.CAP_STAT_FRESH n.val) = false)) ∧
      (s.admits (bits e.route 5 4) = false → ∃ s', exec (.eventEnqueue cap n) s = .next s' ∧ s'.events = rest ∧
        s'.tasks = s.tasks ∧ s'.is (pendBit cap n.val) = true ∧ offers 0x09 0x01 ((if cap then 0x100 else 0) + n.val) s s' ∧
        s'.rd F.SCH_EVENT_LOST_CNT_COUNT =
          min (2 ^ F.SCH_EVENT_LOST_CNT_COUNT.width - 1) (s.rd F.SCH_EVENT_LOST_CNT_COUNT + 1)))

/-! ### Ports, parser, classifier -/

/-- An UP uplink takes in a frame: a good pause frame is counted and, with PAUSE_RX_EN, pauses transmission for its quanta of
51.2 ns; a frame that finds no buffer is counted at its cause and dropped; a good frame within its buffer is stored from byte
64 on, counted and queued for its parse with its arrival; one with a wrong FCS is dropped and counted. So is, each at its own
counter, one that is too long for its buffer, else has a code error, else is below 64 or above 9,216 bytes, else has a wrong
FCS, else is for another destination than the uplink's address and a group without PROMISC, else is a MAC control frame of
another opcode than pause's. With RX_EN an event message that is stored, and with RX_ALL each stored frame, adds an entry to
the receive timestamp FIFO, or is counted where that is full. A DOWN uplink takes nothing. Where the model chose: log entries
76, 77, 78, 79, 80. -/
def Obligations.UplinkFrames : Prop :=
  ∀ (u : Fin 2) (bytes : List Byte) (code : Bool) (time : BitVec 96) (s : State),
    let data := bytes.take (bytes.length - 4)
    let good := 4 ≤ bytes.length ∧ fcsOf data = bytes.drop (bytes.length - 4)
    let pool := s.rd (F.UPL_ING_POOL u.val)
    let acct := s.rd (F.UPL_ING_ACCOUNT u.val)
    let row := Instr.uplinkFrameReceive u bytes code time
    (s.is (F.UPL_STATUS_UP u.val) = false → exec row s = .next s) ∧
    (s.is (F.UPL_STATUS_UP u.val) = true → code = false → good → 64 ≤ bytes.length → halfAt data 12 = 0x8808 →
      beNat (data.take 6) = 0x0180C2000001 → halfAt data 14 = 1 →
      let q := halfAt data 16
      ∃ s', exec row s = .next s' ∧
        onlyRegs [A.UPL_RX_PAUSE_CNT u.val, A.UPL_STATUS u.val] { s with pauseEnd := s'.pauseEnd } s' ∧
        s'.rd (F.UPL_RX_PAUSE_CNT_COUNT u.val) = min (2 ^ (F.UPL_RX_PAUSE_CNT_COUNT u.val).width - 1)
          (s.rd (F.UPL_RX_PAUSE_CNT_COUNT u.val) + 1) ∧
        (s.is (F.UPL_CTL_PAUSE_RX_EN u.val) = true → s'.is (F.UPL_STATUS_PAUSED u.val) = decide (0 < q) ∧
          tget (fun _ => 0) s'.pauseEnd u.val = s.acc + q * quantum) ∧
        (s.is (F.UPL_CTL_PAUSE_RX_EN u.val) = false → s'.pauseEnd = s.pauseEnd)) ∧
    (s.is (F.UPL_STATUS_UP u.val) = true → halfAt data 12 ≠ 0x8808 →
      (∀ s₁ c, s.alloc pool acct = (s₁, .fail c) → ∃ s', exec row s = .next s' ∧
        onlyRegs [A.UPL_RX_DROP_CNT u.val, A.UPL_RX_POOL_DROP_CNT u.val, A.POOL_DROP_EMPTY pool, A.POOL_DROP_LIMIT pool,
          A.POOL_DROP_DISABLED pool] s₁ s' ∧
        s'.rd (F.UPL_RX_DROP_CNT_COUNT u.val) = min (2 ^ (F.UPL_RX_DROP_CNT_COUNT u.val).width - 1)
          (s₁.rd (F.UPL_RX_DROP_CNT_COUNT u.val) + 1) ∧
        s'.rd (F.UPL_RX_POOL_DROP_CNT_COUNT u.val) = min (2 ^ (F.UPL_RX_POOL_DROP_CNT_COUNT u.val).width - 1)
          (s₁.rd (F.UPL_RX_POOL_DROP_CNT_COUNT u.val) + 1)) ∧
      (∀ s₁ l i g, s.alloc pool acct = (s₁, .ok l i g) → data.length + 64 ≤ l.size → code = false → 64 ≤ bytes.length →
        bytes.length ≤ 9216 →
        let h : Word := ⟨Tag.ofAccount acct, mkHandle pool g i⟩
        let k := l.base + i * l.size + 64
        k % 8 = 0 → k + data.length < mbusWindow → s₁.memOf k ≠ none → s.is (F.UPL_PTP_CTL_RX_EN u.val) = false →
        (good → s.is (F.UPL_CTL_PROMISC u.val) = true → ∃ s', exec row s = .next s' ∧
          s'.frames = s₁.frames ++ [⟨h, 64 + u.val, data.length, s₁.nowNs, 0, none, false⟩] ∧
          s'.rd (F.UPL_RX_OK_CNT_COUNT u.val) = min (2 ^ (F.UPL_RX_OK_CNT_COUNT u.val).width - 1)
            (s₁.rd (F.UPL_RX_OK_CNT_COUNT u.val) + 1) ∧
          s'.rd (F.UPL_RX_DROP_CNT_COUNT u.val) = s₁.rd (F.UPL_RX_DROP_CNT_COUNT u.val) ∧
          ∀ j, j < data.length → (s'.word ((k + j) / 8 * 8)).tag = 0 ∧
            some (byteOf (s'.word ((k + j) / 8 * 8)).val ((k + j) % 8)) = data[j]?) ∧
        (¬ good → ∃ s', exec row s = .next s' ∧ s'.frames = s₁.frames ∧
          s'.rd (F.UPL_RX_FCS_ERR_CNT_COUNT u.val) = min (2 ^ (F.UPL_RX_FCS_ERR_CNT_COUNT u.val).width - 1)
            (s₁.rd (F.UPL_RX_FCS_ERR_CNT_COUNT u.val) + 1) ∧
          s'.rd (F.UPL_RX_DROP_CNT_COUNT u.val) = min (2 ^ (F.UPL_RX_DROP_CNT_COUNT u.val).width - 1)
            (s₁.rd (F.UPL_RX_DROP_CNT_COUNT u.val) + 1)))) ∧
    (s.is (F.UPL_STATUS_UP u.val) = true → ∀ s₁ l i g, s.alloc pool acct = (s₁, .ok l i g) →
      let h : Word := ⟨Tag.ofAccount acct, mkHandle pool g i⟩
      let k := l.base + i * l.size + 64
      let mac := beNat (data.take 6)
      let ours := s.is (F.UPL_CTL_PROMISC u.val) = true ∨ mac.testBit 40 = true ∨
        mac = s.rd (F.UPL_MAC_LO_MAC u.val) + s.rd (F.UPL_MAC_HI_MAC u.val) * 2 ^ 32
      let control := halfAt data 12 = 0x8808
      let pause := control ∧ mac = 0x0180C2000001 ∧ halfAt data 14 = 1
      let sized := 64 ≤ bytes.length ∧ bytes.length ≤ 9216
      let dropped := fun (cause : Fld) => ∃ s', exec row s = .next s' ∧ s'.frames = s₁.frames ∧ s'.ts = s₁.ts ∧
        counts cause s₁ s' ∧ counts (F.UPL_RX_DROP_CNT_COUNT u.val) s₁ s'
      k % 8 = 0 → k + data.length < mbusWindow → s₁.memOf k ≠ none →
      (64 ≤ l.size → l.size < data.length + 64 → ¬ (code = false ∧ good ∧ 64 ≤ bytes.length ∧ pause) →
        dropped (F.UPL_RX_TOO_LONG_CNT_COUNT u.val) ∧
        ∀ s', exec row s = .next s' → counts (F.POOL_TOO_LONG_COUNT pool) s₁ s') ∧
      (data.length + 64 ≤ l.size →
        (code = true → dropped (F.UPL_RX_CODE_ERR_CNT_COUNT u.val)) ∧
        (code = false → ¬ sized → ¬ (good ∧ 64 ≤ bytes.length ∧ pause) → dropped (F.UPL_RX_SIZE_ERR_CNT_COUNT u.val)) ∧
        (code = false → sized → ¬ good → dropped (F.UPL_RX_FCS_ERR_CNT_COUNT u.val)) ∧
        (code = false → sized → good → ¬ ours → dropped (F.UPL_RX_FILTERED_CNT_COUNT u.val)) ∧
        (code = false → sized → good → ours → control → halfAt data 14 ≠ 1 → dropped (F.UPL_RX_MACCTL_CNT_COUNT u.val)) ∧
        (code = false → sized → good → ours → ¬ control → ∃ s', exec row s = .next s' ∧
          s'.frames = s₁.frames ++ [⟨h, 64 + u.val, data.length, s₁.nowNs, 0, none, false⟩] ∧
          counts (F.UPL_RX_OK_CNT_COUNT u.val) s₁ s' ∧
          s'.rd (F.UPL_RX_DROP_CNT_COUNT u.val) = s₁.rd (F.UPL_RX_DROP_CNT_COUNT u.val) ∧
          (s.is (F.UPL_PTP_CTL_RX_EN u.val) = false → s'.ts = s₁.ts) ∧
          (s.is (F.UPL_PTP_CTL_RX_EN u.val) = true → ∀ n, ptpOff (s.is (F.UPL_PTP_CTL_UDP_EN u.val)) data = some n →
            (byteAt data n % 16 ≤ 3 ∨ s.is (F.UPL_PTP_CTL_RX_ALL u.val) = true →
              stamps u.val false h (identifies data n) time.toNat F.RXTS_OVF_CNT_COUNT s₁ s') ∧
            (3 < byteAt data n % 16 → s.is (F.UPL_PTP_CTL_RX_ALL u.val) = false → s'.ts = s₁.ts)) ∧
          (s.is (F.UPL_PTP_CTL_RX_EN u.val) = true → ptpOff (s.is (F.UPL_PTP_CTL_UDP_EN u.val)) data = none →
            (s.is (F.UPL_PTP_CTL_RX_ALL u.val) = true →
              stamps u.val false h (fun _ => True) time.toNat F.RXTS_OVF_CNT_COUNT s₁ s') ∧
            (s.is (F.UPL_PTP_CTL_RX_ALL u.val) = false → s'.ts = s₁.ts)))))

/-- An uplink is UP while it is enabled, its module is present without loss of signal, its PCS has block lock without hi_ber,
and the reference is good: a change of that state sets UP and LINK_CHG and offers a recorder entry (without frames in its
queue, in reception or in transmission). A pause ends when its time has come; XOFF is sent again after half the quanta it was
sent with while the pool stays below the upper threshold; POP removes the head of a timestamp FIFO. A cell link goes from DOWN
to LOCKING while it is enabled and the reference is good, and then sends IDLE_1, from LOCKING to UP, and to DOWN, which is
counted and recorded and where it sends IDLE_0; each change sets CHG. An UP link stores a good frame of 20 to 532 bytes that
/T/ ends and whose length field fits from byte 64 on and queues it for its parse; one with a wrong CRC, and one that any other
K character ends, is dropped and counted. Where the model chose: log entries 3, 83, 84, 87, 207. -/
def Obligations.PortLinks : Prop :=
  (∀ (u : Fin 2) (s : State),
    let q := s.rd (F.UPL_PAUSE_QUANTA u.val)
    let sent := tget (fun _ => 0) s.pauseSent u.val
    let ended := s.is (F.UPL_STATUS_PAUSED u.val) = true ∧ tget (fun _ => 0) s.pauseEnd u.val ≤ s.acc
    let again := s.is (F.UPL_CTL_PAUSE_TX_EN u.val) = true ∧ s.is (F.UPL_STATUS_UP u.val) = true ∧
      s.is (F.UPL_STATUS_XOFF u.val) = true ∧ tget (fun _ => 0) s.pauseAt u.val + sent * quantum / 2 ≤ s.acc ∧
      s.rd (F.POOL_FREE_FREE (s.rd (F.UPL_ING_POOL u.val))) < s.rd (F.UPL_XON_THR_COUNT u.val)
    (¬ ended → exec (.pauseTimerExpiry u) s = .next s) ∧
    (ended → ∃ s', exec (.pauseTimerExpiry u) s = .next s' ∧ onlyRegs [A.UPL_STATUS u.val] s s' ∧
      s'.is (F.UPL_STATUS_PAUSED u.val) = false) ∧
    (¬ again → exec (.pauseResend u) s = .next s) ∧
    (again → ∃ s', exec (.pauseResend u) s = .next s' ∧
      onlyRegs [A.UPL_STATUS u.val, A.UPL_TX_PAUSE_CNT u.val]
        { s with out := s.out ++ [Output.pause u.val q], pauseAt := s'.pauseAt, pauseSent := s'.pauseSent } s' ∧
      tget (fun _ => 0) s'.pauseAt u.val = s.acc ∧ tget (fun _ => 0) s'.pauseSent u.val = q) ∧
    (s.mainOn = true → ∀ tx, ∃ s', exec (.tsPop u tx) s = .next s' ∧ s' = { s with ts := s'.ts } ∧
      s'.tsFifo u.val tx = (s.tsFifo u.val tx).drop 1 ∧ ∀ w t, w < 2 → (w ≠ u.val ∨ t ≠ tx) → s'.tsFifo w t = s.tsFifo w t) ∧
    ∀ (absent los fault lock hiBer : Bool), s.txq = [] → s.is (F.UPL_CTL_PAUSE_TX_EN u.val) = false →
      s.recorder.frozen = false → s.recorder.offered.length < 64 →
      let up := s.is (F.UPL_CTL_EN u.val) && !absent && !los && lock && !hiBer && s.is F.TMR_REF_REF25_OK && !s.scanning
      ∃ s', exec (.uplinkStateChange u absent los fault lock hiBer none false) s = .next s' ∧
        onlyRegs [A.UPL_STATUS u.val] { s with hiBer := s'.hiBer, recorder := s'.recorder } s' ∧
        s'.is (F.UPL_STATUS_UP u.val) = up ∧ s'.is (F.UPL_STATUS_MOD_ABS u.val) = absent ∧
        s'.is (F.UPL_STATUS_LOS u.val) = los ∧ s'.is (F.UPL_STATUS_TX_FAULT u.val) = fault ∧
        s'.is (F.UPL_STATUS_BLOCK_LOCK u.val) = lock ∧
        (up = s.is (F.UPL_STATUS_UP u.val) → s'.recorder = s.recorder ∧
          s'.is (F.UPL_STATUS_LINK_CHG u.val) = s.is (F.UPL_STATUS_LINK_CHG u.val)) ∧
        (up ≠ s.is (F.UPL_STATUS_UP u.val) → s'.is (F.UPL_STATUS_LINK_CHG u.val) = true ∧
          s'.recorder.offered = s.recorder.offered ++ [⟨0x04, 0x01, (64 + u.val) * 256 + (if up then 1 else 0)⟩])) ∧
  (∀ (n : Fin 48) (bytes : List Byte) (s : State),
    let st := s.rd (F.CL_STATUS_STATE n.val)
    let data := bytes.take (bytes.length - 4)
    let good := 4 ≤ bytes.length ∧ fcsOf data = bytes.drop (bytes.length - 4)
    let pool := s.rd (F.CL_ING_POOL n.val)
    let acct := s.rd (F.CL_ING_ACCOUNT n.val)
    let lockable := s.is (F.CL_CTL_EN n.val) = true ∧ st = 0 ∧ s.is F.TMR_REF_REF25_OK = true ∧ s.scanning = false
    let moved := fun (c : Instr) (v : Nat) (o : List Output) => ∃ s', exec c s = .next s' ∧
      onlyRegs [A.CL_STATUS n.val] { s with out := s.out ++ o } s' ∧
      s'.rd (F.CL_STATUS_STATE n.val) = v ∧ s'.is (F.CL_STATUS_CHG n.val) = true
    (lockable → moved (.cellLinkLock n) 1 [Output.cell n.val [.idle1]]) ∧ (¬ lockable → exec (.cellLinkLock n) s = .next s) ∧
    (st = 1 → moved (.cellLinkUp n) 2 []) ∧ (st ≠ 1 → exec (.cellLinkUp n) s = .next s) ∧
    (st = 0 → exec (.cellLinkDown n none false) s = .next s) ∧
    (st ≠ 0 → s.txq = [] → s.recorder.frozen = false → s.recorder.offered.length < 64 →
      ∃ s', exec (.cellLinkDown n none false) s = .next s' ∧
        onlyRegs [A.CL_STATUS n.val, A.CL_DOWN_CNT n.val]
          { s with recorder := s'.recorder, out := s.out ++ [Output.cell n.val [.idle0]] } s' ∧
        s'.rd (F.CL_STATUS_STATE n.val) = 0 ∧ s'.is (F.CL_STATUS_CHG n.val) = true ∧
        s'.rd (F.CL_DOWN_CNT_COUNT n.val) = min (2 ^ (F.CL_DOWN_CNT_COUNT n.val).width - 1)
          (s.rd (F.CL_DOWN_CNT_COUNT n.val) + 1) ∧
        s'.recorder.offered = s.recorder.offered ++ [⟨0x05, 0x01, n.val⟩]) ∧
    (st ≠ 2 → ∀ e, exec (.cellLinkFrameReceive n bytes e) s = .next s) ∧
    (st = 2 → ∀ s₁ l i g, s.alloc pool acct = (s₁, .ok l i g) → data.length + 64 ≤ l.size → 20 ≤ bytes.length →
      bytes.length ≤ 532 → halfAt data 2 + 20 = bytes.length →
      let h : Word := ⟨Tag.ofAccount acct, mkHandle pool g i⟩
      let k := l.base + i * l.size + 64
      k % 8 = 0 → k + data.length < mbusWindow → s₁.memOf k ≠ none →
      (good → ∃ s', exec (.cellLinkFrameReceive n bytes 0xFD) s = .next s' ∧
        s'.frames = s₁.frames ++ [⟨h, n.val, data.length, s₁.nowNs, 0, none, false⟩] ∧
        s'.rd (F.CL_RX_OK_CNT_COUNT n.val) = min (2 ^ (F.CL_RX_OK_CNT_COUNT n.val).width - 1)
          (s₁.rd (F.CL_RX_OK_CNT_COUNT n.val) + 1) ∧
        ∀ j, j < data.length → some (byteOf (s'.word ((k + j) / 8 * 8)).val ((k + j) % 8)) = data[j]?) ∧
      (∀ e : BitVec 8, e ≠ 0xFD → ∃ s', exec (.cellLinkFrameReceive n bytes e) s = .next s' ∧ s'.frames = s₁.frames ∧
        counts (F.CL_RX_ABORT_CNT_COUNT n.val) s₁ s' ∧ counts (F.CL_RX_DROP_CNT_COUNT n.val) s₁ s') ∧
      (¬ good → ∃ s', exec (.cellLinkFrameReceive n bytes 0xFD) s = .next s' ∧ s'.frames = s₁.frames ∧
        s'.rd (F.CL_RX_CRC_ERR_CNT_COUNT n.val) = min (2 ^ (F.CL_RX_CRC_ERR_CNT_COUNT n.val).width - 1)
          (s₁.rd (F.CL_RX_CRC_ERR_CNT_COUNT n.val) + 1) ∧
        s'.rd (F.CL_RX_DROP_CNT_COUNT n.val) = min (2 ^ (F.CL_RX_DROP_CNT_COUNT n.val).width - 1)
          (s₁.rd (F.CL_RX_DROP_CNT_COUNT n.val) + 1))))

/-- A port that is UP and not paused sends the frame at the head of its queue with its check sequence (an uplink pads it to 60
bytes first; a cell link puts /S/ before it and /T/ and an idle after it), counts it and gives its buffer back; one with an
uncorrectable word is aborted (/E/ on a cell link) and counted; one longer than the port sends, over 528 bytes on a cell link
and over 9,212 on an uplink, is not sent, counted as such and its buffer given back. With TX_EN an event message that has been
sent adds an entry to the transmit timestamp FIFO, or is counted where that is full; no other frame does. An empty queue, a
DOWN port and a paused uplink send nothing. Where the model chose: log entries 3, 79, 80, 86. -/
def Obligations.Transmission : Prop :=
  ∀ (port : BitVec 8) (time : BitVec 96) (s : State),
    let p := port.toNat
    let row := Instr.frameTransmit port time
    ((s.txOf p).queue = [] → exec row s = .next s) ∧
    (p < 48 ∨ p = 64 ∨ p = 65 → s.portUp p = false → exec row s = .next s) ∧
    (p = 64 ∨ p = 65 → s.is (F.UPL_STATUS_PAUSED (p - 64)) = true → exec row s = .next s) ∧
    ∀ f r, (s.txOf p).queue = f :: r → (s.txOf p).line = [] → f.port = p → s.portUp p = true →
      s.is (F.UPL_CTL_PAUSE_TX_EN 0) = false → s.is (F.UPL_CTL_PAUSE_TX_EN 1) = false →
      let s₀ := s.setTx p ⟨r, []⟩
      ∀ s₁ b, s₀.readBytes (s₀.hAddr f.handle (hOffset f.handle.val)) f.len = (s₁, b) →
        (p < 48 → f.len ≤ 528 →
          (b.ue = false → ∃ s', exec row s = .next s' ∧ s'.txOf p = ⟨r, []⟩ ∧
            s'.out = s.out ++ [Output.cell p (.start :: (b.bytes ++ leBytes 4 (crc32 0xFFFFFFFF true b.bytes)).map .byte ++
              [.stop, .idle1])] ∧
            s'.rd (F.CL_TX_OK_CNT_COUNT p) =
              min (2 ^ (F.CL_TX_OK_CNT_COUNT p).width - 1) (s.rd (F.CL_TX_OK_CNT_COUNT p) + 1) ∧ givenBack f.handle s₁ s') ∧
          (b.ue = true → ∃ s', exec row s = .next s' ∧ s'.txOf p = ⟨r, []⟩ ∧
            s'.out = s.out ++ [Output.cell p (.start :: b.bytes.map .byte ++ [.abort, .idle1])] ∧ s'.rd (F.CL_TX_ABORT_CNT_COUNT p) =
              min (2 ^ (F.CL_TX_ABORT_CNT_COUNT p).width - 1) (s.rd (F.CL_TX_ABORT_CNT_COUNT p) + 1) ∧
              givenBack f.handle s₁ s')) ∧
        (p < 48 → 528 < f.len → ∃ s', exec row s = .next s' ∧ s'.txOf p = ⟨r, []⟩ ∧ s'.out = s.out ∧
          counts (F.CL_TX_LEN_ERR_CNT_COUNT p) s s' ∧ givenBack f.handle s₀ s') ∧
        (p = 64 ∨ p = 65 → s.is (F.UPL_STATUS_PAUSED (p - 64)) = false → 9212 < f.len →
          ∃ s', exec row s = .next s' ∧ s'.txOf p = ⟨r, []⟩ ∧ s'.out = s.out ∧ s'.ts = s.ts ∧
            counts (F.UPL_TX_LEN_ERR_CNT_COUNT (p - 64)) s s' ∧ givenBack f.handle s₀ s') ∧
        (p = 64 ∨ p = 65 → s.is (F.UPL_STATUS_PAUSED (p - 64)) = false → f.len ≤ 9212 →
          let data := b.bytes ++ List.replicate (60 - b.bytes.length) 0
          (b.ue = false → ∃ s', exec row s = .next s' ∧ s'.txOf p = ⟨r, []⟩ ∧
            s'.out = s.out ++ [Output.frame p (data ++ leBytes 4 (crc32 0xFFFFFFFF true data)) true] ∧
            counts (F.UPL_TX_OK_CNT_COUNT (p - 64)) s s' ∧ givenBack f.handle s₁ s' ∧
            let found := ptpOff (s.is (F.UPL_PTP_CTL_UDP_EN (p - 64))) data
            (s.is (F.UPL_PTP_CTL_TX_EN (p - 64)) = false ∨ found = none → s'.ts = s.ts) ∧
            (s.is (F.UPL_PTP_CTL_TX_EN (p - 64)) = true → ∀ n, found = some n →
              (3 < byteAt data n % 16 → s'.ts = s.ts) ∧
              (byteAt data n % 16 ≤ 3 →
                stamps (p - 64) true f.handle (identifies data n) time.toNat F.TXTS_OVF_CNT_COUNT s s'))) ∧
          (b.ue = true → ∃ s', exec row s = .next s' ∧ s'.txOf p = ⟨r, []⟩ ∧ s'.out = s.out ++ [Output.frame p data false] ∧ s'.ts = s.ts ∧
            counts (F.UPL_TX_ABORT_CNT_COUNT (p - 64)) s s' ∧ givenBack f.handle s₁ s'))

/-- The oldest frame that awaits it is parsed under its bank: its 64-byte record, the walk's result from the port's root node
in at most 24 steps (status 7 where the port has no root), is stored at byte 0 of its buffer and counted by status. COMMIT
copies staging into a node and READ a node into staging; for the inactive bank both are REFUSED while frames are still parsed
under it. The bank switch leaves frames in parse on the bank and the root they started with. Where the model chose: log
entries 3, 35, 90, 91, 203. -/
def Obligations.ParserCommands : Prop :=
  ∀ (s : State),
    ((∀ f ∈ s.frames, f.parsed = true) → exec .parse s = .next s) ∧
    (∀ f s₁ b, s.frames.find? (fun x => !x.parsed) = some f → s.bufBase f.handle % 8 = 0 →
      s.bufBase f.handle + 64 ≤ mbusWindow → s.memOf (s.bufBase f.handle) ≠ none →
      s.readBytes (s.bufBase f.handle + 64) (min f.len 256) = (s₁, b) →
      let (bank, root) := f.bank.getD (s.rd F.PRS_BANK_ACTIVE, (s.reg (A.PRS_ROOT f.port)).toNat)
      let fr := b.bytes ++ List.replicate (f.len - 256) 0
      let p : Parse := ⟨[0xFFFF, 0xFFFF, 0xFFFF], 0, [], false, 0⟩
      let x := if bits root 16 1 = 0 then (p, (⟨7, 0, 0xFFFF, 0⟩ : ParseEnd))
        else p.walk (s.nodeWord bank) fr (bits root (8 * bank) 8) 0 24
      ∃ s', exec .parse s = .next s' ∧ s' = { s₁ with regs := s'.regs, mem := s'.mem, bad := s'.bad, frames := s'.frames } ∧
        (∀ i, i < 64 → some (byteOf (s'.word (s.bufBase f.handle + i / 8 * 8)).val (i % 8)) =
          (parseRecord f bank x.1 x.2)[i]?) ∧
        (∀ k, k < s.bufBase f.handle ∨ s.bufBase f.handle + 64 ≤ k → s'.word k = s₁.word k) ∧
        s'.frames.length = s.frames.length ∧ { f with parsed := true } ∈ s'.frames ∧
        counts (F.PRS_CNT_COUNT x.2.status) s₁ s') ∧
    (s.mainOn = true → ∀ (node : BitVec 8) (bank : Bool),
      let b := if bank then 1 else 0
      (b ≠ s.rd F.PRS_BANK_ACTIVE → s.prsDrained = false →
        ∀ c ∈ ([.prsCmdCommit node bank, .prsCmdRead node bank] : List Instr), ∃ s', exec c s = .next s' ∧
          onlyRegs [A.PRS_CMD_STATUS] s s' ∧ s'.is F.PRS_CMD_STATUS_REFUSED = true) ∧
      (b = s.rd F.PRS_BANK_ACTIVE ∨ s.prsDrained = true →
        (∃ s', exec (.prsCmdCommit node bank) s = .next s' ∧ s' = { s with prsNodes := s'.prsNodes } ∧
          (∀ i ∈ stagingWords, s'.nodeWord b node.toNat i = (s.reg (A.PRS_N_SEL + 4 * i)).toNat) ∧
          ∀ c m i, m < 256 → i < 32 → (c ≠ b ∨ m ≠ node.toNat) → s'.nodeWord c m i = s.nodeWord c m i) ∧
        (∃ s', exec (.prsCmdRead node bank) s = .next s' ∧ onlyRegs (stagingWords.map (fun i => A.PRS_N_SEL + 4 * i)) s s' ∧
          ∀ i ∈ stagingWords, (s'.reg (A.PRS_N_SEL + 4 * i)).toNat = s.nodeWord b node.toNat i))) ∧
    (s.mainOn = true → ∀ (v : BitVec 32) (n : BitVec 8), ∃ s', exec (.prsBankSwitch v n) s = .next s' ∧
      onlyRegs [A.PRS_BANK] { s with frames := s'.frames } s' ∧ s'.rd F.PRS_BANK_ACTIVE = v.toNat % 2 ∧
      (v.toNat % 2 = s.rd F.PRS_BANK_ACTIVE → s'.frames = s.frames) ∧
      (v.toNat % 2 ≠ s.rd F.PRS_BANK_ACTIVE → s'.frames = bindFrames (s.rd F.PRS_BANK_ACTIVE) (fun p => (s.reg (A.PRS_ROOT p)).toNat) n.toNat s.frames))

/-- The classifier takes the oldest parsed frame. One that is no fragment is stamped with CUR and matched: where a rule wins,
its match is counted; a DROP gives the buffer back and is counted; a PASS becomes a task of the action's domain, priority and
group that holds the version, with words w1 the handle, w3 USER, rule, origin and port, and w4 the arrival. A frame without a
winning rule is counted as a miss and takes the miss action; SLOW_PATH, the reserved verdict and group 15 send a frame to the
target of CLS_SLOW with the action's USER. A fragment on a port that is not in FOLLOW_FIRST mode is not matched: it is counted
and takes the CLS_SLOW target with origin FRAG_SLOW; on a port that is, a first fragment is decided as any frame and makes an
entry of the follow table in place of that with its key, or is counted where 1,024 others stand, and a later one takes its
entry's version and outcome with origin FOLLOW, or, without an entry, the CLS_SLOW target. A frame whose group's share is used
up becomes no task and is counted. Without a parsed frame at the head nothing changes. A commit makes the next version
current, or is REFUSED where OLDEST would lie 127 or more behind; a word of a rule is written where the rule is not valid, and
refused with its cause else; a pass with nothing changed does nothing, and one that is due retires the rules whose UNTIL
version is past; an entry of the follow table ends when its time has come; a flush frees all of them, with FLUSH_BUSY until it
is done. Where the model chose: log entries 3, 61, 62, 93, 94, 95, 96, 97, 98, 203, 227. -/
def Obligations.Classifier : Prop :=
  (∀ (s : State),
    (s.frames = [] ∨ (∃ f r, s.frames = f :: r ∧ f.parsed = false) → exec .classify s = .next s) ∧
    ∀ f r i s₁ b, s.frames = f :: r → f.parsed = true → f.port < 48 ∨ f.port = 64 ∨ f.port = 65 →
      s.readBytes (s.bufBase f.handle) 64 = (s₁, b) →
      let rcd := b.bytes
      let acct := s.portAcct f.port
      let a := s.cls.word i 13 * 2 ^ 32 + s.cls.word i 12
      let g := bits a 55 4
      let d := (bits a 43 12 + (if bits a 42 1 = 1 then halfAt rcd (32 + 2 * bits a 38 4) else 0)) % 4096
      (halfAt rcd 24) % 4 = 0 → s.winner rcd acct s.cur = some i → g ≠ 15 →
      (bits a 62 2 = 1 → s.is (F.UPL_CTL_PAUSE_TX_EN 0) = false → s.is (F.UPL_CTL_PAUSE_TX_EN 1) = false →
        ∃ s', exec .classify s = .next s' ∧ s'.frames = r ∧ s'.tasks = s.tasks ∧
          s'.rd F.CLS_MATCH_CNT_COUNT = min (2 ^ F.CLS_MATCH_CNT_COUNT.width - 1) (s.rd F.CLS_MATCH_CNT_COUNT + 1) ∧
          s'.rd F.CLS_DROP_CNT_COUNT = min (2 ^ F.CLS_DROP_CNT_COUNT.width - 1) (s.rd F.CLS_DROP_CNT_COUNT + 1) ∧
          givenBack f.handle s₁ s') ∧
      (bits a 62 2 = 0 → s.admits g = true → s.tasks.length < 65536 → s.domType d ≠ 1 →
        ∃ s' n x, exec .classify s = .next s' ∧ s'.frames = r ∧ s'.task n = some x ∧ (∀ m, m ≠ n → s'.task m = s.task m) ∧
          x.domain = some d ∧ x.prio = bits a 59 3 ∧ x.group = g ∧ x.source = 0 ∧ x.acct = Tag.low6 f.handle.tag ∧
          x.vheld = true ∧ x.version = s.rd F.CLS_VER_CUR ∧ x.stage = .ready s.sched.seq ∧
          x.words = [f.handle, Word.zero,
            Word.data (BitVec.ofNat 64 (a % 2 ^ 32 * 2 ^ 32 + i % 4096 * 2 ^ 20 + 2 ^ 19 + f.port * 2 ^ 8)),
            Word.data (BitVec.ofNat 64 (beNat ((rcd.drop 8).take 8)))] ∧
          s'.rd F.CLS_MATCH_CNT_COUNT = min (2 ^ F.CLS_MATCH_CNT_COUNT.width - 1) (s.rd F.CLS_MATCH_CNT_COUNT + 1)) ∧
    ∀ f r s₁ b, s.frames = f :: r → f.parsed = true → f.port < 48 ∨ f.port = 64 ∨ f.port = 65 →
      s.readBytes (s.bufBase f.handle) 64 = (s₁, b) →
      let rcd := b.bytes
      let acct := s.portAcct f.port
      let first := (halfAt rcd 24).testBit 0
      let later := (halfAt rcd 24).testBit 1
      let keys := s.profKeys rcd acct (s.rd F.CLS_FRAG_CTL_PROFILE)
      let others := s.cls.follow.filter (fun e => !(e.port == f.port && e.keys == keys))
      let quiet := s.is (F.UPL_CTL_PAUSE_TX_EN 0) = false ∧ s.is (F.UPL_CTL_PAUSE_TX_EN 1) = false
      let slowGroup := if s.rd F.CLS_SLOW_GROUP = 15 then 14 else s.rd F.CLS_SLOW_GROUP
      let dropped := fun (s' : State) => s'.tasks = s.tasks ∧ counts F.CLS_DROP_CNT_COUNT s s' ∧ givenBack f.handle s₁ s'
      let tasked := fun (s' : State) (v origin p g d : Nat) (rule user : Option Nat) =>
        (s.admits g = false → s'.tasks = s.tasks ∧ counts F.SCH_REFUSE_PORT_CNT_COUNT s s' ∧ (quiet → givenBack f.handle s₁ s')) ∧
        (s.admits g = true → s.tasks.length < 65536 → ∃ n x, s'.task n = some x ∧ (∀ m, m ≠ n → s'.task m = s.task m) ∧
          x.domain = some d ∧ x.prio = p ∧ x.group = g ∧ x.source = 0 ∧ x.acct = Tag.low6 f.handle.tag ∧ x.vheld = true ∧
          x.version = v ∧
          (s.domType d ≠ 1 ∨ (∀ e ∈ s.tasks, e.2.domain = some d → s.sched.seq ≤ e.2.seq) → x.stage = .ready s.sched.seq) ∧
          (s.domType d = 1 → (∃ e ∈ s.tasks, e.2.domain = some d ∧ e.2.seq < s.sched.seq) → x.stage = .waiting) ∧
          ∃ i u, (∀ j, rule = some j → i = j) ∧ (∀ w, user = some w → u = w) ∧ x.words = [f.handle, Word.zero,
            Word.data (BitVec.ofNat 64 (u * 2 ^ 32 + i % 4096 * 2 ^ 20 + (if rule.isSome then 1 else 0) * 2 ^ 19 +
              origin * 2 ^ 17 + f.port * 2 ^ 8)), Word.data (BitVec.ofNat 64 (beNat ((rcd.drop 8).take 8)))])
      let slow := fun (s' : State) (v origin : Nat) (rule user : Option Nat) =>
        tasked s' v origin (s.rd F.CLS_SLOW_PRIO) slowGroup (s.rd F.CLS_SLOW_DOMAIN) rule user
      let acts := fun (s' : State) (origin a : Nat) (rule : Option Nat) =>
        let g := bits a 55 4
        let d := (bits a 43 12 + (if bits a 42 1 = 1 then halfAt rcd (32 + 2 * bits a 38 4) else 0)) % 4096
        (bits a 62 2 = 1 → g ≠ 15 → quiet → dropped s') ∧
        (bits a 62 2 = 0 → g ≠ 15 → tasked s' s.cur origin (bits a 59 3) g d rule (some (a % 2 ^ 32))) ∧
        (2 ≤ bits a 62 2 ∨ g = 15 → slow s' s.cur origin rule (some (a % 2 ^ 32)))
      let matched := fun (s' : State) =>
        (∀ i, s.winner rcd acct s.cur = some i →
          let a := s.cls.word i 13 * 2 ^ 32 + s.cls.word i 12
          counts F.CLS_MATCH_CNT_COUNT s s' ∧ (0 < bits a 32 6 → counts (F.CLS_HIT_COUNT (bits a 32 6 - 1)) s s') ∧
            acts s' 0 a (some i)) ∧
        (s.winner rcd acct s.cur = none → counts F.CLS_MISS_CNT_COUNT s s' ∧
          acts s' 1 (s.rd F.CLS_MISS_ACTION_HI_ACTION * 2 ^ 32 + s.rd F.CLS_MISS_ACTION_LO_ACTION) none)
      ∃ s', exec .classify s = .next s' ∧ s'.frames = r ∧
        (first = false → later = false → matched s' ∧ s'.cls = s.cls) ∧
        (first = true ∨ later = true → s.followMode f.port = false → counts F.CLS_SLOW_CNT_COUNT s s' ∧ s'.cls = s.cls ∧
          slow s' s.cur 3 none none) ∧
        (s.followMode f.port = true → later = true →
          s'.cls = s.cls ∧
          (∀ e, s.cls.follow.find? (fun e => e.port == f.port && e.keys == keys) = some e →
            counts F.CLS_FRAG_HIT_CNT_COUNT s s' ∧ (e.outcome.drop = true → quiet → dropped s') ∧
            (e.outcome.drop = false → tasked s' e.version 2 e.outcome.prio e.outcome.group e.outcome.domain e.rule
              (some e.outcome.user))) ∧
          (others = s.cls.follow → counts F.CLS_FRAG_MISS_CNT_COUNT s s' ∧ slow s' s.cur 3 none none)) ∧
        (s.followMode f.port = true → later = false → first = true → matched s' ∧
          (1024 ≤ others.length → counts F.CLS_FRAG_FULL_CNT_COUNT s s' ∧ s'.cls = s.cls) ∧
          (others.length < 1024 → ∃ o, s'.cls = { s.cls with follow := others ++
              [⟨f.port, keys, s.cur, s.winner rcd acct s.cur, o, s.nowNs⟩] } ∧
            ∀ i, s.winner rcd acct s.cur = some i →
              let a := s.cls.word i 13 * 2 ^ 32 + s.cls.word i 12
              o.user = a % 2 ^ 32 ∧ o.drop = decide (bits a 62 2 = 1 ∧ bits a 55 4 ≠ 15) ∧
              (bits a 62 2 = 0 → bits a 55 4 ≠ 15 → o.prio = bits a 59 3 ∧ o.group = bits a 55 4 ∧
                o.domain = (bits a 43 12 + (if bits a 42 1 = 1 then halfAt rcd (32 + 2 * bits a 38 4) else 0)) % 4096) ∧
              (2 ≤ bits a 62 2 ∨ bits a 55 4 = 15 → o.prio = s.rd F.CLS_SLOW_PRIO ∧ o.group = slowGroup ∧
                o.domain = s.rd F.CLS_SLOW_DOMAIN)))) ∧
  (∀ (s : State),
    let cur := s.rd F.CLS_VER_CUR
    let i := s.rd F.CLS_RULE_SEL_RULE
    let w15 := s.cls.word i 15
    (s.mainOn = true → s.passBusy = false →
      ((cur + 1) % 256 + 256 - s.oldest) % 256 ≤ 126 → ∃ s', exec .clsCommit s = .next s' ∧ onlyRegs [A.CLS_VER] s s' ∧
        s'.rd F.CLS_VER_CUR = (cur + 1) % 256) ∧
    (s.mainOn = true → s.passBusy = false → 126 < ((cur + 1) % 256 + 256 - s.oldest) % 256 →
      ∃ s', exec .clsCommit s = .next s' ∧ onlyRegs [A.CLS_COMMIT_STATUS] s s' ∧ s'.is F.CLS_COMMIT_STATUS_REFUSED = true) ∧
    (s.passBusy = false → exec .sweepPass s = .next s) ∧
    (s.passBusy = true → ∃ s', exec .sweepPass s = .next s' ∧ onlyRegs [A.CLS_RETIRED] { s with cls := s'.cls } s' ∧
      s'.passBusy = false ∧ s'.cls.follow = s.cls.follow ∧
      ∀ j, j < 4096 → twf (fun _ => (0 : BitVec 32)) s.cls.rules = true →
        s'.cls.word j 15 = (sweepWord s.oldest (s.cls.word j 15)).1) ∧
    (s.mainOn = true → ∀ (w : Fin 16) (v : BitVec 32),
      (w.val < 15 → bits w15 0 1 = 1 → ∃ s', exec (.ruleWordWrite w v) s = .next s' ∧ onlyRegs [A.CLS_ERR] s s' ∧
        s'.is F.CLS_ERR_REFUSED = true ∧ s'.rd F.CLS_ERR_CAUSE = 1 ∧ s'.rd F.CLS_ERR_RULE = i) ∧
      (w.val < 10 → bits w15 0 1 = 0 → ∃ s', exec (.ruleWordWrite w v) s = .next s' ∧ s' = { s with cls := s'.cls } ∧
        s'.cls.word i w.val = v.toNat ∧ ∀ j x, x < 16 → (j ≠ i ∨ x ≠ w.val) → s'.cls.word j x = s.cls.word j x)) ∧
    (∀ k : Fin 1024, s.cls.follow.length ≤ k.val → exec (.fragEntryExpiry k) s = .next s) ∧
    (∀ (k : Fin 1024) e, s.cls.follow[k.val]? = some e →
      let due := e.made + max 1 (s.rd F.CLS_FRAG_TMO_MS) * 1000000
      (s.nowNs < due → exec (.fragEntryExpiry k) s = .next s) ∧
      (due ≤ s.nowNs → ∃ s', exec (.fragEntryExpiry k) s = .next s' ∧
        onlyRegs [A.CLS_FRAG_EXPIRED_CNT] { s with cls := { s.cls with follow := s.cls.follow.eraseIdx k.val } } s' ∧
        s'.rd F.CLS_FRAG_EXPIRED_CNT_COUNT =
          min (2 ^ F.CLS_FRAG_EXPIRED_CNT_COUNT.width - 1) (s.rd F.CLS_FRAG_EXPIRED_CNT_COUNT + 1))) ∧
    (s.mainOn = true → ∀ v : BitVec 32, ∃ s', exec (.fragFlush v) s = .next s' ∧
      onlyRegs [A.CLS_FRAG_CTL] { s with cls := { s.cls with follow := [] } } s' ∧ s'.is F.CLS_FRAG_CTL_FLUSH_BUSY = true ∧
      s'.rd F.CLS_FRAG_CTL_PROFILE = bits v.toNat 0 4) ∧
    (∃ s', exec .fragFlushDone s = .next s' ∧ onlyRegs [A.CLS_FRAG_CTL] s s' ∧ s'.is F.CLS_FRAG_CTL_FLUSH_BUSY = false))

/-! ### The ring -/

/-- Ring links. A port in training on a good reference ends it UP with LINK_ACK sent, at full rate where the loss is at most
22.0 dB, at most three bypassed nodes lie between and the peer allows it, its TRAIN sets saying so, or DOWN with BREAK; 100 ms
after that it trains again; LINK_ACK goes out every 100 µs and BREAK every 10 µs; the second LINK_ACK inserts a splicing node,
but not later than 1 µs before the end of the cycle; a BREAK takes the port DOWN, and so does a loss of lock of 4 µs, but not
one that is a splice of the open window, begun within 0.5 µs after S, before it has lasted 10 µs, nor that of a neighbour's
removal before step 3 of the cycle of its BREAK has passed, and a lock that comes too late after either finds the port DOWN;
an inserted node wraps that side. A port that locks again on a new link forgets the old one's exchange. Without the reference
no lock and no LINK_ACK comes in. Where the model chose: log entries 3, 100, 102, 115, 208, 232. -/
def Obligations.RingLinks : Prop :=
  ∀ (p : Fin 2) (loss : BitVec 10) (addr seq reason : BitVec 8) (full half : Bool) (s : State),
    let n := p.val
    let st := s.rd F.RING_STATUS_STATE
    let link := s.rd (F.PORT_STATUS_LINK n)
    let x := s.rport n
    let side := if n = 0 then F.RING_STATUS_WRAP_E else F.RING_STATUS_WRAP_W
    let joining := st = 2 ∧ s.ring.direct = false
    let ref := s.is F.TMR_REF_REF25_OK
    let own := loss.toNat ≤ 220 ∧ s.bypassed n (if seq = 0 then addr.toNat else seq.toNat) ≤ 3
    let point := s.ringTimes.1 * 1000 - s.ringTimes.2.2 * 1000
    let window := s.ring.opened = some (s.ringCycle % 2 ^ 32)
    let splice := window ∧ point + 4000 ≤ s.inCycle ∧ s.inCycle ≤ point + 4000 + 500
    let relock := x.removed ≠ none ∧ x.lock = false ∧ x.lost = none
    let past := window ∧ point ≤ s.inCycle
    let step3 := x.removed ≠ some s.ringCycle ∨ point + 8500 < s.inCycle
    let early := s.ringNow + 1000 < (s.ring.splice + 1) * (s.ringTimes.1 * 1000)
    let late := 3 ≤ st ∧ link = 2 ∧ ((relock ∧ step3) ∨ ∃ t, x.lost = some t ∧ t + 10000 ≤ s.nowNs)
    let newLink := fun (y : RPort) => y.delayOk = false ∧ y.echo = none ∧ y.linkAt = none
    let sent := fun (c : Instr) (d1 d2 d3 : Nat) => ∃ s', exec c s = .next s' ∧
      s' = { s with ring := s'.ring, out := s.out ++ [Output.oset n d1 d2 d3] }
    let down := fun (c : Instr) => (link = 0 → exec c s = .next s) ∧ (link ≠ 0 → ∃ s', exec c s = .next s' ∧
      onlyRegs [A.PORT_STATUS n, A.PORT_DOWN_CNT n, A.RING_STATUS, A.WRAP_CNT]
        { s with threads := s'.threads, ring := s'.ring, out := s.out ++ [Output.oset n 0xA3 1 s.rseq] } s' ∧
      s'.rd (F.PORT_STATUS_LINK n) = 0 ∧ counts (F.PORT_DOWN_CNT_COUNT n) s s' ∧
      (3 ≤ st → s.is side = false → s'.is side = true ∧ counts F.WRAP_CNT_COUNT s s' ∧ pends .ringState s s') ∧
      (st < 3 ∨ s.is side = true → s'.is side = s.is side ∧ s'.threads = s.threads ∧
        s'.rd F.WRAP_CNT_COUNT = s.rd F.WRAP_CNT_COUNT))
    (∀ ok, link ≠ 1 → exec (.linkTraining p ok loss addr seq full) s = .next s) ∧
    (∀ ok, link = 1 → ok = false ∨ ref = false → ∃ s', exec (.linkTraining p ok loss addr seq full) s = .next s' ∧
      onlyRegs [A.PORT_STATUS n] { s with ring := s'.ring, out := s.out ++ [Output.oset n 0xA3 2 s.rseq] } s' ∧
      s'.rd (F.PORT_STATUS_LINK n) = 0 ∧ s'.rd (F.PORT_STATUS_LOSS_EST n) = loss.toNat) ∧
    (link = 1 → ref = true → ∃ s', exec (.linkTraining p true loss addr seq full) s = .next s' ∧
      s'.out = s.out ++ [Output.oset n 0xA2 (if own then 1 else 0) s.rseq] ++
        (if own ∧ full = true then [] else [Output.oset n 0xA2 2 s.rseq]) ++ [Output.oset n 0xA1 s.raddr s.rseq] ∧
      s'.rd (F.PORT_STATUS_LINK n) = 2 ∧ s'.rd (F.PORT_STATUS_RATE n) = (if own ∧ full = true then 0 else 1) ∧
      s'.rd (F.PORT_STATUS_PEER_ADDR n) = addr.toNat ∧ s'.rd (F.PORT_STATUS_PEER_SEQ n) = seq.toNat ∧
      (¬ (st = 2 ∧ s.ring.direct = true) →
        onlyRegs [A.PORT_STATUS n] { s with ring := s'.ring, out := s'.out } s') ∧
      (st = 2 → s.ring.direct = true → s'.rd F.RING_STATUS_STATE = 3 ∧
        s'.rd F.RING_STATUS_ROLE = if s.is F.RING_CTL_MASTER_CAPABLE then 2 else 1)) ∧
    (2 ≤ st ∧ link = 0 ∧ ¬ joining ∧ ref = true ∧ x.since + 100000000 ≤ s.nowNs → ∃ s', exec (.trainingRetry p) s = .next s' ∧
      onlyRegs [A.PORT_STATUS n] { s with out := s.out ++ [Output.oset n 0xA2 0 s.rseq] } s' ∧
      s'.rd (F.PORT_STATUS_LINK n) = 1) ∧
    (¬ (2 ≤ st ∧ link = 0 ∧ ¬ joining ∧ ref = true ∧ x.since + 100000000 ≤ s.nowNs) → exec (.trainingRetry p) s = .next s) ∧
    (link = 2 ∧ (∀ t, x.ackAt = some t → t + 100000 ≤ s.nowNs) → sent (.linkAckSend p) 0xA1 s.raddr s.rseq) ∧
    (¬ (link = 2 ∧ ∀ t, x.ackAt = some t → t + 100000 ≤ s.nowNs) → exec (.linkAckSend p) s = .next s) ∧
    (2 ≤ st ∧ link = 0 ∧ ¬ joining ∧ (∀ t, x.breakAt = some t → t + 10000 ≤ s.nowNs) →
      sent (.breakSend p) 0xA3 x.reason s.rseq) ∧
    (¬ (2 ≤ st ∧ link = 0 ∧ ¬ joining ∧ ∀ t, x.breakAt = some t → t + 10000 ≤ s.nowNs) →
      exec (.breakSend p) s = .next s) ∧
    (st < 2 ∨ ref = false → exec (.linkAckReceive p addr seq) s = .next s) ∧
    (st < 2 → exec (.breakReceive p reason) s = .next s ∧
      ∃ s', exec (.lockLoss p) s = .next s' ∧ s' = { s with ring := s'.ring } ∧ (s'.rport n).lock = false) ∧
    (2 ≤ st → ref = true → ∃ s', exec (.linkAckReceive p addr seq) s = .next s' ∧ s'.rd (F.PORT_STATUS_PEER_ADDR n) = addr.toNat ∧
      s'.rd (F.PORT_STATUS_PEER_SEQ n) = seq.toNat ∧ (s'.rd F.RING_STATUS_STATE = 2 → (s'.rport n).ack = true) ∧
      (joining → (s.rport (1 - n)).ack = true → early → s'.rd F.RING_STATUS_STATE = 3 ∧ s'.rd (F.PORT_STATUS_LINK 0) = 2 ∧
        s'.rd (F.PORT_STATUS_LINK 1) = 2 ∧ s'.rd F.RING_STATUS_ROLE = 1 ∧ counts F.SPLICE_OK_CNT_COUNT s s' ∧
        pends .ringState s s' ∧ offers 0x03 0x01 (s.rd F.RING_CYCLE_NUM_CYCLE) s s') ∧
      (¬ joining ∨ (s.rport (1 - n)).ack = false ∨ ¬ early → onlyRegs [A.PORT_STATUS n] { s with ring := s'.ring } s')) ∧
    (2 ≤ st → (relock → step3 → down (.lockLoss p)) ∧ (relock → ¬ step3 → exec (.lockLoss p) s = .next s) ∧
      (¬ relock → x.lost = none → splice → ∃ s', exec (.lockLoss p) s = .next s' ∧ s' = { s with ring := s'.ring } ∧
        (s'.rport n).lock = false ∧ newLink (s'.rport n) ∧ (s'.rport n).lost = some (s.nowNs - 4000)) ∧
      (¬ relock → x.lost = none → ¬ splice → down (.lockLoss p)) ∧
      (¬ relock → ∀ t, x.lost = some t → (t + 10000 ≤ s.nowNs → down (.lockLoss p)) ∧
        (s.nowNs < t + 10000 → exec (.lockLoss p) s = .next s)) ∧ (reason ≠ 3 ∨ link ≠ 2 → down (.breakReceive p reason))) ∧
    (2 ≤ st → link = 2 → ∃ s', exec (.breakReceive p 3) s = .next s' ∧ s' = { s with ring := s'.ring } ∧
      (s'.rport n).removed = some s.ringCycle ∧ (s'.rport n).lock = false ∧ (s'.rport n).lost = none ∧ newLink (s'.rport n)) ∧
    (st = 0 ∨ ref = false → exec (.ringBlockLock p half) s = .next s) ∧ (ref = true → late → down (.ringBlockLock p half)) ∧
    (st ≠ 0 → ref = true → ¬ late → ∃ s', exec (.ringBlockLock p half) s = .next s' ∧ (s'.rport n).lock = true ∧ (s'.rport n).lost = none ∧
      onlyRegs [A.PORT_STATUS n] { s with ring := s'.ring, out := s'.out } s' ∧
      (st = 1 → s'.out = s.out ∧ s'.rd (F.PORT_STATUS_RATE n) = half.toNat) ∧
      (st ≠ 1 → s'.regs = s.regs ∧ s'.out =
        if link = 2 ∨ joining then s.out ++ [Output.oset n 0xA1 s.raddr s.rseq] else s.out) ∧
      (st ≠ 1 → link = 2 ∨ joining → st = 2 ∨ past → newLink (s'.rport n)))

/-- Joining and leaving. JOIN in OFF with ENABLE and an address of 1 to 254 enters LISTEN and sets JOIN_ERR else; LEAVE leaves
an inserted node LEAVING. At the splice point of the open window a listening node with no frame passing enters SPLICING and
puts out idles (a frame that passes defers it, counted), an inserted one unwraps the sides that are UP, a leaving one sends
BREAK with reason 0x03 on both ports and is OFF, or unwraps where a frame passes. None enters it without its supplies in range
and the reference. Two milliseconds without lock on either pair begin the insertion by training; a splice not done by its
deadline returns to LISTEN, counted. Where the model chose: log entries 3, 99, 103, 104, 105. -/
def Obligations.RingMembership : Prop :=
  ∀ (s : State),
    let st := s.rd F.RING_STATUS_STATE
    let per := s.ringTimes.1 * 1000
    let point := s.ring.window = some (s.ringCycle % 2 ^ 32) ∧ per ≤ s.inCycle + s.ringTimes.2.2 * 1000
    let busy := s.is F.ST_RING_CAL_BUSY = true ∨ s.scanning = true ∨ s.supply.vsd = false ∨ s.supply.vio18 = false ∨
      s.is F.TMR_REF_REF25_OK = false
    let quiet := st = 1 ∧ (s.rport 0).lock = false ∧ (s.rport 1).lock = false ∧ s.ring.since + 2000000 ≤ s.nowNs ∧ ¬ busy
    let late := st = 2 ∧ s.ring.direct = false ∧ (s.ring.splice + 1) * per ≤ s.ringNow + 1000
    (s.mainOn = true → ∀ v : BitVec 32,
      let set := fun (f : Fld) => if s.rd F.DICT_STATE_STATE = 1 then bits v.toNat f.lo f.width else s.rd f
      let can := st = 0 ∧ set F.RING_CTL_ENABLE = 1 ∧ 1 ≤ s.raddr ∧ s.raddr ≤ 254
      (∃ s', exec (.join v) s = .next s' ∧ onlyRegs [A.RING_CTL, A.RING_STATUS] { s with ring := s'.ring } s' ∧
        s'.rd F.RING_CTL_ENABLE = set F.RING_CTL_ENABLE ∧ s'.rd F.RING_CTL_MASTER_PRIO = set F.RING_CTL_MASTER_PRIO ∧
        (can → s'.rd F.RING_STATUS_STATE = 1) ∧
        (¬ can → s'.is F.RING_STATUS_JOIN_ERR = true ∧ s'.ring = s.ring ∧
          s'.rd F.RING_STATUS_STATE = if st = 3 ∧ bits v.toNat 2 1 = 1 then 4 else st)) ∧
      (bits v.toNat 1 1 = 0 → ∃ s', exec (.leave v) s = .next s' ∧ onlyRegs [A.RING_CTL, A.RING_STATUS] s s' ∧
        s'.rd F.RING_STATUS_STATE = (if st = 3 then 4 else st) ∧
        s'.rd F.RING_STATUS_JOIN_ERR = s.rd F.RING_STATUS_JOIN_ERR)) ∧
    (∀ pass, ¬ point → exec (.splicePoint pass) s = .next s) ∧
    (point → st = 1 → s.ring.skip = 0 → ¬ busy →
      (∃ s', exec (.splicePoint true) s = .next s' ∧
        onlyRegs [A.SPLICE_DEFER_CNT] { s with ring := { s.ring with window := none } } s' ∧
        counts F.SPLICE_DEFER_CNT_COUNT s s') ∧
      ∃ s', exec (.splicePoint false) s = .next s' ∧ onlyRegs [A.RING_STATUS]
          { s with ring := s'.ring, out := s.out ++ [Output.ring 0 [.idle], Output.ring 1 [.idle]] } s' ∧
        s'.rd F.RING_STATUS_STATE = 2) ∧
    (point → st = 1 → 0 < s.ring.skip ∨ busy → ∀ pass, exec (.splicePoint pass) s =
      .next { s with ring := { s.ring with window := none, skip := s.ring.skip - 1 } }) ∧
    (∀ pass, point → st = 3 ∨ (st = 4 ∧ pass = true) → ∃ s', exec (.splicePoint pass) s = .next s' ∧
      onlyRegs [A.RING_STATUS] { s with ring := { s.ring with window := none } } s' ∧
      s'.is F.RING_STATUS_WRAP_E = (s.is F.RING_STATUS_WRAP_E && s.rd (F.PORT_STATUS_LINK 0) != 2) ∧
      s'.is F.RING_STATUS_WRAP_W = (s.is F.RING_STATUS_WRAP_W && s.rd (F.PORT_STATUS_LINK 1) != 2)) ∧
    (point → st = 4 →
      ∃ s', exec (.splicePoint false) s = .next s' ∧
        s'.out = s.out ++ [Output.oset 0 0xA3 3 s.rseq, Output.oset 1 0xA3 3 s.rseq] ∧ s'.rd F.RING_STATUS_STATE = 0 ∧
        s'.rd F.RING_STATUS_ROLE = 0 ∧ s'.is F.RING_STATUS_WRAP_E = false ∧ s'.is F.RING_STATUS_WRAP_W = false ∧
        s'.rd (F.PORT_STATUS_LINK 0) = 0 ∧ s'.rd (F.PORT_STATUS_LINK 1) = 0 ∧
        (s.rd F.RING_STATUS_ROLE = 0 → offers 0x03 0x02 (s.rd F.RING_CYCLE_NUM_CYCLE) s s')) ∧
    (point → st = 0 ∨ st = 2 → ∀ pass, exec (.splicePoint pass) s = .next { s with ring := { s.ring with window := none } }) ∧
    (¬ quiet → exec .listenTimeout s = .next s) ∧
    (quiet → ∃ s', exec .listenTimeout s = .next s' ∧ onlyRegs [A.RING_STATUS, A.PORT_STATUS 0, A.PORT_STATUS 1]
      { s with ring := { s.ring with direct := true },
               out := s.out ++ [Output.oset 0 0xA2 0 s.rseq, Output.oset 1 0xA2 0 s.rseq] } s' ∧
      s'.rd F.RING_STATUS_STATE = 2 ∧ s'.rd (F.PORT_STATUS_LINK 0) = 1 ∧ s'.rd (F.PORT_STATUS_LINK 1) = 1) ∧
    (¬ late → exec .spliceDeadline s = .next s) ∧
    (late → ∃ s', exec .spliceDeadline s = .next s' ∧
      onlyRegs [A.RING_STATUS, A.SPLICE_FAIL_CNT] { s with ring := s'.ring } s' ∧ s'.rd F.RING_STATUS_STATE = 1 ∧
      s'.ring.skip = 15 ∧ counts F.SPLICE_FAIL_CNT_COUNT s s')

/-- The cycle. A new cycle of ring time sets CYCLE_NUM and RING_CYCLE, under the node's own parameters at a master; in it a
master that no better claim has beaten, and a candidate unbeaten for three cycles, which becomes the master, sends its SWEEP
and its TIME, another candidate a claim, and at any other inserted node one MGMT frame that waits goes out, while a frame that
waits at those waits on; without the reference no SWEEP comes in; a follower processes a good SWEEP, flips its enabled receive
maps and forwards it, a bad one leaves them stale; a returned SWEEP gives its master the attendance, or is counted as bad and
leaves it stale, one that is not back by the gap is counted lost; three cycles without a SWEEP make a capable node a
candidate, three without a TIME end SYNCED; COMMIT is pending until the next SWEEP. Where the model chose: log entries 3, 100,
101, 107, 108, 111, 112, 113, 233, 241. -/
def Obligations.RingCycle : Prop :=
  ∀ (time : BitVec 96) (rx : RingRx) (m : Fin 64) (s : State),
    let st := s.rd F.RING_STATUS_STATE
    let role := s.rd F.RING_STATUS_ROLE
    let rules := (st = 3 ∨ st = 4) ∧ ((role = 3 ∧ s.ring.beaten = false) ∨ (role = 2 ∧ 3 ≤ s.ring.claims))
    let k := s.ringNow / ((if rules then s.rd F.RING_CYCLE_CFG_PERIOD_US else s.ringTimes.1) * 1000)
    let f := RFrame.of rx.bytes
    let head := rx.cut = false ∧ headerOk rx.bytes = true ∧ f.type = 1 ∧ 1 < f.hops ∧ s.raddr ≠ 255
    let begins := s.is F.RING_CTL_ENABLE = true ∧ s.ring.cycle ≠ some s.ringCycle
    let ref := s.is F.TMR_REF_REF25_OK
    let onEast := s.is F.RING_STATUS_WRAP_E = false ∧ s.rd (F.PORT_STATUS_LINK 0) ≠ 1
    let lost := s.inGap = true ∧ role = 3 ∧ s.ring.sweepOut = true
    let absent := st = 3 ∧ s.is F.RING_CTL_MASTER_CAPABLE = true ∧ role < 2 ∧
      s.ring.heard + 3 * (s.ringTimes.1 * 1000) ≤ s.nowNs
    let unsynced := s.is F.RING_STATUS_SYNCED = true ∧ s.ring.timeAt + 3 * (s.ringTimes.1 * 1000) ≤ s.nowNs
    (¬ begins → exec (.cycleStart time) s = .next s) ∧
    (begins → ∃ s', exec (.cycleStart time) s = .next s' ∧ s'.rd F.RING_CYCLE_NUM_CYCLE = k % 2 ^ 32 ∧
      s'.ring.cycle = some k ∧ (role < 2 → s.ring.held = [] → pends .ringCycle s s' ∧
        onlyRegs [A.RING_CYCLE_NUM] { s with threads := s'.threads, ring := { s.ring with cycle := some k } } s') ∧
      (role < 2 → st = 3 ∨ st = 4 → ∀ w r, s.ring.held = w :: r → s.inGap = false → onEast → s'.ring.held = r ∧
        s'.out = s.out ++ [Output.ring 0 (frameBlocks (RFrame.bytes ⟨2, false, w.1, s.raddr, 512, 0, w.2⟩) true)]) ∧
      (role = 2 → st = 3 ∨ st = 4 → s.ring.claims < 3 → onEast → s'.ring.held = s.ring.held ∧ ∃ g : RFrame,
          s'.out = s.out ++ [Output.ring 0 (frameBlocks g.bytes true)] ∧ g.type = 4 ∧ g.dst = 255 ∧ g.src = s.raddr ∧
          g.hops = 512 ∧ byteAt g.payload 20 = s.rd F.RING_CTL_MASTER_PRIO ∧ byteAt g.payload 21 = 1) ∧
      (role = 2 → st = 3 ∨ st = 4 → 3 ≤ s.ring.claims → s'.rd F.RING_STATUS_ROLE = 3 ∧
        s'.rd F.RING_STATUS_MASTER = s.raddr) ∧
      (role = 3 → st = 3 ∨ st = 4 → s.ring.beaten = true → s.ring.held = [] → s'.rd F.RING_STATUS_ROLE = 1 ∧
        s'.out = s.out) ∧
      (rules → onEast → s'.ring.held = s.ring.held ∧ ∃ g h : RFrame,
          s'.out = s.out ++ [Output.ring 0 (frameBlocks g.bytes true), Output.ring 0 (frameBlocks h.bytes true)] ∧
          g.type = 1 ∧ g.dst = 255 ∧ g.src = s.raddr ∧ g.hops = 512 ∧ g.cycle = k % 2 ^ 32 ∧
          g.payload.length = 40 + min 2008 (s.rd F.RING_SWEEP_AREA_LEN) ∧ byteAt g.payload 0 = s.raddr ∧
          halfAt g.payload 4 = s.rd F.RING_CYCLE_CFG_PERIOD_US ∧
          h.type = 4 ∧ h.dst = 255 ∧ h.src = s.raddr ∧ h.cycle = k % 2 ^ 32 ∧ byteAt h.payload 21 = 0 ∧
          s'.ring.sweepOut = true)) ∧
    (¬ lost → exec .gapStart s = .next s) ∧
    (lost → ∃ s', exec .gapStart s = .next s' ∧
      onlyRegs [A.SWEEP_LOST_CNT, A.SWEEP_ATTEND_STAT] { s with ring := { s.ring with sweepOut := false } } s' ∧
      counts F.SWEEP_LOST_CNT_COUNT s s' ∧ s'.is F.SWEEP_ATTEND_STAT_STALE = true) ∧
    (¬ absent → exec .sweepAbsenceTimeout s = .next s) ∧
    (absent → ∃ s', exec .sweepAbsenceTimeout s = .next s' ∧ onlyRegs [A.RING_STATUS, A.ELECTION_CNT, A.REC_LOST]
      { s with threads := s'.threads, ring := s'.ring, recorder := s'.recorder } s' ∧ s'.rd F.RING_STATUS_ROLE = 2 ∧
      counts F.ELECTION_CNT_COUNT s s' ∧ pends .ringState s s' ∧
      offers 0x03 0x03 (s.rd F.RING_STATUS_MASTER * 256 + 2) s s') ∧
    (¬ unsynced → exec .syncTimeout s = .next s) ∧
    (unsynced → ∃ s', exec .syncTimeout s = .next s' ∧ onlyRegs [A.RING_STATUS] s s' ∧
      s'.is F.RING_STATUS_SYNCED = false ∧ s'.rd F.RING_STATUS_ROLE = role ∧ s'.rd F.RING_STATUS_STATE = st) ∧
    (s.mainOn = true → ∃ s', exec (.pdmTxCommit m) s = .next s' ∧ onlyRegs [A.PDM_TX_BANK m.val] s s' ∧
      s'.is (F.PDM_TX_BANK_PENDING m.val) = true ∧ s'.rd (F.PDM_TX_BANK_FRONT m.val) = s.rd (F.PDM_TX_BANK_FRONT m.val)) ∧
    (role = 3 → exec (.sweepProcess rx) s = .next s) ∧
    (role ≠ 3 → exec (.sweepReturn rx) s = .next s) ∧
    (byteAt rx.bytes 0 / 16 ≠ 1 ∨ ref = false → exec (.sweepProcess rx) s = .next s ∧ exec (.sweepReturn rx) s = .next s) ∧
    (role ≠ 3 → 3 ≤ st → ref = true → head → f.src ≠ s.raddr → f.dst = 255 → s.ring.processed ≠ some f.cycle →
      onEast → s.rd (F.PORT_STATUS_LINK 1) ≠ 1 →
      let good := ringCrcOk rx.bytes
      ∃ s' g, exec (.sweepProcess rx) s = .next s' ∧ s'.out = s.out ++ [Output.ring 0 (frameBlocks (RFrame.bytes g) good)] ∧
        g = { f with hops := f.hops - 1, payload := g.payload } ∧ s'.ring.processed = some f.cycle ∧
        (good = true → s'.rd F.RING_STATUS_MASTER = byteAt f.payload 0 ∧ s'.ring.heard = s.nowNs) ∧
        (good = false → counts F.SWEEP_BAD_CNT_COUNT s s' ∧ counts (F.PORT_CRC_ERR_CNT_COUNT 1) s s') ∧
        ∀ j, j < 64 → s'.rd (F.PDM_RX_BANK_FRONT j) = (if s.is (F.PDM_RX_EN j) = true ∧ good = true
            then 1 - s.rd (F.PDM_RX_BANK_FRONT j) else s.rd (F.PDM_RX_BANK_FRONT j)) ∧
          (s.is (F.PDM_RX_EN j) = true → s'.is (F.PDM_RX_BANK_STALE j) = !good)) ∧
    (role = 3 → 3 ≤ st → ref = true → head → f.src = s.raddr → s.ring.sweepOut = true → f.cycle = s.rd F.RING_CYCLE_NUM_CYCLE →
      s.inGap = false → s.ring.cycle = some s.ringCycle → s.rd (F.PORT_STATUS_LINK 1) ≠ 1 →
      let good := ringCrcOk rx.bytes
      ∃ s', exec (.sweepReturn rx) s = .next s' ∧ s'.out = s.out ∧
        s'.ring.sweepOut = false ∧ s'.is F.SWEEP_ATTEND_STAT_STALE = !good ∧
        (good = true → s'.ring.heard = s.nowNs ∧
          ∀ j, j < 8 → (s'.reg (A.SWEEP_ATTEND j)).toNat = leNat ((f.payload.drop (8 + 4 * j)).take 4)) ∧
        (good = false → s'.ring.heard = s.ring.heard ∧ counts F.SWEEP_BAD_CNT_COUNT s s' ∧
          counts (F.PORT_CRC_ERR_CNT_COUNT 1) s s' ∧ ∀ j, j < 8 → s'.reg (A.SWEEP_ATTEND j) = s.reg (A.SWEEP_ATTEND j)))

/-- Frames on the ring. A frame for another node leaves on the other port with one hop less, in blocks, good or bad as it
came, a wrong CRC, a cut and a bad header counted, in LISTEN too; one out of hops is dropped and counted; a node's own frame
is taken off on West; in OFF, at a port in training, and without the reference, nothing happens. A LINK frame echoes the
peer's and gives the link's delay in units of 0.1 ns, and takes a removed node's neighbour DOWN at full rate beyond three
bypassed; a SWEEP that reaches a follower on East is heard, and of another node's that reaches a master only its coming; the
line code gives a receiver the blocks that were sent; a master TIME sets a follower's offset and goes on with the node's
residence and link delay added to its correction. Where the model chose: log entries 3, 106, 110, 116, 234, 235. -/
def Obligations.RingForwarding : Prop :=
  ∀ (p : Fin 2) (rx : RingRx) (time : BitVec 96) (s : State),
    let n := p.val
    let st := s.rd F.RING_STATUS_STATE
    let f := RFrame.of rx.bytes
    let head := rx.cut = false ∧ headerOk rx.bytes = true
    let good := head ∧ ringCrcOk rx.bytes = true
    let passes := 1 < f.hops ∧ ¬ (f.src = s.raddr ∧ n = 1)
    let ahead := s.is (if n = 0 then F.RING_STATUS_WRAP_W else F.RING_STATUS_WRAP_E) = false ∧
      s.rd (F.PORT_STATUS_LINK (1 - n)) ≠ 1
    let ref := s.is F.TMR_REF_REF25_OK
    let up := 2 ≤ st ∧ s.rd (F.PORT_STATUS_LINK n) ≠ 1 ∧ ref = true
    let q := if byteAt f.payload 1 = 0 then byteAt f.payload 0 else byteAt f.payload 1
    let tooFar := (s.rport n).removed ≠ none ∧ s.rd (F.PORT_STATUS_RATE n) = 0 ∧ 3 < s.bypassed n q
    let o := frameBlocks (RFrame.bytes { f with hops := f.hops - 1 })
    let at8 := fun i => beNat ((f.payload.drop i).take 8)
    let stamp := min rx.time.toNat (s.nowNs * 2 ^ 32 + s.nowFrac + 40 * 2 ^ 32)
    (st = 0 ∨ s.rd (F.PORT_STATUS_LINK n) = 1 ∨ ref = false → exec (.ringFrameReceive p rx) s = .next s) ∧
    (ref = false → exec (.linkFrameReceive p rx) s = .next s ∧ exec (.timeFrameReceive p rx) s = .next s) ∧
    (st = 1 → s.rd (F.PORT_STATUS_LINK n) ≠ 1 → ref = true → rx.cut = true ∨ headerOk rx.bytes = false →
      ∃ s', exec (.ringFrameReceive p rx) s = .next s' ∧ onlyRegs [A.PORT_CUT_CNT n, A.PORT_LEN_ERR_CNT n] s s' ∧
        (if rx.cut then counts (F.PORT_CUT_CNT_COUNT n) s s' else counts (F.PORT_LEN_ERR_CNT_COUNT n) s s')) ∧
    (up → rx.cut = false → headerOk rx.bytes = false → ∃ s', exec (.ringFrameReceive p rx) s = .next s' ∧
      onlyRegs [A.PORT_LEN_ERR_CNT n, A.PORT_HOPS_DROP_CNT n] { s with out := s'.out } s' ∧
      counts (F.PORT_LEN_ERR_CNT_COUNT n) s s' ∧
      (f.type = 5 ∨ ¬ passes ∨ f.dst = s.raddr → f.dst ≠ 255 → f.type ≠ 3 → s'.out = s.out) ∧
      (f.type ≠ 5 → f.hops ≤ 1 → counts (F.PORT_HOPS_DROP_CNT_COUNT n) s s') ∧
      (f.type = 2 ∨ f.type = 3 → passes → f.dst ≠ s.raddr → 12 ≤ rx.bytes.length → ahead →
        s'.out = s.out ++ [Output.ring (1 - n) (o false)])) ∧
    (up → good → f.type ≠ 5 → f.hops ≤ 1 → ∃ s', exec (.ringFrameReceive p rx) s = .next s' ∧
      onlyRegs [A.PORT_HOPS_DROP_CNT n] s s' ∧ counts (F.PORT_HOPS_DROP_CNT_COUNT n) s s') ∧
    (up → good → f.type ≠ 5 → f.type ≠ 1 → 1 < f.hops → f.src = s.raddr → n = 1 →
      exec (.ringFrameReceive p rx) s = .next s) ∧
    (up → good → f.type = 2 → passes → f.dst = s.raddr → f.dst ≠ 255 →
      exec (.ringFrameReceive p rx) s = .next (s.dictArrive ⟨1, f.src, false, f.payload, none⟩)) ∧
    (up → f.type = 2 ∨ f.type = 3 → passes → f.dst ≠ s.raddr → f.dst ≠ 255 → ahead →
      (good → exec (.ringFrameReceive p rx) s = .next { s with out := s.out ++ [Output.ring (1 - n) (o true)] }) ∧
      (rx.cut = true → headerOk rx.bytes = true → ∃ s', exec (.ringFrameReceive p rx) s = .next s' ∧
        onlyRegs [A.PORT_CUT_CNT n] { s with out := s.out ++ [Output.ring (1 - n) (o false)] } s' ∧
        counts (F.PORT_CUT_CNT_COUNT n) s s') ∧
      (head → ringCrcOk rx.bytes = false → ∃ s', exec (.ringFrameReceive p rx) s = .next s' ∧
        onlyRegs [A.PORT_CRC_ERR_CNT n] { s with out := s.out ++ [Output.ring (1 - n) (o false)] } s' ∧
        counts (F.PORT_CRC_ERR_CNT_COUNT n) s s')) ∧
    (st < 2 ∨ s.rd (F.PORT_STATUS_LINK n) ≠ 2 → exec (.linkFrameSend p time) s = .next s) ∧
    (2 ≤ st → s.rd (F.PORT_STATUS_LINK n) = 2 → (s.rport n).linkAt = none →
      s.inCycle + 1000 + s.ringTimes.2.2 * 1000 ≤ s.ringTimes.1 * 1000 →
      s.rd F.RING_STATUS_ROLE ≠ 3 ∨ s.ring.cycle = some s.ringCycle →
      ∃ s' g, exec (.linkFrameSend p time) s = .next s' ∧
        s' = { s with ring := s'.ring, out := s.out ++ [Output.ring n (frameBlocks (RFrame.bytes g) true)] } ∧
        (s'.rport n).linkAt = some (s.rd F.RING_CYCLE_NUM_CYCLE) ∧ g.type = 5 ∧ g.src = s.raddr ∧
        byteAt g.payload 0 = s.raddr ∧ byteAt g.payload 1 = s.rseq ∧ byteAt g.payload 2 = n) ∧
    (f.type ≠ 5 → exec (.linkFrameReceive p rx) s = .next s) ∧
    (∀ k o, s.out[k]? = some o → fromLine (Config.scrambler k) (s.ringLine k) = o.ringBlocks.map (fun b => (b.data, b.list))) ∧
    (3 ≤ st → s.rd F.RING_STATUS_ROLE ≠ 3 → s.rd (F.PORT_STATUS_LINK n) ≠ 1 → ref = true → n = 0 → good → f.type = 1 → passes → f.dst = 255 →
      s.raddr ≠ 255 → ∃ s', exec (.ringFrameReceive p rx) s = .next s' ∧
      onlyRegs [A.RING_STATUS, A.RING_CYCLE_NUM] { s with ring := s'.ring, out := s'.out } s' ∧ s'.ring.heard = s.nowNs ∧
      s'.rd F.RING_STATUS_MASTER = byteAt f.payload 0 ∧
      s'.ringTimes = (halfAt f.payload 4, byteAt f.payload 6, byteAt f.payload 7) ∧
      (byteAt f.payload 1 % 2 = 1 → s'.ring.window = some f.cycle ∧ s'.ring.opened = some f.cycle)) ∧
    (3 ≤ st → s.rd F.RING_STATUS_ROLE = 3 → up → good → f.type = 1 → passes → f.dst = 255 → s.raddr ≠ 255 → ahead →
      ∃ g : RFrame, exec (.ringFrameReceive p rx) s = .next { s with
          ring := { s.ring with heard := s.nowNs }, out := s.out ++ [Output.ring (1 - n) (frameBlocks g.bytes true)] } ∧
        g = { f with hops := f.hops - 1, payload := g.payload }) ∧
    (up → good → f.type = 5 → tooFar → s.rd (F.PORT_STATUS_LINK n) = 2 →
      ∃ s', exec (.linkFrameReceive p rx) s = .next s' ∧ s'.rd (F.PORT_STATUS_LINK n) = 0 ∧ counts (F.PORT_DOWN_CNT_COUNT n) s s' ∧
        s'.out = s.out ++ [Output.oset n 0xA3 1 s.rseq]) ∧
    (up → good → f.type = 5 → ¬ tooFar → ∃ s', exec (.linkFrameReceive p rx) s = .next s' ∧
      onlyRegs [A.PORT_DELAY n] { s with ring := s'.ring } s' ∧
      (s'.rport n).echo = some (at8 4, stamp / 2 ^ 32) ∧ (s'.rport n).removed = none ∧
      s'.rd (F.PORT_DELAY_DELAY n) = if at8 12 = 0 ∧ at8 20 = 0 then s.rd (F.PORT_DELAY_DELAY n) else
        (((stamp : Int) - ((at8 12 : Int) + at8 4 - at8 20) * 2 ^ 32) * 5 / 2 ^ 32 % 65536).toNat) ∧
    (f.type ≠ 4 → exec (.timeFrameReceive p rx) s = .next s) ∧
    (up → good → f.type = 4 → passes → f.dst = 255 → s.raddr ≠ 255 → ahead → byteAt f.payload 21 % 2 = 0 →
      s.rd F.RING_STATUS_ROLE < 2 →
      let link : Int := s.rd (F.PORT_DELAY_DELAY n) * 2 ^ 32 / 10
      let from_ : Int := at8 0 * 2 ^ 32 + beNat ((f.payload.drop 8).take 4)
      ∃ s' g, exec (.timeFrameReceive p rx) s = .next s' ∧ s'.rd F.RING_STATUS_MASTER = f.src ∧
        (s'.pair F.RING_OFS_LO_OFS F.RING_OFS_HI_OFS : Int) =
          (from_ + signedOf 64 (at8 12) * 65536 + link - stamp) / 2 ^ 32 % 2 ^ 64 ∧
        s'.ring.timeAt = s.nowNs ∧ (3 ≤ st → (s.rport n).delayOk = true → s'.is F.RING_STATUS_SYNCED = true) ∧
        s'.out = s.out ++ [Output.ring (1 - n) (frameBlocks (RFrame.bytes g) true)] ∧
        g = { f with hops := f.hops - 1, payload := g.payload } ∧
        g.payload.length = f.payload.length ∧ (20 ≤ f.payload.length →
          beNat ((g.payload.drop 12).take 8) =
            (at8 12 + rx.res.toNat + s.rd (F.PORT_DELAY_DELAY n) * 65536 / 10) % 2 ^ 64))

/-! ### The dictionary -/

/-- The engine serves the request at the head of its queue, during standby entry the first that names an always-on entry, and
answers it where no earlier response of its transport is still to come: a message that is not well formed is dropped and
counted; one that is not authentic is answered AUTH and counted; a READ is answered with the entry's value, a DESCRIBE with
its descriptor, a WRITE with the result of writing its entry, an unknown entry with NO_ENTRY or NO_SUB, too low a role with
ACCESS, a state its STATES forbids with STATE (for a posted write with an ALARM and entry 0140 instead, and with nothing on
success); an entry that a register field or a pair of them backs is read from the register as the M-bus shows it, and written
to it by read-modify-write, as software would write it, but a command bit written 0 does nothing; OPEN adds a session and is
answered under its key; CLOSE deletes it; NODE_RESET is accepted from role 2 on, and follows once its response has left. A
request of another service, an empty queue and an engine that does not run leave everything as it is. Where the model chose:
log entries 14, 117, 118, 121, 129, 130, 131, 134, 237. -/
def Obligations.DictRequests : Prop :=
  ∀ (s : State) (m : EfMsg) (rest : List EfMsg) (role : Nat),
    let runs := s.mainOn = true ∧ s.rd F.DICT_STATE_STATE ≠ 5
    let takes := (runs ∧ s.dict.inbox = m :: rest) ∨
      (¬ runs ∧ s.phase = .entering ∧ takeFirst EfMsg.alwaysOn s.dict.inbox = some (m, rest))
    let head := takes ∧ m.key = none ∧ m.wellFormed = true
    let key := if m.tagged then (oget s.dict.sessions m.session).map Session.key else none
    let b := m.body
    let index := halfAt b 0
    let sub := byteAt b 2
    let spi := m.path = 3 ∧ s.dict.pending.length < 8 ∧ ∀ x ∈ s.dict.replies, x.path ≠ 3
    let replied := fun (c : Instr) (code : Nat) (body : List Byte) (k : Option (List Byte)) => ∃ s', exec c s = .next s' ∧
      onlyRegs [A.DICT_REQ_CNT, A.DICT_BUSY_CNT, A.DICT_AUTH_CNT] { s with dict := s'.dict, freeCount := s'.freeCount } s' ∧
      counts F.DICT_REQ_CNT_COUNT s s' ∧ s'.dict.inbox = rest ∧ s'.dict.fwd = s.dict.fwd ∧
      s'.dict.pending = s.dict.pending ++ [mkMessage m.service code m.session m.echo body k]
    let served := fun (s₁ : State) => onlyRegs [A.DICT_REQ_CNT] { s with dict := s₁.dict } s₁ ∧
      counts F.DICT_REQ_CNT_COUNT s s₁ ∧ s₁.dict.inbox = rest ∧ s₁.dict.pending = s.dict.pending ∧ s₁.dict.replies = s.dict.replies
    let ok := head ∧ spi ∧ s.auth m = some role
    let renewed := fun (s' : State) => m.tagged = true → ∃ x, oget s.dict.sessions m.session = some x ∧
      oget s'.dict.sessions m.session =
        some { x with counter := m.counter, opened := true, at_ := s.nowNs, fails := 0 }
    let all : List (Instr × Nat) := [(.read, 1), (.write, 2), (.writePosted, 3), (.describe, 4), (.openSession, 5),
      (.closeSession, 6), (.nodeReset, 8)]
    (∀ c ∈ all, ((¬ runs ∧ (s.phase = .entering → ∀ x ∈ s.dict.inbox, x.alwaysOn = false)) ∨ s.dict.inbox = [] ∨
        (head ∧ m.service ≠ c.2) → exec c.1 s = .next s) ∧
      (takes → m.wellFormed = false → ∃ s', exec c.1 s = .next s' ∧
        onlyRegs [A.DICT_DROP_CNT] { s with dict := { s.dict with inbox := rest } } s' ∧ counts F.DICT_DROP_CNT_COUNT s s') ∧
      (head → spi → m.service = c.2 → m.service ≠ 3 → s.auth m = none → replied c.1 8 [] none ∧
        ∀ s', exec c.1 s = .next s' → counts F.DICT_AUTH_CNT_COUNT s s' ∧ ∀ x, oget s.dict.sessions m.session = some x →
          (x.fails < 2 → oget s'.dict.sessions m.session = some { x with fails := x.fails + 1 }) ∧
          (2 ≤ x.fails → oget s'.dict.sessions m.session = none))) ∧
    (ok → m.service = 1 → b.length = 8 → ∀ f, s.lookup false index sub = f →
      (∀ r, f = .inr r → replied .read r.code [] key) ∧
      (∀ e, f = .inl e → meets e.rd role = false → replied .read 3 [] key) ∧
      (∀ e v n, f = .inl e → e.back = .const v → e.fw = false → typeSize e.type = some n →
        meets e.rd role = true → beNat ((b.drop 4).take 4) = 0 →
          replied .read 0 (beBytes 1 e.type ++ [0] ++ beBytes 2 n ++ beBytes 4 n ++ beBytes n v) key ∧
          ∀ s', exec .read s = .next s' → renewed s')) ∧
    (ok → m.service = 1 → b.length = 8 → ∀ e n, s.lookup false index sub = .inl e → e.fw = false → typeSize e.type = some n →
      meets e.rd role = true → beNat ((b.drop 4).take 4) = 0 →
      let answers := fun (s₁ : State) (v : Nat) => ∃ s', exec .read s = .next s' ∧ counts F.DICT_REQ_CNT_COUNT s s' ∧
        s'.dict = { s₁.dict with pending := s.dict.pending ++
          [mkMessage 1 0 m.session m.echo (beBytes 1 e.type ++ [0] ++ beBytes 2 n ++ beBytes 4 n ++ beBytes n v) key] }
      (∀ f, e.back = .reg f → ∃ s₁, served s₁ ∧
        let r := s₁.mbusRead .other f.addr
        answers s₁ (bits r.2.toNat f.lo f.width)) ∧
      (∀ lo hi, e.back = .pair lo hi → ∃ s₁, served s₁ ∧
        let r := s₁.mbusRead .other lo.addr
        let q := r.1.mbusRead .other hi.addr
        answers s₁ (bits r.2.toNat lo.lo lo.width + bits q.2.toNat hi.lo hi.width * 2 ^ lo.width))) ∧
    (ok → s.mainOn = true → m.service = 2 ∨ m.service = 3 → 8 ≤ b.length → b.length = 8 + halfAt b 4 →
      ∀ e, s.lookup true index sub = .inl e → meets e.wr role = true → e.fw = false →
      s.rd F.DICT_STATE_STATE ≠ 0 → e.states.testBit (s.rd F.DICT_STATE_STATE) = true → byteAt b 3 = e.type →
      e.lengthOk (halfAt b 4) = true → e.rangeOk (b.drop 8) = true →
      let v := beNat (b.drop 8)
      let c := if m.service = 2 then Instr.write else Instr.writePosted
      let answers := fun (s₁ : State) => (m.service = 3 → exec c s = .next s₁) ∧
        (m.service = 2 → s₁.dict.replies = s.dict.replies → s₁.dict.pending = s.dict.pending → exec c s = .next { s₁ with
          dict := { s₁.dict with pending := s.dict.pending ++ [mkMessage 2 0 m.session m.echo [] key] } })
      (∀ f, e.back = .reg f → f ≠ F.DICT_STATE_CMD_CMD →
        (f.width = 1 → v = 0 → fldAcc f = .wo → ∃ s₁, served s₁ ∧ answers s₁) ∧
        (¬ (f.width = 1 ∧ v = 0 ∧ fldAcc f = .wo) → ∃ s₁ s₂, served s₁ ∧ fieldWrite f v s₁ s₂ ∧ answers s₂)) ∧
      (∀ lo hi, e.back = .pair lo hi → ∃ s₁ s₂ s₃, served s₁ ∧ fieldWrite lo v s₁ s₂ ∧
        fieldWrite hi (v / 2 ^ lo.width) s₂ s₃ ∧ answers s₃)) ∧
    (ok → m.service = 4 → b.length = 4 → ∀ f, s.lookup false index sub = f →
      (∀ r, f = .inr r → replied .describe r.code [] key) ∧
      (∀ e, f = .inl e → replied .describe 0 (e.descriptor index sub) key ∧
        ∀ s', exec .describe s = .next s' → renewed s')) ∧
    (ok → m.service = 2 ∨ m.service = 3 → 8 ≤ b.length → b.length = 8 + halfAt b 4 → ∀ e, s.lookup true index sub = .inl e →
      meets e.wr role = true → e.fw = false →
      let c := if m.service = 2 then Instr.write else Instr.writePosted
      let mayNow := s.rd F.DICT_STATE_STATE ≠ 0 ∧ e.states.testBit (s.rd F.DICT_STATE_STATE) = true
      let fits := byteAt b 3 = e.type ∧ e.lengthOk (halfAt b 4) = true
      (m.service = 2 → (¬ mayNow → replied c 4 [] key) ∧ (mayNow → ¬ fits → replied c 5 [] key) ∧
        (mayNow → fits → e.rangeOk (b.drop 8) = false → replied c 6 [] key)) ∧
      (m.service = 3 → ¬ mayNow → ∃ s', exec c s = .next s' ∧ s'.dict.postErr =
          ⟨m.writer, beNat (b.take 3) * 256, 4, s.nowNs, min 0xFFFFFFFF (s.dict.postErr.count + 1)⟩ ∧
        ∃ x, s'.dict.pending = s.dict.pending ++ [x] ∧ byteAt x 1 = 0x87 ∧ byteAt x 2 = 0x0B) ∧
      (mayNow → fits → e.rangeOk (b.drop 8) = true → ∀ k, e.back = .bind k → s.armed (k / 32) = false →
        ∃ s', exec c s = .next s' ∧ tget (fun _ => 0) s'.dict.binds k = beNat (b.drop 8) ∧
          (∀ j, j ≠ k → tget (fun _ => 0) s'.dict.binds j = tget (fun _ => 0) s.dict.binds j) ∧
          onlyRegs [A.DICT_REQ_CNT] { s with dict := s'.dict } s' ∧ counts F.DICT_REQ_CNT_COUNT s s' ∧
          s'.dict.pending = if m.service = 3 then s.dict.pending
            else s.dict.pending ++ [mkMessage 2 0 m.session m.echo [] key])) ∧
    (ok → m.service = 5 → m.tagged = false → b.length = 20 → byteAt b 0 ≤ 3 →
      let r := byteAt b 0
      (s.sessionAdmitted r = false → replied .openSession 9 [] none) ∧
      (s.sessionAdmitted r = true → 16 ≤ s.dict.sessions.length → replied .openSession 7 [] none) ∧
      (s.sessionAdmitted r = true → s.dict.sessions.length < 16 → (s.dict.sessions.map Prod.fst).Pairwise (· < ·) →
        ∃ s' n x, exec .openSession s = .next s' ∧ 1 ≤ n ∧ oget s.dict.sessions n = none ∧
          oget s'.dict.sessions n = some x ∧ x.role = r ∧ x.path = m.path ∧ x.peer = m.peer ∧ x.counter = 0 ∧
          x.opened = false ∧ x.at_ = s.nowNs ∧ x.fails = 0 ∧
          (∀ j, j ≠ n → oget s'.dict.sessions j = oget s.dict.sessions j) ∧
          ∃ nd, nd.length = 16 ∧ s'.dict.pending =
            s.dict.pending ++ [mkMessage 5 0 n m.echo (beBytes 2 n ++ [0, 0] ++ nd) (some x.key)])) ∧
    (ok → m.service = 6 → m.tagged = true → b = [] →
      replied .closeSession 0 [] key ∧ ∀ s', exec .closeSession s = .next s' → oget s'.dict.sessions m.session = none) ∧
    (ok → m.service = 8 → b.length = 8 → (role < 2 → replied .nodeReset 3 [] key) ∧
      (2 ≤ role → byteAt b 0 = 1 ∨ byteAt b 0 = 2 → beNat (b.drop 4) = Config.serial % 2 ^ 32 →
        replied .nodeReset 0 [] key ∧ ∀ s', exec .nodeReset s = .next s' → renewed s' ∧ s'.dict.reset = s.dict.reset ∧
          s'.dict.leaving = s.dict.leaving ++ [⟨.reset (byteAt b 0), 3, s.dict.pending.length + 1⟩]))

/-- The device states. A command of P-core 0 takes the transitions of Table 12.4 and no other: CONFIG to RUN, SAFE and
STANDBY; RUN to HOLD and SAFE; HOLD to RUN, SAFE and, where the device is quiescent, to CONFIG and STANDBY; SAFE to STANDBY
and, quiescent, to CONFIG; any other command has result STATE. A transition sets STATE and CHG and offers its record; SAFE
also disables every ingress port; STANDBY is answered and asked for, until another command is accepted. Where the model chose:
log entries 3, 15, 134, 209. -/
def Obligations.DeviceStates : Prop :=
  ∀ (s : State),
    let st := s.rd F.DICT_STATE_STATE
    let cmds : List (Instr × Nat) := [(.stateCmdConfig, 1), (.stateCmdRun, 2), (.stateCmdHold, 3), (.stateCmdSafe, 4),
      (.stateCmdStandby, 5)]
    let table : List (Nat × Nat × Bool) := [(1, 2, false), (1, 4, false), (1, 5, false), (2, 3, false), (2, 4, false),
      (3, 2, false), (3, 4, false), (3, 1, true), (3, 5, true), (4, 1, true), (4, 5, false)]
    let quiet := s.tasks = [] ∧ (∀ u, u < 2 → s.is (F.UPL_CTL_EN u) = false) ∧
      (∀ n, n < 48 → s.is (F.CL_CTL_EN n) = false) ∧ s.is F.RING_ETH_RX_EN = false
    ∀ c ∈ cmds, let allowed := ∃ q, (st, c.2, q) ∈ table ∧ (q = true → quiet)
      (s.mainOn = false → exec c.1 s = .next s) ∧
      (s.mainOn = true → ¬ allowed → ∃ s', exec c.1 s = .next s' ∧ onlyRegs [A.DICT_STATE_CMD] s s' ∧
        s'.rd F.DICT_STATE_CMD_RESULT = 4) ∧
      (s.mainOn = true → allowed → c.2 = 5 → ∃ s', exec c.1 s = .next s' ∧
        onlyRegs [A.DICT_STATE_CMD] { s with standby := { s.standby with asked := true } } s' ∧
        s'.rd F.DICT_STATE_CMD_RESULT = 0) ∧
      (s.mainOn = true → allowed → c.2 ≠ 5 → ∃ s', exec c.1 s = .next s' ∧ s'.rd F.DICT_STATE_STATE = c.2 ∧
        s'.is F.DICT_STATE_CHG = true ∧ s'.rd F.DICT_STATE_CMD_RESULT = 0 ∧ s'.standby.asked = false ∧ offers 0x30 c.2 st s s' ∧
        (c.2 = 4 → (∀ u, u < 2 → s'.is (F.UPL_CTL_EN u) = false) ∧ (∀ n, n < 48 → s'.is (F.CL_CTL_EN n) = false) ∧
          s'.is F.RING_ETH_RX_EN = false) ∧
        (c.2 ≠ 4 → onlyRegs [A.DICT_STATE, A.DICT_STATE_CMD, A.DICT_FWD_LATE_CNT, A.REC_LOST]
          { s with recorder := s'.recorder, dict := s'.dict, threads := s'.threads, freeCount := s'.freeCount,
                   standby := { s.standby with asked := false } } s'))

/-- Process-data maps. A receive map that has flipped is applied once: each enabled binding's value, the bytes at its POS in
the front bank, is written to its entry, one whose STATES forbid it is skipped and counted. A transmit map with ARM is sampled
once for each cycle from DICT_PD_LEAD before its start on: the bound values stand at their POS in the back bank, every other
byte of its window is zero, and the bank is committed; where a commit is pending the sample is skipped and counted. Where the
model chose: log entries 3, 132, 134, 205. -/
def Obligations.ProcessData : Prop :=
  ∀ (m : Fin 64) (s : State),
    let runs := s.mainOn = true ∧ s.rd F.DICT_STATE_STATE ≠ 5
    let flip := tget (fun _ => false) s.dict.flipped m.val
    let s₁ := { s with dict := { s.dict with flipped := tset (fun _ => false) s.dict.flipped m.val false } }
    let k := (s.ringNow + s.rd F.DICT_PD_LEAD_US * 1000) / (s.ringTimes.1 * 1000)
    let due := runs ∧ s.armed (64 + m.val) = true ∧ s.is F.RING_CTL_ENABLE = true ∧ tget (fun _ => 0) s.dict.sampled m.val ≠ k
    (¬ runs ∨ flip = false → exec (.pdRxApply m) s = .next s) ∧
    (runs → flip = true → s.armed m.val = false → exec (.pdRxApply m) s = .next s₁) ∧
    (runs → flip = true → s.armed m.val = true → ∀ b e n, (s.bindings m.val).filter (·.en) = [b] → s.boundEntry b = some e →
      typeSize e.type = some n →
      (e.states.testBit (s.rd F.DICT_STATE_STATE) = false → ∃ s', exec (.pdRxApply m) s = .next s' ∧
        onlyRegs [A.DICT_PD_SKIP_CNT] s₁ s' ∧ counts F.DICT_PD_SKIP_CNT_COUNT s s') ∧
      (e.states.testBit (s.rd F.DICT_STATE_STATE) = true →
        let a := s.mapBank false m.val (s.rd (F.PDM_RX_BANK_FRONT m.val)) + b.pos
        (∀ s₂ bs, s₁.mgmtGet a n = (s₂, bs) → exec (.pdRxApply m) s = .next (s₂.writeEntry e 3 (beNat bs)).1) ∧
        (s.bad = [] → a + n ≤ 0x80000 → exec (.pdRxApply m) s = .next (s₁.writeEntry e 3 (beNat ((List.range n).map (fun i =>
          byteOf (s.word (mbusWindow + (a + i) / 8 * 8)).readAs.val ((a + i) % 8))))).1))) ∧
    (¬ due → exec (.pdTxSample m) s = .next s) ∧
    (due → s.is (F.PDM_TX_BANK_PENDING m.val) = true → ∃ s', exec (.pdTxSample m) s = .next s' ∧
      onlyRegs [A.DICT_PD_SKIP_CNT] { s with dict := s'.dict } s' ∧ counts F.DICT_PD_SKIP_CNT_COUNT s s' ∧
      tget (fun _ => 0) s'.dict.sampled m.val = k) ∧
    (due → s.is (F.PDM_TX_BANK_PENDING m.val) = false →
      ∀ b e n v, (s.bindings (64 + m.val)).filter (·.en) = [b] → s.boundEntry b = some e → e.back = .const v →
      typeSize e.type = some n →
      let len := (s.mapWindow true m.val).2
      let bank := s.mapBank true m.val (1 - s.rd (F.PDM_TX_BANK_FRONT m.val))
      b.pos + n ≤ len → bank + len ≤ 0x80000 →
      ∃ s', exec (.pdTxSample m) s = .next s' ∧ s'.is (F.PDM_TX_BANK_PENDING m.val) = true ∧
        tget (fun _ => 0) s'.dict.sampled m.val = k ∧
        onlyRegs [A.PDM_TX_BANK m.val] { s with dict := s'.dict, mem := s'.mem, bad := s'.bad } s' ∧
        (∀ i, i < len → byteOf (s'.word (mbusWindow + bank + i / 8 * 8)).val (i % 8) =
          if b.pos ≤ i ∧ i < b.pos + n then ((beBytes n v)[i - b.pos]?).getD 0 else 0) ∧
        ∀ j, j < mbusWindow + bank ∨ mbusWindow + bank + len ≤ j → s'.word j = s.word j)

/-- The dictionary's transports and its forward queue. A message arrives in the engine's queue, or is answered BUSY where that
is full; POLL and FETCH answer the SPI host and FETCH takes the head of the pending queue, with whose last byte a response has
left; a session not opened in 5 s, or idle for IDLE_S, is deleted; a forwarded request is answered by FWD_RESP with the item's
ID, or BUSY after DICT_FWD_TMO, no sooner than an earlier request of its transport, and a late response is counted; FWD_POP
takes a STATE notice off the head; an SPI command of firmware is passed on. Where the model chose: log entries 3, 15, 117,
122, 123, 124, 125, 181, 205, 210, 211, 237. -/
def Obligations.DictTransport : Prop :=
  ∀ (s : State) (n : BitVec 16) (slot : Fin 16) (v : BitVec 32) (mosi : List Byte) (cmd : BitVec 4) (data : List Byte),
    let len := halfAt mosi 0
    let sub := s.rd F.DICT_SUB_ADDR_ADDR
    let spi : EfMsg := ⟨3, 0, false, (mosi.drop 2).take len, none⟩
    let hostHead := s.dict.pending.headD []
    let sess := oget s.dict.sessions n.toNat
    let gone := fun (c : Instr) => ∃ s', exec c s = .next s' ∧
      s' = { s with dict := { s.dict with sessions := s'.dict.sessions } } ∧ oget s'.dict.sessions n.toNat = none ∧
      ∀ j, j ≠ n.toNat → oget s'.dict.sessions j = oget s.dict.sessions j
    let idle := max 1 (s.rd F.DICT_SESS_CFG_IDLE_S) * 1000000000
    let item := s.dict.fwd.find? (fun x => x.slot == slot.val)
    let left := fun (x : FwdItem) => s.dict.fwd.filter (fun y => y.slot != x.slot)
    let tmo := max 1 (s.rd F.DICT_FWD_TMO_MS) * 1000000
    (s.mainOn = false → exec .subGo s = .next s ∧ exec (.sendTransaction mosi) s = .next s ∧ exec .poll s = .next s ∧
      (∀ b, exec (.fetch b) s = .next s) ∧ exec .fwdPop s = .next s ∧ exec (.fwdResp v) s = .next s ∧
      exec (.spiFirmwareCommand cmd data) s = .next s) ∧
    (s.mainOn = true → s.dict.inbox.length < 32 →
      (∀ s₁ h s₂ b, s.mgmtGet sub 24 = (s₁, h) → s₁.mgmtGet (sub + 24) (halfAt h 16) = (s₂, b) →
        exec .subGo s = .next { s₂ with dict := { s.dict with
          inbox := s.dict.inbox ++ [⟨2, beNat (h.take 16), false, b, none⟩] } }) ∧
      (2 ≤ mosi.length → len ≤ mosi.length - 2 → exec (.sendTransaction mosi) s =
        .next { s with dict := { s.dict with inbox := s.dict.inbox ++ [spi] } })) ∧
    (s.mainOn = true → mosi.length < 2 ∨ mosi.length - 2 < len → exec (.sendTransaction mosi) s = .next s) ∧
    (s.mainOn = true → 32 ≤ s.dict.inbox.length → 2 ≤ mosi.length → len ≤ mosi.length - 2 → 16 ≤ len → spi.service ≠ 3 →
      spi.tagged = false → s.dict.pending.length < 8 → ∃ s', exec (.sendTransaction mosi) s = .next s' ∧
        s'.dict.pending = s.dict.pending ++ [mkMessage spi.service 7 spi.session spi.echo [] none] ∧
        s'.dict = { s.dict with pending := s'.dict.pending } ∧
        counts F.DICT_REQ_CNT_COUNT s s' ∧ counts F.DICT_BUSY_CNT_COUNT s s') ∧
    (s.mainOn = true → exec .poll s = .next { s with out := s.out ++ [Output.reply s.spiStatus] } ∧
      s.spiStatus.length = 3 ∧ halfAt s.spiStatus 1 = hostHead.length % 2 ^ 16 ∧
      (byteAt s.spiStatus 0 % 2 = 1 ↔ s.dict.pending ≠ [])) ∧
    (s.mainOn = true → exec (.fetch false) s =
        .next { s with out := s.out ++ [Output.reply (beBytes 2 hostHead.length ++ hostHead)] } ∧
      (s.dict.leaving = [] → exec (.fetch true) s = .next { s with
          out := s.out ++ [Output.reply (beBytes 2 hostHead.length ++ hostHead)]
          dict := { s.dict with pending := s.dict.pending.drop 1 } }) ∧
      ∀ a n, s.dict.leaving = [⟨a, 3, n + 1⟩] → exec (.fetch true) s = .next { s with
          out := s.out ++ [Output.reply (beBytes 2 hostHead.length ++ hostHead)]
          dict := { s.dict with
            pending := s.dict.pending.drop 1
            leaving := if n = 0 then [] else [⟨a, 3, n⟩]
            reset := match a with
              | .reset kind => s.dict.reset ++ if n = 0 then [(kind, s.nowNs)] else []
              | _ => s.dict.reset } }) ∧
    (sess = none → exec (.sessionOpenTimeout n) s = .next s ∧ exec (.sessionIdleTimeout n) s = .next s) ∧
    (∀ x, sess = some x →
      (x.opened = false → exec (.sessionIdleTimeout n) s = .next s ∧
        (x.at_ + 5000000000 ≤ s.nowNs → gone (.sessionOpenTimeout n)) ∧
        (s.nowNs < x.at_ + 5000000000 → exec (.sessionOpenTimeout n) s = .next s)) ∧
      (x.opened = true → exec (.sessionOpenTimeout n) s = .next s ∧
        (x.at_ + idle ≤ s.nowNs → gone (.sessionIdleTimeout n)) ∧
        (s.nowNs < x.at_ + idle → exec (.sessionIdleTimeout n) s = .next s))) ∧
    ((∀ x, item = some x → x.msg = none ∨ s.nowNs < x.at_ + tmo) → exec (.fwdTimeout slot) s = .next s) ∧
    (∀ x m, item = some x → x.msg = some m → x.at_ + tmo ≤ s.nowNs → m.path = 3 → m.service ≠ 3 →
      s.dict.replies = [⟨3, m.peer, some x.slot, [], .nothing⟩] →
      s.dict.pending.length < 8 → ∃ s', exec (.fwdTimeout slot) s = .next s' ∧
        onlyRegs [A.DICT_BUSY_CNT] { s with dict := { s.dict with
          fwd := left x
          replies := []
          pending := s.dict.pending ++ [mkMessage m.service 7 m.session m.echo [] m.key] } } s' ∧
        counts F.DICT_BUSY_CNT_COUNT s s') ∧
    (s.mainOn = true → (∀ x ∈ s.dict.fwd, x.msg = none ∨ x.serial % 16 * 16 + x.slot ≠ bits v.toNat 0 8) →
      ∃ s', exec (.fwdResp v) s = .next s' ∧ onlyRegs [A.DICT_FWD_LATE_CNT] s s' ∧ counts F.DICT_FWD_LATE_CNT_COUNT s s') ∧
    (s.mainOn = true → ∀ x m, s.dict.fwd = [x] → x.msg = some m → x.serial % 16 * 16 + x.slot = bits v.toNat 0 8 →
      bits v.toNat 8 8 = 0 → x.service = 2 → m.service = 2 → m.path = 3 → s.dict.pending.length < 8 →
      let mine : Reply := ⟨3, m.peer, some x.slot, [], .nothing⟩
      let bytes := mkMessage 2 0 m.session m.echo [] m.key
      (s.dict.replies = [mine] → exec (.fwdResp v) s = .next { s with dict := { s.dict with
        fwd := [], replies := [], pending := s.dict.pending ++ [bytes] } }) ∧
      ∀ r : Reply, r.path = 3 → r.slot.isSome = true → r.slot ≠ some x.slot → s.dict.replies = [r, mine] →
        exec (.fwdResp v) s = .next { s with dict := { s.dict with
          fwd := [], replies := [r, { mine with slot := none, bytes := bytes }] } }) ∧
    (s.mainOn = true → ∀ x r, s.dict.fwd = x :: r →
      (x.msg = none → exec .fwdPop s = .next { s with dict := { s.dict with fwd := left x } }) ∧
      (x.msg ≠ none → exec .fwdPop s = .next s)) ∧
    (s.mainOn = true → s.romServes = true → exec (.spiFirmwareCommand cmd data) s = .next s) ∧
    (s.mainOn = true → s.romServes = false → ∃ s', exec (.spiFirmwareCommand cmd data) s = .next s' ∧
      s' = { s with threads := s'.threads, host := { s.host with spi := s.host.spi ++ [(0x10 + cmd.toNat, data)] } } ∧
      (s'.th 192).evpend = Nat.lor (s.th 192).evpend 0x20)

/-! ### Supply, standby, resets, boot, life cycle -/

/-- The supply loop. A decision comes at least 100 µs after the last while the data plane has power and has not tripped; it
keeps the peaks, measures V_SAFE (the canary floor plus 20 mV, up to a step of 5 mV; a fall goes 5 mV at a time) and, with
V_SAFE above 900 mV, halts the data plane; else it requests the fixed voltage or the last plus or minus 5 mV, held to the
envelope and V_SAFE as the procedure of the chapter bounds it, 5 mV less in EMERG; it makes no decision while station time
holds. Until V_SAFE has been measured a write of PWR_FIXED requests that voltage. A read-back is kept while VCORE is on and
the I2C controller does not hold the bus. A sample of the sensors sets every temperature and the thermal states; 125.0 °C
halts the data plane with cause THERMAL, also where a canary has halted it before, and closes the bypass where that halt
stands or nothing has power. A supply out of range closes the bypass and stops a flush. Standby. A STANDBY command whose
answer has left the node takes the device to STANDBY, disables its ingress and has an inserted node leave the ring; once that
has left, the tasks have drained and no posted write is outstanding, VCORE goes off and STBY_OUT high; while the posted writes
of one tile still drain, those of a tile whose own timeout has passed fail with TIMEOUT; the first enabled wake during it is
latched, and ends STBY_OUT no sooner than 2 ms after its rise. Where the model chose: log entries 3, 105, 147, 148, 149, 150,
151, 152, 153, 154, 180, 209, 237. -/
def Obligations.SupplyAndStandby : Prop :=
  (∀ (floor : BitVec 10) (mv : BitVec 16) (v : BitVec 32) (temps : List (BitVec 16)) (s : State),
    let due := s.mainOn = true ∧ s.vcoreOn = true ∧ s.is F.PWR_THERM_STAT_TRIPPED = false ∧
      s.is F.TMR_REF_STOPPED = false ∧ ∀ t, s.loop.last = some t → t + 100000 ≤ s.nowNs
    let m := (floor.toNat + 20 + 4) / 5 * 5
    let old := s.rd F.PWR_VSAFE_MV
    let safe := min 1023 (if old ≤ m then m else max m (old - 5))
    let hold := fun x => max 600 (min 900 x)
    let lo := hold (s.rd F.PWR_ENV_MIN_MV)
    let hi := hold (s.rd F.PWR_ENV_MAX_MV)
    let b := min 0x1FFFF s.loop.peakB
    let f := min 0x1FFFF s.loop.peakF
    let last := s.rd F.PWR_VCORE_MV
    let seeks := s.is F.PWR_LOOP_CTL_MODE = true
    let up := s.rd F.PWR_UP_BACKLOG_COUNT ≤ b ∨ s.rd F.PWR_UP_FE_COUNT ≤ f
    let dn := b ≤ s.rd F.PWR_DOWN_BACKLOG_COUNT ∧ f ≤ s.rd F.PWR_DOWN_FE_COUNT
    let emerg := s.loop.zone = 2
    let cand := if emerg then last - 5 else if seeks then (if up then last + 5 else if dn then last - 5 else last)
      else hold (s.rd F.PWR_FIXED_MV)
    let conflict := hi < lo ∨ hi < safe
    let ceil := if conflict then max hi safe else hi
    let flr := if emerg then safe else if conflict then min (max lo safe) ceil else max lo safe
    let vc := max (min cand ceil) flr
    let T := fun k => temp16 ((temps[k]?).getD 0).toNat
    let zone := fun (was : Nat) (t : Int) => let z := if 1100 ≤ t then 2 else if s.softLimit ≤ t then 1 else 0
      if was ≤ z then z else if 2 ≤ was then (if t ≤ 1050 then z else was) else if t ≤ s.softLimit - 50 then z else was
    let halted := fun (s' : State) (cause : Nat) => s'.is F.PWR_THERM_STAT_TRIPPED = true ∧
      s'.rd F.PWR_THERM_STAT_CAUSE = cause ∧ s'.vcoreOn = false ∧ s'.loop.halted = true ∧ s'.pools = [] ∧
      ((∀ c, c < 2 → (s.th (192 + c)).life ≠ .blocked) → s'.tasks = []) ∧ s'.rd F.RING_STATUS_STATE = 0 ∧
      (∀ p, p < 16 → s'.is (F.POOL_STATUS_READY p) = false ∧ s'.rd (F.POOL_INUSE_COUNT p) = 0 ∧
        ∀ a, a < 16 → s'.rd (F.ACCT_INUSE_INUSE p a) = 0) ∧ ∀ t, t < 192 → s'.th t = Thread.init t
    let stands := s.is F.PWR_THERM_STAT_TRIPPED = true ∧ s.rd F.PWR_THERM_STAT_CAUSE = 1 ∧
      ∃ k, k < 14 ∧ 1250 ≤ temp16 (s.rd (F.PWR_TEMP_TEMP k))
    let takes := s.mainOn = true ∧ s.vcoreOn = true ∧ (s.host.i2c = none ∨ s.host.pmbDue = true)
    (¬ due → exec (.loopDecision floor) s = .next s) ∧
    (due → ∃ s', exec (.loopDecision floor) s = .next s' ∧ s'.rd F.PWR_VSAFE_MV = safe ∧
      s'.rd F.PWR_BACKLOG_PEAK = b ∧ s'.rd F.PWR_FE_PEAK = f ∧ s'.loop.last = some s.nowNs ∧ s'.loop.used = s.loop.readback ∧
      (900 < safe → halted s' 2) ∧
      (safe ≤ 900 → s'.rd F.PWR_VCORE_MV = vc ∧ s'.out = s.out ++ [Output.vcore vc] ∧
        s'.is F.PWR_LOOP_STAT_CONFLICT_NOW = decide conflict ∧ s'.is F.PWR_LOOP_STAT_EMERG_NOW = decide emerg ∧
        (seeks → ¬ emerg → s'.is F.PWR_LOOP_STAT_LIMIT_NOW = decide (ceil < cand ∧ up)) ∧
        onlyRegs [A.PWR_VSAFE, A.PWR_BACKLOG, A.PWR_FE, A.PWR_LOOP_STAT, A.PWR_VCORE, A.REC_LOST]
          { s with loop := s'.loop, out := s'.out, recorder := s'.recorder } s')) ∧
    (s.mainOn = true → s.vcoreOn = false ∨ s.rd F.PWR_VSAFE_MV ≠ 0 ∨ s.is F.TMR_REF_STOPPED = true → ∃ s',
      exec (.registerWrite 0x40010004 v) s = .next s' ∧ onlyRegs [A.PWR_FIXED] s s' ∧ s'.rd F.PWR_FIXED_MV = v.toNat % 2 ^ 10) ∧
    (s.mainOn = true → s.vcoreOn = true → s.rd F.PWR_VSAFE_MV = 0 → s.is F.TMR_REF_STOPPED = false → ∃ s', exec (.registerWrite 0x40010004 v) s = .next s' ∧
      onlyRegs [A.PWR_FIXED, A.PWR_VCORE] { s with out := s'.out } s' ∧ s'.rd F.PWR_FIXED_MV = v.toNat % 2 ^ 10 ∧
      s'.rd F.PWR_VCORE_MV = hold (v.toNat % 2 ^ 10) ∧ s'.out = if hold (v.toNat % 2 ^ 10) = last then s.out else
        s.out ++ [Output.vcore (hold (v.toNat % 2 ^ 10))]) ∧
    (takes → exec (.pmbusReadback mv) s = .next { s with
      loop := { s.loop with readback := some mv.toNat }, host := { s.host with pmbDue := false } }) ∧
    (¬ takes → exec (.pmbusReadback mv) s = .next s) ∧
    (s.phase = .standby → temps.length = 14 → exec (.thermalSample temps) s = .next s) ∧
    (s.phase ≠ .standby → temps.length = 14 → ∃ s', exec (.thermalSample temps) s = .next s' ∧
      (∀ k, k < 14 → s'.rd (F.PWR_TEMP_TEMP k) = ((temps[k]?).getD 0).toNat) ∧
      (∀ k, k < 14 → (∀ j, j < 14 → T j ≤ T k) → s'.loop.zone = zone s.loop.zone (T k) ∧
        temp16 (s'.rd F.PWR_TJ_MAX_TEMP) = T k) ∧
      (∀ i, i < 6 → s'.tileTherm i = zone (s.tileTherm i) (max (T (2 * i)) (T (2 * i + 1)))) ∧
      ((∃ k, k < 14 ∧ 1250 ≤ T k) → s.mainOn = true ∨ s.vcoreOn = true → ¬ stands → halted s' 1) ∧
      ((∃ k, k < 14 ∧ 1250 ≤ T k) → stands ∨ (s.mainOn = false ∧ s.vcoreOn = false) →
        s'.rd F.RING_STATUS_STATE = 0 ∧ s'.vcoreOn = s.vcoreOn) ∧
      ((∀ k, k < 14 → T k < 1250) → s'.vcoreOn = s.vcoreOn ∧ s'.tasks = s.tasks ∧ s'.mem = s.mem)) ∧
    ∀ (vsd vio18 vio33 fuse high : Bool),
      (vsd = true → vio18 = true → exec (.supplyRangeChange vsd vio18 vio33 fuse high) s =
        .next { s with supply := ⟨high, vsd, vio18, vio33, fuse⟩ }) ∧
      (vsd = false ∨ vio18 = false → ∃ s', exec (.supplyRangeChange vsd vio18 vio33 fuse high) s = .next s' ∧
        s'.supply = ⟨high, vsd, vio18, vio33, fuse⟩ ∧ s'.rd F.RING_STATUS_STATE = 0 ∧ s'.field.flush = none ∧
        s'.mem = s.mem ∧ ∀ t, t < 192 → s'.th t = s.th t)) ∧
  (∀ (s : State),
    let st := s.rd F.RING_STATUS_STATE
    let size := s.rd F.DICT_RPL_SIZE_SIZE
    let rd := s.rd F.DICT_RPL_RD_RD
    let gone := fun (x : Leaving) =>
      (x.path = 2 ∧ (s.rd F.DICT_RPL_WR_WR + size - rd) % size ≤ (x.place + size - rd) % size) ∨
      (x.path ≠ 2 ∧ x.place = 0) ∨ (x.path = 1 ∧ s.ring.held.length < x.place)
    let left := (∀ r ∈ s.dict.replies, r.after ≠ .standby) ∧ ∀ x ∈ s.dict.leaving, x.after = .standby → gone x
    let entry := s.standby.asked = true ∧ s.mainOn = true ∧ left
    let late := ∃ t, s.standby.drainAt = some t ∧ t + s.rd F.PWR_SBY_CTL_DRAIN_MS * 1000000 ≤ s.nowNs
    let drained := s.phase = .entering ∧ st ≠ 4 ∧ s.standby.posted = none ∧ (s.tasks = [] ∨ late) ∧
      ∀ t x, (t, x) ∈ s.threads → x.posted = []
    let latches := s.is F.PWR_WAKE_EN_PIN = true ∧ (s.phase = .entering ∨ s.phase = .standby) ∧ s.standby.wake = false
    let ends := s.standby.out = true ∧ s.standby.wake = true ∧ s.standby.outAt + 2000000 ≤ s.nowNs
    (¬ entry → exec .standbyEntry s = .next s) ∧
    (entry → ∃ s', exec .standbyEntry s = .next s' ∧ s'.phase = .entering ∧ s'.standby.asked = false ∧
      s'.standby.drainAt = (if st = 3 ∨ st = 4 then none else some s.nowNs) ∧ s'.rd F.DICT_STATE_STATE = 5 ∧ s'.is F.RING_ETH_RX_EN = false ∧
      (∀ u, u < 2 → s'.is (F.UPL_CTL_EN u) = false) ∧ (∀ n, n < 48 → s'.is (F.CL_CTL_EN n) = false) ∧
      s'.rd F.RING_STATUS_STATE = if st = 3 then 4 else st) ∧
    (s.phase ≠ .entering ∨ st = 4 → exec .standbyDrainEnd s = .next s) ∧
    (s.phase = .entering → s.standby.posted = none → s.tasks ≠ [] → ¬ late →
      exec .standbyDrainEnd s = .next s) ∧
    (drained → ∃ s', exec .standbyDrainEnd s = .next s' ∧ s'.phase = .standby ∧ s'.vcoreOn = false ∧
      s'.standby.out = true ∧ s'.standby.outAt = s.nowNs ∧ s'.out = s.out ++ [Output.vcore 0] ∧ s'.acc = s.acc ∧
      s'.boot.otp = s.boot.otp ∧ s'.timers = s.timers ∧ s'.mem = [] ∧ ∀ t, t < 192 → s'.th t = Thread.init t) ∧
    (∀ t₀ u, s.phase = .entering → st ≠ 4 → s.standby.posted = some t₀ → (s.th u).posted ≠ [] →
      s.nowNs < t₀ + max 1 (s.rd (F.TILE_POSTED_TMO_TMO (u / 32))) * 1000 →
      ∃ s', exec .standbyDrainEnd s = .next s' ∧ s'.phase = .entering ∧ (s'.th u).posted = (s.th u).posted ∧
        ∀ t x, (t, x) ∈ s.threads → twf Thread.init s.threads = true → x.life ≠ .blocked →
          t₀ + max 1 (s.rd (F.TILE_POSTED_TMO_TMO (t / 32))) * 1000 ≤ s.nowNs → (s'.th t).posted = [] ∧
          (∀ p r, x.posted = p :: r → x.perr = none → ∃ y, (s'.th t).perr = some y ∧ y.addr = p.addr ∧ y.status = 0xF)) ∧
    (¬ latches → exec .wakeNAssert s = .next s) ∧
    (latches → ∃ s', exec .wakeNAssert s = .next s' ∧
      onlyRegs [A.PWR_WAKE_CAUSE] { s with standby := { s.standby with
        wake := true, out := s.standby.out && decide (s.nowNs < s.standby.outAt + 2000000) } } s' ∧
      s'.rd F.PWR_WAKE_CAUSE_CAUSE = 1) ∧
    (¬ ends → exec .stbyMinExpiry s = .next s) ∧
    (ends → exec .stbyMinExpiry s = .next { s with standby := { s.standby with out := false } }))

/-- Resets. PORST_n and SYSRST_n low for 1 µs or longer (not for less than 100 ns), the watchdog when its time has passed
without a kick, a node reset when its time has come and the reset of an accepted life-cycle command hold the main domains in
reset: every thread, task, buffer, memory word and main-domain register at its reset value, the always-on domain and the fuses
as they were, the bit of RST_CAUSE set; a data plane that was halted stays halted but for PORST_n and SYSRST_n. 0xA0A0 to
SYS_AON_RST in CONFIG gives the always-on domain its reset values. PCORE_RST starts a core at its entry, but holds P-core 1
without RUN_1, and the target of an exchange of firmware, in reset, and that of P-core 0 ends what the boot ROM serves; RUN_1
releases P-core 1. When PORST_n is released with the supplies in range, after a reset or in standby, the device is in BOOT,
its memories filled, with VCORE on but where the data plane stays halted or the device is hot; at power-up the cause of that
reset is PORST_n too. Where the model chose: log entries 3, 30, 52, 53, 155, 156, 157, 158, 159, 213, 214. -/
def Obligations.Resets : Prop :=
  ∀ (s : State) (ns : BitVec 32) (v : BitVec 32),
    let changed : List Nat := [A.SYS_RST_CAUSE, A.SYS_DBG_STAT, A.UPL_STATUS 0, A.UPL_STATUS 1, A.REC_LOST, A.PWR_WAKE_CAUSE,
      A.TMR_PEND_TMR, A.TMR_PEND_CAP_LO, A.TMR_PEND_CAP_HI, A.PWR_THERM_STAT]
    let resets := fun (c : Instr) (bit : Nat) => ∃ s', exec c s = .next s' ∧ s'.phase = .held ∧
      s'.is ⟨A.SYS_RST_CAUSE, bit, 1⟩ = true ∧ s'.tasks = [] ∧ s'.pools = [] ∧ s'.mem = [] ∧ s'.frames = [] ∧ s'.txq = [] ∧
      (∀ t, t < 192 → s'.th t = Thread.init t) ∧ s'.acc = s.acc ∧ s'.timers = s.timers ∧ s'.boot.otp = s.boot.otp ∧
      (∀ a, a ∉ changed → s'.reg a = if regAon a then s.reg a else regReset a) ∧
      s'.loop.halted = (s.loop.halted && decide (bit ≠ 1 ∧ bit ≠ 2)) ∧
      s'.reg A.PWR_THERM_STAT = if s.loop.halted = true ∧ bit ≠ 1 ∧ bit ≠ 2 then s.reg A.PWR_THERM_STAT
        else regReset A.PWR_THERM_STAT
    let ran := s.mainOn = true ∧ s.is F.SYS_WDT_CTL_EN = true ∧
      max 1 (s.rd F.SYS_WDT_CTL_TIMEOUT_MS) * 1000000 * 64000000000 ≤ s.wdt
    let byte := v.toNat % 256
    let entry := fun (c : Nat) => s.pair (F.SYS_PCORE_ENTRY_LO_ENTRY c) (F.SYS_PCORE_ENTRY_HI_ENTRY c) / 4 * 4
    let begun := fun (c : Nat) => { Thread.init (192 + c) with
      pc := entry c, life := if entry c = 0x10000000 then Life.offline else Life.running, evpend := s.standing (192 + c) }
    let waits := fun (c : Nat) => { Thread.init (192 + c) with evpend := s.standing (192 + c) }
    let swaps := fun (c : Nat) => ∃ x, s.field.exch = some x ∧ x.target = c
    (ns.toNat < 100 → exec (.porstNAssert ns) s = .next s ∧ exec (.sysrstNAssert ns) s = .next s) ∧
    (1000 ≤ ns.toNat → (s.phase ≠ .standby → resets (.porstNAssert ns) 1 ∧ resets (.sysrstNAssert ns) 2) ∧
      (s.phase = .standby → exec (.porstNAssert ns) s = .next s ∧ exec (.sysrstNAssert ns) s = .next s)) ∧
    (¬ ran → exec .watchdogExpiry s = .next s) ∧ (ran → resets .watchdogExpiry 3) ∧
    (s.dict.reset = [] → exec .nodeResetBegin s = .next s) ∧
    (∀ k t r, s.dict.reset = (k, t) :: r → (s.nowNs < t + 100000 → exec .nodeResetBegin s = .next s) ∧
      (t + 100000 ≤ s.nowNs → resets .nodeResetBegin (if k = 1 then 4 else 5))) ∧
    (s.boot.lcAt = none → exec .lcResetBegin s = .next s) ∧
    (∀ t, s.boot.lcAt = some t → (s.nowNs < t + 1000000 → exec .lcResetBegin s = .next s) ∧
      (t + 1000000 ≤ s.nowNs → resets .lcResetBegin 7)) ∧
    (∃ s', exec .alwaysOnPowerReset s = .next s' ∧ s'.regs = [] ∧ s'.threads = [] ∧ s'.mem = [] ∧ s'.acc = 0 ∧
      s'.timers = [] ∧ s'.recorder = State.reset.recorder ∧ s'.phase = .held ∧ s'.vcoreOn = false ∧
      s'.chans = [] ∧ s'.boot.otp = s.boot.otp ∧ s'.sioIn = s.sioIn ∧ s'.out = s.out) ∧
    (s.mainOn = true → (v.toNat % 65536 ≠ 0xA0A0 ∨ s.rd F.DICT_STATE_STATE ≠ 1 →
        exec (.sysAonRst v) s = .next { s with kick := false }) ∧
      (v.toNat % 65536 = 0xA0A0 → s.rd F.DICT_STATE_STATE = 1 → s.txq = [] →
        ∃ s', exec (.sysAonRst v) s = .next s' ∧ s'.acc = 0 ∧ s'.timers = [] ∧ s'.chans = [] ∧
          s'.is F.TMR_REF_REF25_OK = false ∧ s'.is F.TMR_REF_XTAL_OK = false ∧ s'.mem = s.mem ∧
          s'.boot.otp = s.boot.otp ∧ (∀ a, regAon a = true → a ≠ A.REC_LOST → s'.reg a = regReset a) ∧
          ∀ t, t < 192 → s'.th t = { s.th t with wait := (s'.th t).wait } ∧
            match (s.th t).wait with
            | some (.drain k (some u)) => ∃ v, (s'.th t).wait = some (.drain k (some v)) ∧ v ≤ u
            | w => (s'.th t).wait = w)) ∧
    (s.mainOn = true → ∃ s', exec (.watchdogKick v) s = .next s' ∧ s' = { s with wdt := s'.wdt, kick := s'.kick } ∧
      s'.kick = decide (byte = 0x5A) ∧ s'.wdt = if byte = 0xA5 ∧ s.kick = true then 0 else s.wdt) ∧
    (s.mainOn = true → s.boot.romHalt = false → ∃ s', exec (.pcoreReset v) s = .next s' ∧
      (bits v.toNat 0 1 = 0 → s'.th 192 = s.th 192) ∧ (bits v.toNat 1 1 = 0 → s'.th 193 = s.th 193) ∧
      (bits v.toNat 0 1 = 1 → (swaps 0 → s'.th 192 = waits 0) ∧ (¬ swaps 0 → s'.th 192 = begun 0)) ∧
      (bits v.toNat 1 1 = 1 → (swaps 1 ∨ s.is F.SYS_PCORE_CTL_RUN_1 = false → s'.th 193 = waits 1) ∧
        (¬ swaps 1 → s.is F.SYS_PCORE_CTL_RUN_1 = true → s'.th 193 = begun 1)) ∧
      onlyRegs [A.DICT_FW_CTL] { s with threads := s'.threads, kick := false, boot := s'.boot } s' ∧
      s'.boot = { s.boot with free1 := s'.boot.free1, serving := s.boot.serving && bits v.toNat 0 1 == 0 } ∧
      (bits v.toNat 1 1 = 0 ∨ swaps 1 ∨ s.is F.SYS_PCORE_CTL_RUN_1 = true → s'.boot.free1 = s.boot.free1) ∧
      (bits v.toNat 1 1 = 1 → ¬ swaps 1 → s.is F.SYS_PCORE_CTL_RUN_1 = false → s'.boot.free1 = false) ∧
      (bits v.toNat 0 1 = 1 → s'.is F.DICT_FW_CTL_READY = false)) ∧
    (s.mainOn = true → ∃ s', exec (.pcoreRun1 v) s = .next s' ∧
      onlyRegs [A.SYS_PCORE_CTL] { s with
        threads := s'.threads, kick := false, boot := { s.boot with free1 := true } } s' ∧ s'.is F.SYS_PCORE_CTL_RUN_1 = true ∧
      s'.th 193 = if s.boot.free1 = true then s.th 193 else begun 1) ∧
    let powered := s.supply.vsd = true ∧ s.supply.vio18 = true
    let filled := fun (s' : State) => ∀ k, k < mbusWindow + 0x10000000 → s'.word k =
      if 0x1000000000 ≤ k ∧ k < mbusWindow then s.word k else Word.zero
    (¬ powered ∨ (s.phase ≠ .held ∧ s.phase ≠ .standby) ∨
        (s.phase = .held ∧ s.vcoreOn = false ∧ s.loop.halted = false ∧ s.loop.hot = true) →
      exec .porstNRelease s = .next s) ∧
    (powered → s.phase = .held → s.vcoreOn = true ∨ s.loop.halted = true ∨ s.loop.hot = false →
      let mv := max 600 (min 900 (s.rd F.PWR_FIXED_MV))
      ∃ s', exec .porstNRelease s = .next s' ∧ s'.phase = .boot ∧ s'.rd F.PWR_VCORE_MV = mv ∧
        s'.rd F.SYS_LC_STATE = s.lcState ∧ (s.rd F.SYS_RST_CAUSE_CAUSE / 2 = 0 → s'.is ⟨A.SYS_RST_CAUSE, 1, 1⟩ = true) ∧
        (∀ t, t < 192 → s'.th t = s.th t) ∧ filled s' ∧
        (s.loop.halted = false → s'.vcoreOn = true ∧ s'.out = s.out ++ [Output.vcore mv]) ∧
        (s.loop.halted = true → s'.vcoreOn = s.vcoreOn ∧ s'.out = s.out)) ∧
    (powered → s.phase = .standby → ∃ s', exec .porstNRelease s = .next s' ∧ s'.is ⟨A.SYS_RST_CAUSE, 1, 1⟩ = true ∧
      s'.tasks = [] ∧ s'.acc = s.acc ∧ s'.boot.otp = s.boot.otp ∧
      (s.standby.wake = false → s'.rd F.PWR_WAKE_CAUSE_CAUSE = 0) ∧
      (s.standby.wake = true → s'.rd F.PWR_WAKE_CAUSE_CAUSE = s.rd F.PWR_WAKE_CAUSE_CAUSE) ∧
      (s.vcoreOn = true ∨ s.loop.hot = false → s'.phase = .boot ∧ s'.vcoreOn = true) ∧
      (s.vcoreOn = false → s.loop.hot = true → s'.phase = .held ∧ s'.vcoreOn = false))

/-- Boot. The ROM discovers the flash by a read of its SFDP header, then tries the slot with the higher version first, unless
its tries are used up and the other's are not; the first image that passes every check starts in CONFIG at its ENTRY on P-core
0 with the watchdog on, a failing one leaves the number of its check, and with none the device is in SAFE and the ROM serves
recovery. CONFIRM makes the running slot OK, CLEAR_A and CLEAR_B clear a slot. P-core 0 HALTED in the ROM stops it, and its
reset ends the recovery. Recovery writes management memory (a POISON word written in part stays) and runs what passes the
checks, and answers a failure with its number. Where the model chose: log entries 3, 163, 164, 165, 215, 218. -/
def Obligations.BootSlots : Prop :=
  ∀ (a b : List Byte) (v : BitVec 32) (data : List Byte) (s : State),
    let booting := s.phase = .boot ∧ s.rd F.DICT_STATE_STATE = 0 ∧ (s.th 192).life ≠ .halted ∧ s.is F.SYS_LC_FAULT = false ∧
      s.field.flush = none ∧ s.rd F.SYS_LC_PENDING = 0
    let top := if quadOf a 8 < quadOf b 8 then 1 else 0
    let first := if s.exhausted top = true ∧ s.exhausted (1 - top) = false then 1 - top else top
    let img := fun (i : Nat) => if i = 0 then a else b
    let tryF := fun (i : Nat) => if i = 0 then F.SYS_BOOT_TRY_TRY_A else F.SYS_BOOT_TRY_TRY_B
    let okF := fun (i : Nat) => if i = 0 then F.SYS_BOOT_TRY_OK_A else F.SYS_BOOT_TRY_OK_B
    let failF := fun (i : Nat) => if i = 0 then F.SYS_BOOT_FAIL_A else F.SYS_BOOT_FAIL_B
    let entry := fun (x : List Byte) => beNat ((x.drop 24).take 8)
    let fails := fun (i : Nat) => s.imageFail false (img i)
    let found := fun (s' : State) => ∃ l, s'.out = s.out ++ Output.flashRead ⟨0x5A, 3, 8, false, 12500, 0, 16⟩ :: l
    let started := fun (i : Nat) (s' : State) => exec (.bootEntry a b) s = .next s' ∧ s'.phase = .up ∧
      s'.rd F.SYS_BOOT_STATUS = 1 ∧ s'.rd F.SYS_BOOT_SLOT = i ∧ s'.rd F.DICT_STATE_STATE = 1 ∧
      s'.is F.SYS_WDT_CTL_EN = true ∧ s'.wdt = 0 ∧ found s' ∧ (s'.th 192).pc = entry (img i) ∧ (s'.th 192).life = .running ∧
      (s.is (okF i) = false → s'.rd (tryF i) = min 3 (s.rd (tryF i) + 1)) ∧
      (s.is (okF i) = true → s'.rd (tryF i) = s.rd (tryF i))
    let slot := s.rd F.SYS_BOOT_SLOT
    let recovering := s.mainOn = true ∧ s.rd F.DICT_STATE_STATE = 4 ∧ s.rd F.SYS_BOOT_STATUS = 3 ∧ s.boot.serving = true ∧
      (s.th 192).life ≠ .halted
    let off := quadOf data 0
    let len := halfAt data 4
    let part := fun (w : Nat) => (8 * w < off ∧ off < 8 * w + 8) ∨ (8 * w < off + len ∧ off + len < 8 * w + 8)
    let m := s.mgmtGet 0 0x80000
    let image := m.2
    (¬ booting → exec (.bootEntry a b) s = .next s) ∧
    (booting → fails first = 0 → ∃ s', started first s') ∧
    (booting → fails first ≠ 0 → fails (1 - first) = 0 → ∃ s', started (1 - first) s' ∧ s'.rd (failF first) = fails first) ∧
    (booting → fails first ≠ 0 → fails (1 - first) ≠ 0 → ∃ s', exec (.bootEntry a b) s = .next s' ∧ s'.phase = .up ∧
      s'.rd F.SYS_BOOT_STATUS = 3 ∧ s'.rd F.DICT_STATE_STATE = 4 ∧ s'.boot.serving = true ∧ found s' ∧ s'.rd (failF first) = fails first ∧
      s'.rd (failF (1 - first)) = fails (1 - first)) ∧
    (s.mainOn = true → bits v.toNat 8 3 = 0 →
      (s.rd F.SYS_BOOT_STATUS ≠ 1 → exec (.confirm v) s = .next { s with kick := false }) ∧
      (s.rd F.SYS_BOOT_STATUS = 1 → ∃ s', exec (.confirm v) s = .next s' ∧
        onlyRegs [A.SYS_BOOT_TRY] { s with kick := false } s' ∧ s'.is (okF slot) = true ∧ s'.rd (tryF slot) = 0 ∧
        s'.rd (okF (1 - slot)) = s.rd (okF (1 - slot)) ∧ s'.rd (tryF (1 - slot)) = s.rd (tryF (1 - slot))) ∧
      ∀ i, i < 2 → ∃ s', exec (if i = 0 then .clearA v else .clearB v) s = .next s' ∧
        onlyRegs [A.SYS_BOOT_TRY] { s with kick := false } s' ∧ s'.is (okF i) = false ∧ s'.rd (tryF i) = 0 ∧
        s'.rd (okF (1 - i)) = s.rd (okF (1 - i)) ∧ s'.rd (tryF (1 - i)) = s.rd (tryF (1 - i))) ∧
    (¬ recovering → exec (.recoverWrite data) s = .next s ∧ exec .recoverRun s = .next s) ∧
    (recovering → off + len ≤ 0x80000 → 6 + len ≤ data.length →
      (∀ w, part w → tget eccDefault s.bad (mbusWindow + 8 * w) = .good) → ∃ s', exec (.recoverWrite data) s = .next s' ∧
      s' = { s with mem := s'.mem, bad := s'.bad, out := s.out ++ [Output.reply [0]] } ∧
      ∀ k, k < 0x80000 → byteOf (s'.word (mbusWindow + k / 8 * 8)).val (k % 8) =
        if (off ≤ k ∧ k < off + len) ∧ ¬ (part (k / 8) ∧ (s.word (mbusWindow + k / 8 * 8)).readAs.kind = .poison)
        then (data[6 + (k - off)]?).getD 0
        else byteOf (s.word (mbusWindow + k / 8 * 8)).val (k % 8)) ∧
    (recovering → 0x80000 < off + len ∨ data.length < 6 + len → ∃ s' x, exec (.recoverWrite data) s = .next s' ∧
      s' = { s with freeCount := s.freeCount + 1, out := s.out ++ [Output.reply [x]] } ∧ x ≠ 0) ∧
    (recovering → (m.1.imageFail true image ≠ 0 → exec .recoverRun s = .next { m.1 with
        out := m.1.out ++ [Output.reply [BitVec.ofNat 8 (m.1.imageFail true image)]] }) ∧
      (m.1.imageFail true image = 0 → ∃ s', exec .recoverRun s = .next s' ∧ s'.rd F.SYS_BOOT_STATUS = 2 ∧
        s'.out = m.1.out ++ [Output.reply [0]] ∧ (s'.th 192).pc = entry image ∧ (s'.th 192).life = .running))

/-- The fuses and the life cycle. A command for a permitted transition programs its INTENT copies and has the reset follow,
any other is refused with its cause; the roll-forward completes a pending transition to any of the four states: it programs
the words of the record for PROVISIONED, checks the key slots for FIELD, erases the customer's secret words for RETURN and the
vendor's too for SCRAPPED, then the INTENT and DONE copies; it waits (with one record) for the supplies, and ends in SAFE with
LC_FAULT where a check fails or a word does not verify; REVOKE and ROLLBACK_INC start an operation that programs its word when
it ends; PROVISION takes a BLANK part with a good record to PROVISIONED and refuses with a byte other than 0; SCRAP is a
command of the unlocked debug port. Where the model chose: log entries 3, 160, 161, 162, 163, 212. -/
def Obligations.LifeCycle : Prop :=
  ∀ (s : State) (v : BitVec 32) (rcd : List Byte),
    let lc := s.rd F.SYS_LC_STATE
    let k := v.toNat % 8
    let fuses := s.supply.pfailHigh = true ∧ s.supply.fuseOk = true
    let permitted := fun (dest : Nat) => (lc = 1 ∧ dest = 2) ∨ (lc = 2 ∧ dest = 3) ∨ (lc < 4 ∧ dest = 4)
    let takes := fun (ws : List (Nat × BitVec 32)) => ∀ w x, (w, x) ∈ ws → s.otpWord w ||| x = x
    let s₀ := { s with kick := false }
    let slot := bits v.toNat 8 2
    let refused := fun (c : Instr) (cause : Nat) => ∃ s', exec c s = .next s' ∧ onlyRegs [A.SYS_LC] s₀ s' ∧
      s'.is F.SYS_LC_CMD_ERR = true ∧ s'.rd F.SYS_LC_ERR_CAUSE = cause
    let opRefused := fun (c : Instr) (cause : Nat) => ∃ s', exec c s = .next s' ∧ onlyRegs [A.SYS_OTP_STAT] s₀ s' ∧
      s'.is F.SYS_OTP_STAT_ERR = true ∧ s'.rd F.SYS_OTP_STAT_CAUSE = cause
    let opStarts := fun (c : Instr) (w : Nat) (x : BitVec 32) => ∃ s', exec c s = .next s' ∧
      onlyRegs [A.SYS_OTP_STAT] { s₀ with boot := { s.boot with otpOp := some (w, x) } } s' ∧
      s'.is F.SYS_OTP_STAT_BUSY = true
    let free := s.is F.SYS_OTP_STAT_BUSY = false
    let recovering := s.mainOn = true ∧ s.rd F.DICT_STATE_STATE = 4 ∧ s.rd F.SYS_BOOT_STATUS = 3 ∧ s.boot.serving = true ∧
      (s.th 192).life ≠ .halted
    let provides := lc = 0 ∧ recordOk rcd = true ∧ fuses ∧
      takes (three 0x20 0x4C490001 ++ provWords rcd ++ three 0x23 0x4C440001)
    let booting := s.booting = true ∧ s.lcPending ≠ 0
    let status := fun (x : Nat) => Output.reply (beBytes 1 x ++ beBytes 1 0 ++ beBytes 8 0)
    (s.mainOn = true → (¬ permitted k ∨ s.lcPending ≠ 0 → refused (.lcCmd v none) 2) ∧
      (permitted k → s.lcPending = 0 → ¬ fuses → refused (.lcCmd v none) 1) ∧
      (permitted k → s.lcPending = 0 → fuses → takes (three (intentAt k) (intentWord k)) →
        ∃ s', exec (.lcCmd v none) s = .next s' ∧ s'.boot.lcAt = some s.nowNs ∧
          (∀ i, i < 3 → s'.otpWord (intentAt k + i) = intentWord k) ∧
          ∀ w, w < intentAt k ∨ intentAt k + 3 ≤ w → s'.otpWord w = s.otpWord w)) ∧
    (¬ booting → exec (.lcRollForward rcd none) s = .next s) ∧
    (booting → ¬ fuses → (s.boot.waited = true → exec (.lcRollForward rcd none) s = .next s) ∧
      (s.boot.waited = false → ∃ s', exec (.lcRollForward rcd none) s = .next s' ∧ s'.boot = { s.boot with waited := true } ∧
        offers 0x31 0x01 s.lcPending s s')) ∧
    (booting → fuses → s.lcPending = 2 → (∃ n, n < 4 ∧ s.slotLive n = true) →
      takes (three (intentAt 2) (intentWord 2) ++ three (doneAt 2) (doneWord 2)) →
      ∃ s', exec (.lcRollForward rcd none) s = .next s' ∧ s'.done 2 = true ∧ s'.rd F.SYS_LC_STATE = 2 ∧
        s'.rd F.SYS_LC_PENDING = 0 ∧ s'.phase = s.phase) ∧
    (booting → fuses → s.lcPending = 2 → (∀ n, n < 4 → s.slotLive n = false) →
      ∃ s', exec (.lcRollForward rcd none) s = .next s' ∧ s'.is F.SYS_LC_FAULT = true ∧ s'.rd F.SYS_BOOT_STATUS = 4 ∧
        s'.rd F.DICT_STATE_STATE = 4) ∧
    (booting → fuses →
      let goal := s.lcPending
      let erase := fun (a n : Nat) => (List.range n).map (fun i => (a + i, 0xFFFFFFFF#32))
      let steps := if goal = 1 then provWords rcd else if goal = 2 then [] else if goal = 3 then erase 0x68 32
        else erase 0x10 16 ++ erase 0x68 32
      let all := steps ++ three (intentAt goal) (intentWord goal) ++ three (doneAt goal) (doneWord goal)
      let ready := (goal = 1 → recordOk rcd = true) ∧ (goal = 2 → ∃ n, n < 4 ∧ s.slotLive n = true)
      let faults := fun (s' : State) => s'.is F.SYS_LC_FAULT = true ∧ s'.rd F.SYS_BOOT_STATUS = 4 ∧ s'.rd F.DICT_STATE_STATE = 4
      (ready → takes all → ∃ s', exec (.lcRollForward rcd none) s = .next s' ∧ s'.done goal = true ∧
        s'.rd F.SYS_LC_STATE = goal ∧ s'.rd F.SYS_LC_PENDING = 0 ∧ s'.phase = s.phase ∧
        (∀ w x, (w, x) ∈ all → s'.otpWord w = x) ∧ ∀ w, (∀ x, (w, x) ∉ all) → s'.otpWord w = s.otpWord w) ∧
      (¬ ready → ∃ s', exec (.lcRollForward rcd none) s = .next s' ∧ faults s' ∧ ∀ w, s'.otpWord w = s.otpWord w) ∧
      (ready → ¬ takes all → ∃ s', exec (.lcRollForward rcd none) s = .next s' ∧ faults s' ∧ s'.rd F.SYS_LC_ERR_CAUSE = 3)) ∧
    (s.mainOn = true → free = false → exec (.revoke v) s = .next s₀ ∧ exec (.rollbackInc v) s = .next s₀) ∧
    (s.mainOn = true → free → (lc ≠ 1 ∧ lc ≠ 2 → opRefused (.revoke v) 2 ∧ opRefused (.rollbackInc v) 2) ∧
      (lc = 1 ∨ lc = 2 → ((∀ n, n < 4 → n ≠ slot → s.slotLive n = false) → opRefused (.revoke v) 2) ∧
        (s.boot.sec ≤ s.rollback → opRefused (.rollbackInc v) 2) ∧
        ((∃ n, n < 4 ∧ n ≠ slot ∧ s.slotLive n = true) → fuses →
          opStarts (.revoke v) 0x61 (s.otpWord 0x61 ||| (1#32 <<< slot))) ∧
        (s.rollback < s.boot.sec → fuses → opStarts (.rollbackInc v) 0x62 (s.otpWord 0x62 ||| (1#32 <<< s.rollback))))) ∧
    (s.boot.otpOp = none → exec (.otpOperationDone 0) s = .next s) ∧
    (∀ w x, s.boot.otpOp = some (w, x) → fuses → s.otpWord w ||| x = x → ∃ s', exec (.otpOperationDone 0) s = .next s' ∧
      onlyRegs [A.SYS_OTP_STAT] { s with boot := s'.boot } s' ∧ s'.is F.SYS_OTP_STAT_BUSY = false ∧
      s'.boot.otpOp = none ∧ s'.otpWord w = x ∧ ∀ j, j ≠ w → s'.otpWord j = s.otpWord j) ∧
    (¬ recovering → exec (.provision rcd none) s = .next s) ∧
    (recovering → provides → ∃ s', exec (.provision rcd none) s = .next s' ∧ s'.done 1 = true ∧
      s'.out = s.out ++ [Output.reply [0]]) ∧
    (recovering → lc ≠ 0 ∨ recordOk rcd = false → ∃ s' x, exec (.provision rcd none) s = .next s' ∧
      s' = { s with freeCount := s.freeCount + 1, out := s.out ++ [Output.reply [x]] } ∧ x ≠ 0) ∧
    (s.mainOn = true → s.scanning = false → lc ≠ 0 →
      exec (.debugProvision rcd none) s = .next { s with tap := .dbgData, out := s.out ++ [status 3] }) ∧
    (s.mainOn = true → s.scanning = false → lc = 0 → recordOk rcd = false → ∃ x, exec (.debugProvision rcd none) s =
      .next { s with freeCount := s.freeCount + 1, tap := .dbgData, out := s.out ++ [status x] } ∧
        x ∈ [0x01, 0x02, 0x03, 0x11, 0x12, 0x13, 0x14, 0x15]) ∧
    (s.mainOn = true → s.scanning = false → provides → ∃ s', exec (.debugProvision rcd none) s = .next s' ∧ s'.done 1 = true ∧
      s'.out = s.out ++ [status 0]) ∧
    (s.mainOn = true → s.scanning = false →
      (s.dbgLevel = 0 → exec (.scrap none) s = .next { s with tap := .dbgData, out := s.out ++ [status 2] }) ∧
      (s.dbgLevel ≠ 0 → lc < 4 → s.lcPending = 0 → fuses → takes (three (intentAt 4) (intentWord 4)) →
        ∃ s', exec (.scrap none) s = .next s' ∧ s'.boot.lcAt = some s.nowNs ∧ s'.out = s.out ++ [status 0] ∧
          ∀ i, i < 3 → s'.otpWord (intentAt 4 + i) = intentWord 4))

/-! ### The recorder, host interfaces, debug, self-test, exchange -/

/-- The Pewter recorder. The oldest offered record is stored with its time in a ring of 4,096; a trigger begins the
post-trigger count, at whose end the recorder freezes with an event; FREEZE and UNFREEZE; a read selection shows its record.
On PFAIL_n the flush stores a record ahead of all others, or counts it where the recorder is frozen, and freezes the recorder;
its end writes the newest 512 records in pages of 16, newest first, and then the header page. UART and I2C. A byte written
goes into the transmit FIFO of 64, or is lost when it is full, and is sent in its turn; a received one goes into the receive
FIFO and sets HOST, or sets RX_OVR when it is full; a read takes the oldest. GO starts a transfer of the bytes in I2C_BUF
while the controller is enabled and not busy, behind the read-back of the PWR block that then holds the bus while VCORE is on;
at its end, which waits for a read-back that is due, BUSY is 0 and DONE or NACK is 1, and after a NACK at most the bytes in
I2C_BUF have gone out. Where the model chose: log entries 3, 167, 168, 169, 170, 171, 178, 179, 180. -/
def Obligations.RecorderAndHostPorts : Prop :=
  (∀ (v header : BitVec 32) (s : State),
    let x := s.recorder
    let kept := fun (r : Rec) => (if 4096 ≤ x.stored.length then x.stored.drop 1 else x.stored) ++ [⟨s.nowNs % 2 ^ 48, r⟩]
    let i := bits v.toNat 0 12
    (x.offered = [] ∨ x.frozen = true → exec .recordAccept s = .next s) ∧
    (∀ r rest, x.offered = r :: rest → x.frozen = false →
      let s₁ := { s with recorder := { x with offered := rest, stored := kept r } }
      let post := fun (n : Nat) => (n ≠ 0 → exec .recordAccept s = .next { s₁ with
          recorder := { s₁.recorder with post := some n } }) ∧
        (n = 0 → ∃ s', exec .recordAccept s = .next s' ∧
          s' = { s₁ with threads := s'.threads, recorder := { s₁.recorder with post := some 0, frozen := true } } ∧
          pends .recFreeze s s')
      (∀ n, x.post = some n → post (n - 1)) ∧
      (x.post = none → s.isTrigger r = true → post (s.rd F.REC_CTL_POST_TRIG)) ∧
      (x.post = none → s.isTrigger r = false → exec .recordAccept s = .next s₁)) ∧
    (s.mainOn = true → exec .freeze s = .next { s with recorder := { x with frozen := true } } ∧
      exec .unfreeze s = .next { s with recorder := { x with frozen := false, post := none } } ∧
      ∃ s', exec (.recRdSelWrite v) s = .next s' ∧
        onlyRegs [A.REC_RD_SEL, A.REC_DATA 0, A.REC_DATA 1, A.REC_DATA 2, A.REC_DATA 3] s s' ∧
        s'.rd F.REC_RD_SEL_INDEX = i ∧
        (∀ r, x.stored[i]? = some r → (s'.reg (A.REC_DATA 0)).toNat = r.time % 2 ^ 48 / 2 ^ 16 ∧
          (s'.reg (A.REC_DATA 1)).toNat = r.time % 2 ^ 16 * 2 ^ 16 + r.body.source % 2 ^ 8 * 2 ^ 8 + r.body.code % 2 ^ 8 ∧
          (s'.reg (A.REC_DATA 2)).toNat = r.body.data / 2 ^ 32 % 2 ^ 32 ∧
          (s'.reg (A.REC_DATA 3)).toNat = r.body.data % 2 ^ 32) ∧
        (x.stored[i]? = none → ∀ j, j < 4 → s'.reg (A.REC_DATA j) = 0)) ∧
    (∃ s', exec (.pfailAssert header) s = .next s' ∧ s'.supply.pfailHigh = false ∧ pends .pfail s s' ∧
      (s.is F.REC_FLUSH_EN = false → offers 0x00 0x38 0 s s' ∧ s'.field = s.field) ∧
      (s.is F.REC_FLUSH_EN = true → s'.is F.REC_FLUSH_STAT_STARTED = true ∧ s'.recorder.frozen = true ∧
        (x.frozen = true → counts F.REC_LOST_COUNT s s' ∧ s'.recorder = x) ∧
        (x.frozen = false → s'.recorder = { x with stored := kept ⟨0x00, 0x38, 1⟩, frozen := true }) ∧
        (s.field.flush.isSome = true → s'.field = s.field)) ∧
      (s.is F.REC_FLUSH_EN = true → s.field.flush = none → x.frozen = false →
        (header ≠ 0xFFFFFFFF → s'.is F.REC_FLUSH_STAT_SKIPPED = true ∧ s'.field = s.field) ∧
        (header = 0xFFFFFFFF → s'.field.flush =
          some ⟨(kept ⟨0x00, 0x38, 1⟩).reverse.take 512, s.nowNs, s.rd F.REC_LOST_COUNT⟩))) ∧
    (s.field.flush = none → exec .flushDone s = .next s) ∧
    (∀ f, s.field.flush = some f → ∃ s', exec .flushDone s = .next s' ∧ onlyRegs [A.REC_FLUSH_STAT]
        { s with field := { s.field with flush := none }, out := s'.out } s' ∧ s'.is F.REC_FLUSH_STAT_DONE = true ∧
      s'.rd F.REC_FLUSH_STAT_COUNT = f.records.length % 2 ^ 10 ∧
      let at_ := s.rd F.REC_FLUSH_ADDR_ADDR
      let n := (f.records.length + 15) / 16
      s'.out.length = s.out.length + n + 1 ∧ s'.out.take s.out.length = s.out ∧
      s'.out[s.out.length + n]? = some (Output.flash at_ f.header) ∧
      ∀ i, i < n → s'.out[s.out.length + i]? = some (Output.flash (at_ + 256 + 256 * i)
        (((f.records.drop (16 * i)).take 16).flatMap Stored.bytes)))) ∧
  (∀ (v : BitVec 32) (b : BitVec 8) (wrong : Bool) (data : List Byte) (s : State),
    let h := s.host
    let on := s.mainOn = true ∧ s.is F.UART_CTL_EN = true
    let idle := s.is F.I2C_STAT_BUSY = false ∧ s.is F.I2C_CTL_EN = true
    let buf := (List.range 8).flatMap (fun k => beBytes 4 (s.reg (A.I2C_BUF k)).toNat)
    (s.mainOn = true → (h.tx.length < 64 → exec (.uartDataWrite v) s =
        .next { s with host := { h with tx := h.tx ++ [v.setWidth 8] } }) ∧
      (64 ≤ h.tx.length → exec (.uartDataWrite v) s = .next s) ∧
      exec .uartDataRead s = .next { s with host := { h with rx := h.rx.drop 1 } }) ∧
    (¬ on → exec (.uartRxByte b wrong) s = .next s) ∧
    (on → ∃ s', exec (.uartRxByte b wrong) s = .next s' ∧
      onlyRegs [A.UART_STAT] { s with host := s'.host, threads := s'.threads } s' ∧
      (wrong = true → s'.is F.UART_STAT_FRAME_ERR = true) ∧
      (wrong = false → s'.is F.UART_STAT_FRAME_ERR = s.is F.UART_STAT_FRAME_ERR) ∧
      (64 ≤ h.rx.length → s'.is F.UART_STAT_RX_OVR = true ∧ s'.host = h) ∧
      (h.rx.length < 64 → s'.host = { h with rx := h.rx ++ [b] } ∧
        (s'.th 192).evpend = Nat.lor (s.th 192).evpend 0x20)) ∧
    (h.tx = [] ∨ s.is F.UART_CTL_EN = false → exec .uartTxByteSent s = .next s) ∧
    (∀ c r, h.tx = c :: r → s.is F.UART_CTL_EN = true → ∃ par, exec .uartTxByteSent s =
      .next { s with host := { h with tx := r }, out := s.out ++ [Output.uart c par (1 + s.rd F.UART_CTL_STOP2)] } ∧
      (s.rd F.UART_CTL_PARITY = 0 → par = none) ∧
      (s.rd F.UART_CTL_PARITY = 1 → par = some (((List.range 8).filter c.getLsbD).length % 2 == 1)) ∧
      (s.rd F.UART_CTL_PARITY = 2 → par = some (((List.range 8).filter c.getLsbD).length % 2 == 0))) ∧
    (s.mainOn = true → ∃ s', exec (.i2cGo v) s = .next s' ∧
      onlyRegs [A.I2C_CMD, A.I2C_STAT] { s with host := s'.host } s' ∧ s'.rd F.I2C_CMD_ADDR = bits v.toNat 0 7 ∧
      s'.rd F.I2C_CMD_WLEN = bits v.toNat 8 6 ∧ s'.rd F.I2C_CMD_RLEN = bits v.toNat 16 6 ∧
      (¬ idle → s'.host = h ∧ s'.is F.I2C_STAT_BUSY = s.is F.I2C_STAT_BUSY) ∧
      (idle → s'.is F.I2C_STAT_BUSY = true ∧ s'.host = { h with
        i2c := some (bits v.toNat 0 7, buf.take (min 32 (bits v.toNat 8 6)), min 32 (bits v.toNat 16 6)),
        pmbDue := s.vcoreOn })) ∧
    (∀ nack, h.i2c = none → exec (.i2cTransferDone nack data) s = .next s) ∧
    (h.pmbDue = true → s.mainOn = true → s.vcoreOn = true → ∀ nack, exec (.i2cTransferDone nack data) s = .next s) ∧
    (∀ a w n, h.i2c = some (a, w, n) → h.pmbDue = false ∨ s.mainOn = false ∨ s.vcoreOn = false →
      (∃ s' k, exec (.i2cTransferDone true data) s = .next s' ∧ k ≤ w.length ∧ onlyRegs [A.I2C_STAT] { s with
          host := { h with i2c := none, pmbDue := true }, freeCount := s.freeCount + 1
          out := s.out ++ [Output.i2c a (w.take k) 0 true] } s' ∧
        s'.is F.I2C_STAT_BUSY = false ∧ s'.is F.I2C_STAT_NACK = true) ∧
      (∃ s', exec (.i2cTransferDone false data) s = .next s' ∧ s'.out = s.out ++ [Output.i2c a w n false] ∧
        s'.host = { h with i2c := none, pmbDue := true } ∧ s'.is F.I2C_STAT_BUSY = false ∧ s'.is F.I2C_STAT_DONE = true ∧
        ∀ j c, (data.take n)[j]? = some c → j < 32 →
          (beBytes 4 (s'.reg (A.I2C_BUF (j / 4))).toNat)[j % 4]? = some c)))

/-- The debug port. A locked port answers READ, WRITE, HALT, RELEASE, RESET_WARM and SCRAP with LOCKED; CHALLENGE opens a
nonce for a level that the life cycle admits, and the right RESPONSE to it unlocks that level, a wrong one is counted, the
third locks out; LOCK locks. READ answers a memory word with its tag and a register as the M-bus shows it, WRITE stores a DATA
word and writes a register as software would, but none that programs a fuse, and the always-on action in any state; HALT stops
a thread or a core where it is, P-core 0 in the boot ROM too, and RELEASE has it go on; RESET_WARM resets the main domains,
keeping the level. EXTEST, HIGHZ and CLAMP take every port down. A boundary code that Table 16.6 gives no instruction selects
BYPASS; IDCODE shifts out its value. The statements about an answer are those in a state where no boundary instruction is
selected. Where the model chose: log entries 3, 105, 182, 183, 184, 185, 187, 216, 217. -/
def Obligations.DebugPort : Prop :=
  ∀ (arg : BitVec 40) (hi lo data : BitVec 64) (s : State),
    let status := fun (x : Nat) => Output.reply (beBytes 1 x ++ beBytes 1 0 ++ beBytes 8 0)
    let told := fun (l : List Output) => { s with tap := .dbgData, out := s.out ++ l }
    let answers := fun (c : Instr) (x : Nat) => exec c s = .next (told [status x])
    let needs : List Instr := [.debugRead arg, .debugWrite arg data, .halt arg, .release arg, .resetWarm arg, .scrap none]
    let open_ := s.mainOn = true ∧ s.scanning = false ∧ s.dbgLevel ≠ 0
    let on := s.mainOn = true ∧ s.scanning = false
    let level := arg.toNat % 4
    let n := arg.toNat
    (s.mainOn = false → ∀ c ∈ needs ++ [.dbgStatus, .challenge arg, .response hi lo, .lock], exec c s = .next s) ∧
    (on → s.dbgLevel = 0 → ∀ c ∈ needs, answers c 2) ∧
    (on → ∃ x, exec .dbgStatus s = .next (told [Output.reply ([0, 0] ++ beBytes 8 x)]) ∧
      x = s.dbgLevel + s.rd F.SYS_DBG_STAT_LOCKOUT * 4 + s.rd F.SYS_LC_STATE * 16) ∧
    (on → ∃ s', exec .lock s = .next s' ∧ onlyRegs [A.SYS_DBG_STAT] (told [status 0]) s' ∧
      s'.rd F.SYS_DBG_STAT_LEVEL = 0) ∧
    (on → (s.is F.SYS_DBG_STAT_LOCKOUT = true → answers (.challenge arg) 2) ∧
      (s.is F.SYS_DBG_STAT_LOCKOUT = false → s.dbgAdmits level = false → answers (.challenge arg) 3) ∧
      (s.is F.SYS_DBG_STAT_LOCKOUT = false → s.dbgAdmits level = true → ∃ k, exec (.challenge arg) s = .next { s with
        freeCount := s.freeCount + 1, boot := { s.boot with nonce := some (k, level) }, tap := .dbgData, out := s.out ++
          [Output.reply ([0, 0] ++ beBytes 8 (k / 2 ^ 64)), Output.reply ([0, 0] ++ beBytes 8 (k % 2 ^ 64))] } ∧
        k < 2 ^ 128)) ∧
    (on → (∀ k l, s.boot.nonce = some (k, l) → s.unlockTag k l = beBytes 8 hi.toNat ++ beBytes 8 lo.toNat →
        s.dbgAdmits l = true → ∃ s', exec (.response hi lo) s = .next s' ∧ onlyRegs [A.SYS_DBG_STAT]
          { told [status 0] with boot := { s.boot with nonce := none } } s' ∧
          s'.rd F.SYS_DBG_STAT_LEVEL = l % 4) ∧
      ((∀ k l, s.boot.nonce = some (k, l) → s.unlockTag k l ≠ beBytes 8 hi.toNat ++ beBytes 8 lo.toNat) →
        ∃ s', exec (.response hi lo) s = .next s' ∧ onlyRegs [A.SYS_DBG_STAT] { told [status 2] with
            boot := { s.boot with nonce := none, wrong := min 3 (s.boot.wrong + 1) } } s' ∧
          s'.rd F.SYS_DBG_STAT_LEVEL = s.rd F.SYS_DBG_STAT_LEVEL ∧
          (2 ≤ s.boot.wrong → s'.is F.SYS_DBG_STAT_LOCKOUT = true))) ∧
    (open_ → ∀ st, s.locate 192 n = .fail st → answers (.debugRead arg) (0x10 + st) ∧
      answers (.debugWrite arg data) (0x10 + st)) ∧
    (open_ → ∀ m k, s.locate 192 n = .cell m k → m.dark s.vcoreOn = false →
      (tget eccDefault s.bad (wordKey k) = .good → exec (.debugRead arg) s = .next (told
        [Output.reply (beBytes 1 0 ++ beBytes 1 (s.word (wordKey k)).readAs.tag.toNat ++
          beBytes 8 (s.word (wordKey k)).readAs.val.toNat)])) ∧
      (m ≠ .rom → ∃ s', exec (.debugWrite arg data) s = .next s' ∧
        s' = { told [status 0] with mem := s'.mem, bad := s'.bad } ∧
        tget wordDefault s'.mem (wordKey k) = ⟨0, data⟩ ∧
        ∀ j, j ≠ wordKey k → s'.word j = s.word j) ∧
      (m = .rom → answers (.debugWrite arg data) 0x15)) ∧
    (open_ → 193 < n → answers (.halt arg) 0x11 ∧ answers (.release arg) 0x11) ∧
    (open_ → n ≤ 193 → ∃ s', exec (.halt arg) s = .next s' ∧ offers 0x00 0x40 n s s' ∧
      s'.out = s.out ++ [status 0] ∧ ∀ l, (s.th n).life = l →
        (l = .running ∨ l = .blocked ∨ l = .idle → (s'.th n).life = .halted ∧ (s'.th n).saved = l ∧
          (s'.th n).pc = (s.th n).pc ∧ (s'.th n).regs = (s.th n).regs) ∧
        (l = .faulted → n < 192 → s'.th n = { s.th n with haltPend := true }) ∧
        (l = .halted ∨ (l = .offline ∧ s.inRom n = false) → s'.th n = s.th n) ∧
        (l = .offline → n = 192 → (∀ x, s.field.exch = some x → x.target = 1) →
          s'.th n = { s.th n with life := .halted, saved := .offline } ∧ s'.is F.DICT_FW_CTL_READY = false)) ∧
    (open_ → n ≤ 193 → s.boot.romHalt = false → ∃ s', exec (.release arg) s = .next s' ∧
      offers 0x00 0x41 n s s' ∧ s'.out = s.out ++ [status 0] ∧
      ((s.th n).life = .halted → (s.th n).saved = .running → (s'.th n).life = .running ∧ (s'.th n).pc = (s.th n).pc ∧
        (s'.th n).regs = (s.th n).regs) ∧
      ((s.th n).life = .faulted → s'.th n = { s.th n with haltPend := false })) ∧
    (open_ → ∃ s', exec (.resetWarm arg) s = .next s' ∧ s'.out = s.out ++ [status 0] ∧ s'.phase = .held ∧
      s'.is ⟨A.SYS_RST_CAUSE, 6, 1⟩ = true ∧ s'.rd F.SYS_DBG_STAT_LEVEL = s.rd F.SYS_DBG_STAT_LEVEL ∧ s'.mem = [] ∧
      s'.tasks = [] ∧ (∀ t, t < 192 → s'.th t = Thread.init t) ∧ s'.acc = s.acc ∧
      s'.boot.romHalt = arg.toNat.testBit 0 ∧ (arg.toNat.testBit 0 = true → (s'.th 192).life = .halted)) ∧
    (open_ → ∀ r, s.locate 192 n = .mbus r →
      let a := r / 4 * 4
      let x := s.mbusRead .other a
      exec (.debugRead arg) s = .next { x.1 with tap := .dbgData, out := x.1.out ++
        [Output.reply (beBytes 1 0 ++ beBytes 1 0 ++ beBytes 8 x.2.toNat)] } ∧
      (a = A.SYS_LC_CMD ∨ a = A.SYS_OTP_OP → answers (.debugWrite arg data) 0) ∧
      (a ≠ A.SYS_LC_CMD → a ≠ A.SYS_OTP_OP → a ≠ A.SYS_AON_RST → exec (.debugWrite arg data) s =
        exec (.registerWrite (BitVec.ofNat 32 a) (data.setWidth 32)) (told [status 0])) ∧
      (a = A.SYS_AON_RST → data.toNat % 65536 ≠ 0xA0A0 → exec (.debugWrite arg data) s = .next { told [status 0] with kick := false }) ∧
      (a = A.SYS_AON_RST → data.toNat % 65536 = 0xA0A0 → s.txq = [] → ∃ s', exec (.debugWrite arg data) s = .next s' ∧
        s'.acc = 0 ∧ s'.timers = [] ∧ s'.chans = [] ∧ s'.mem = s.mem ∧ s'.boot.otp = s.boot.otp ∧
        ∀ q, regAon q = true → q ≠ A.REC_LOST → s'.reg q = regReset q)) ∧
    (∀ c ∈ ([(.idcode, .idcode, [Output.tdo 32 0x1487254B]), (.samplePreload, .sample, []), (.bypass, .bypass, [Output.tdo 1 0])]
        : List (Instr × TapInstr × List Output)),
      ∃ s', exec c.1 s = .next s' ∧ s'.tap = c.2.1 ∧ s'.ring = s.ring ∧
        (s.txq = [] → s.scanning = false → s'.out = s.out ++ c.2.2) ∧
        (s.txq = [] → s.scanning = true → s.is F.TMR_REF_REF25_OK = true →
          (∀ k, k < 48 → s.is (F.CL_CTL_EN k) = true → s.rd (F.CL_STATUS_STATE k) = 0 → Output.cell k [.idle0] ∈ s'.out))) ∧
    (∀ code : BitVec 6, 0x05 ≤ code.toNat → code.toNat ≠ 0x10 → code.toNat ≠ 0x11 →
      tapOf code.toNat = .bypass) ∧
    (s.txq = [] → ∀ c ∈ ([(.extest, .extest), (.highz, .highz), (.clamp, .clamp)] : List (Instr × TapInstr)),
      ∃ s', exec c.1 s = .next s' ∧ s'.tap = c.2 ∧ s'.rd F.RING_STATUS_STATE = 0 ∧
        (∀ u, u < 2 → s'.is (F.UPL_STATUS_UP u) = false) ∧ ∀ k, k < 48 → s'.rd (F.CL_STATUS_STATE k) = 0)

/-- Self-test. A core test starts (REFUSED for no core or during another), hands the supervisor role over, waits until the
core's threads are IDLE or OFFLINE, at most its timeout, takes them OFFLINE, and ends with its result: on a pass they start
again, on a failure they never start. The memory test borrows a buffer of the next selected pool and gives it back tested;
ring recalibration runs in OFF and LISTEN only. Where the model chose: log entries 3, 172, 173, 174, 175, 238. -/
def Obligations.SelfTest : Prop :=
  ∀ (core : BitVec 6) (fail : Option (BitVec 16)) (faulty : Bool) (s : State),
    let c := core.toNat
    let st := s.rd F.ST_STATUS_STATE
    let now := s.rd F.ST_STATUS_CORE
    let tile := c / 8
    let mine := s.activeSup tile / 4 = c
    let other := s.otherSup tile / 4 = c
    let ends := fun (s' : State) (core outcome detail : Nat) => s'.rd F.ST_RESULT_CORE = core ∧
      s'.rd F.ST_RESULT_OUTCOME = outcome ∧ s'.rd F.ST_RESULT_DETAIL = detail ∧
      offers 0x40 outcome (core + outcome * 2 ^ 8 + detail * 2 ^ 16) s s' ∧
      (s'.th 192).evpend = Nat.lor (s.th 192).evpend 0x400
    let threads := [4 * now, 4 * now + 1, 4 * now + 2, 4 * now + 3]
    let admitted := st = 1 ∧ (s.backlog ≤ s.rd F.ST_ADMIT_BACKLOG ∨
      s.field.test.began + s.rd F.ST_ADMIT_DEADLINE * 1000000 ≤ s.nowNs)
    let quiet := st = 3 ∧ ∀ t ∈ threads, (s.th t).life = .idle ∨ (s.th t).life = .offline
    let late := st = 3 ∧ s.field.test.began + max 1 (s.rd F.ST_DRAIN_TMO_MS) * 1000000 ≤ s.nowNs
    let loanable := s.is F.ST_MEM_CTL_EN = true ∧ s.field.mem.lent = none ∧
      (s.field.mem.ms = s.nowMs → s.field.mem.loans < s.rd F.ST_MEM_CTL_RATE) ∧ 0 < s.rd F.ST_MEM_CTL_RATE
    (s.mainOn = true → (47 < c ∨ st ≠ 0 → ∃ s', exec (.coreTestStart core) s = .next s' ∧ ends s' c 5 0 ∧
        onlyRegs [A.ST_RESULT, A.REC_LOST] { s with threads := s'.threads, recorder := s'.recorder } s') ∧
      (c ≤ 47 → st = 0 → s.rd F.ST_ADMIT_DEADLINE ≠ 0 ∨ ¬ mine → ∃ s', exec (.coreTestStart core) s = .next s' ∧
        onlyRegs [A.ST_STATUS] { s with field := s'.field } s' ∧ s'.rd F.ST_STATUS_CORE = c ∧
        s'.field.test.began = s.nowNs ∧ s'.rd F.ST_STATUS_STATE = if s.rd F.ST_ADMIT_DEADLINE = 0 then 3 else 1) ∧
      (c ≤ 47 → st = 0 → s.rd F.ST_ADMIT_DEADLINE = 0 → mine →
        (¬ other → s.available (s.otherSup tile) = true → ∃ s', exec (.coreTestStart core) s = .next s' ∧
          s'.rd F.ST_STATUS_STATE = 3 ∧ s'.rd F.ST_STATUS_CORE = c ∧
          s'.is (F.TILE_SUPV_ACTIVE tile) = !s.is (F.TILE_SUPV_ACTIVE tile)) ∧
        (other ∨ s.available (s.otherSup tile) = false → ∃ s', exec (.coreTestStart core) s = .next s' ∧
          s'.rd F.ST_STATUS_STATE = 0 ∧ ends s' c 4 0))) ∧
    (¬ admitted → exec .stAdmitEnd s = .next s) ∧
    (admitted → s.activeSup (now / 8) / 4 ≠ now → ∃ s', exec .stAdmitEnd s = .next s' ∧
      onlyRegs [A.ST_STATUS] { s with field := s'.field } s' ∧ s'.rd F.ST_STATUS_STATE = 3 ∧
      s'.field.test.began = s.nowNs) ∧
    (¬ quiet → exec .stDrainDone s = .next s) ∧
    (quiet → ∃ s', exec .stDrainDone s = .next s' ∧ s'.rd F.ST_STATUS_STATE = 4 ∧
      (∀ t ∈ threads, (s'.th t).life = .offline) ∧
      s'.field.test.idle = threads.filter (fun t => (s.th t).life == .idle) ∧
      (s.available (s.activeSup (now / 8)) = true → s.activeSup (now / 8) ∉ threads →
        ∀ t, t < 192 → t ∉ threads → s'.th t = s.th t)) ∧
    (¬ late → exec .stDrainTimeout s = .next s) ∧
    (late → ∃ s', exec .stDrainTimeout s = .next s' ∧ s'.rd F.ST_STATUS_STATE = 0 ∧ ends s' now 3 0) ∧
    (st ≠ 4 → exec (.stTestDone fail) s = .next s) ∧
    (st = 4 → (∃ s', exec (.stTestDone none) s = .next s' ∧ s'.rd F.ST_STATUS_STATE = 0 ∧ s'.rd F.ST_RESULT_OUTCOME = 1 ∧
        s'.rd F.ST_RESULT_CORE = now ∧ tget (fun _ => []) s'.icache now = [] ∧
        ∀ t ∈ s.field.test.idle, (s.th t).life = .offline → (s.th t).failed = false →
          s.vcoreOn = true → (s'.th t).life = .running) ∧
      ∀ d, ∃ s', exec (.stTestDone (some d)) s = .next s' ∧ s'.rd F.ST_STATUS_STATE = 0 ∧ s'.rd F.ST_RESULT_OUTCOME = 2 ∧
        s'.rd F.ST_RESULT_DETAIL = d.toNat ∧ s'.rd F.ST_RESULT_CORE = now ∧ ∀ t ∈ threads, (s'.th t).failed = true) ∧
    (¬ loanable → exec .memtestLoan s = .next s) ∧
    (loanable → ∀ p, nextPool (s.rd F.ST_MEM_CTL_POOLS) s.field.mem.turn = some p →
      (∀ s₁ l i, s.lend p = (s₁, some (l, i)) → ∃ s', exec .memtestLoan s = .next s' ∧
        s' = { s₁ with field := s'.field } ∧ s'.field.mem.lent = some ⟨p, l, i⟩ ∧ s'.field.mem.turn = (p + 1) % 16) ∧
      (∀ s₁, s.lend p = (s₁, none) → ∃ s', exec .memtestLoan s = .next s' ∧
        onlyRegs [A.ST_MEM_REFUSED] { s₁ with field := s'.field } s' ∧ counts F.ST_MEM_REFUSED_COUNT s₁ s' ∧
        s'.field.mem.lent = none ∧ s'.field.mem.turn = (p + 1) % 16)) ∧
    (s.field.mem.lent = none → exec (.memtestBufferDone faulty) s = .next s) ∧
    (∀ x, s.field.mem.lent = some x → ∃ s', exec (.memtestBufferDone faulty) s = .next s' ∧ s'.field.mem.lent = none ∧
      counts F.ST_MEM_TESTED_COUNT s s' ∧ (faulty = true → counts F.ST_MEM_FAILED_COUNT s s') ∧
      (faulty = false → s'.rd F.ST_MEM_FAILED_COUNT = s.rd F.ST_MEM_FAILED_COUNT)) ∧
    (s.mainOn = true → ∃ s', exec .ringCalGo s = .next s' ∧ onlyRegs [A.ST_RING_CAL] s s' ∧
      (2 ≤ s.rd F.RING_STATUS_STATE → s'.is F.ST_RING_CAL_REFUSED = true ∧
        s'.is F.ST_RING_CAL_BUSY = s.is F.ST_RING_CAL_BUSY) ∧
      (s.rd F.RING_STATUS_STATE < 2 → s'.is F.ST_RING_CAL_BUSY = true ∧
        s'.is F.ST_RING_CAL_REFUSED = s.is F.ST_RING_CAL_REFUSED)) ∧
    (s.is F.ST_RING_CAL_BUSY = false → exec (.ringCalDone faulty) s = .next s) ∧
    (s.is F.ST_RING_CAL_BUSY = true → ∃ s', exec (.ringCalDone faulty) s = .next s' ∧ onlyRegs [A.ST_RING_CAL] s s' ∧
      s'.is F.ST_RING_CAL_BUSY = false ∧ s'.is F.ST_RING_CAL_FAIL = (s.is F.ST_RING_CAL_FAIL || faulty))

/-- Program exchange. A commit during one is REFUSED; else the epoch goes up (from 255 to 1), each tile takes its new entry
and task entry, each IDLE thread the new program, every other thread but an OFFLINE one is left on the old, and while such
threads are left BUSY is 1. Such a thread switches at its next GETWORK, and with the last of them, or with a commit that finds
none, BUSY clears, EXCHANGE is set in P-core 0 and record 0x31 is offered. An exchange of Puppeteer firmware runs the checks
of the staged image and holds its core, or leaves the number of the check in FAIL; at its end the segments have been copied,
the core starts at the new ENTRY, DONE is set and record 0x32 is offered. Where the model chose: log entries 3, 30, 176, 177,
240. -/
def Obligations.ProgramExchange : Prop :=
  ∀ (v : BitVec 32) (s : State),
    let old := s.rd F.EXCH_STATUS_EPOCH
    let e := if old = 255 then 1 else old + 1
    let busy := s.is F.EXCH_STATUS_BUSY = true
    let k := if v.toNat.testBit 1 then 1 else 0
    let m := s.staged.1
    let image := s.staged.2.2
    let f := m.exchFail s.staged.2.1 image
    let started := fun (x : PcExch) => { Thread.init (192 + x.target) with
      pc := x.entry, life := if x.entry = 0x10000000 then Life.offline else Life.running
      evpend := s.standing (192 + x.target) }
    (s.mainOn = true → busy → ∃ s', exec .exchCommit s = .next s' ∧ onlyRegs [A.EXCH_STATUS] s s' ∧
      s'.is F.EXCH_STATUS_REFUSED = true ∧ s'.rd F.EXCH_STATUS_EPOCH = old) ∧
    (s.mainOn = true → ¬ busy → ∃ s', exec .exchCommit s = .next s' ∧ s'.rd F.EXCH_STATUS_EPOCH = e ∧
      s'.rd F.TMR_EPOCH_EPOCH = e ∧
      (∀ t, t < 6 → s'.rd (F.TILE_ENTRY_LO_PC t) = s.rd (F.EXCH_START_LO_PC t) ∧
        s'.rd (F.TILE_ENTRY_HI_PC t) = s.rd (F.EXCH_START_HI_PC t) ∧ tget (fun _ => 0) s'.taskEntry t =
          (if t = 4 then s.field.task4Lo.toNat + s.field.task4Hi.toNat * 2 ^ 32
            else s.pair (F.EXCH_TASK_LO_PC t) (F.EXCH_TASK_HI_PC t)) / 4 * 4) ∧
      (∀ t x, t < 192 → (t, x) ∈ s.threads → twf Thread.init s.threads = true →
        (x.life = .idle → s'.th t = { x with epoch := e, getPc := tget (fun _ => 0) s'.taskEntry (t / 32) }) ∧
        (x.life = .offline → s'.th t = { x with epoch := e }) ∧
        (x.life ≠ .idle → x.life ≠ .offline → s'.th t = { x with oldProg := true } ∧
          s'.is F.EXCH_STATUS_BUSY = true)) ∧
      s'.sched.commits = s.sched.commits + 1 ∧ offers 0x00 0x30 e s s') ∧
    (s.mainOn = true → ¬ busy → twf Thread.init s.threads = true →
      (∀ t x, (t, x) ∈ s.threads → t < 192 → (x.life = .idle ∨ x.life = .offline) ∧ x.oldProg = false) →
      ∃ s', exec .exchCommit s = .next s' ∧ s'.is F.EXCH_STATUS_BUSY = false ∧ s'.rd F.EXCH_STATUS_OLD_LEFT = 0 ∧
        ((s.th 192).life ≠ .blocked → Nat.land (s'.th 192).evpend Ev.exchange.mask = Ev.exchange.mask) ∧
        (s.recorder.frozen = false → s.recorder.offered.length < 63 →
          s'.recorder.offered = s.recorder.offered ++ [⟨0x00, 0x30, e⟩, ⟨0x00, 0x31, e⟩])) ∧
    (∀ (t : Tid) (s₁ : State), runs s t.val s₁ → t.val < 192 →
      let x := s₁.th t.val
      let left := s₁.rd F.EXCH_STATUS_OLD_LEFT
      x.posted = [] → x.perr = none → (∀ k ∈ x.tickets, k ≠ .out) → x.failedJob = none → x.held = none → x.oldProg = true →
      (s₁.th 192).life ≠ .blocked → ∃ s', exec (.getwork t) s = .next s' ∧ (s'.th t.val).life = .idle ∧
        (s'.th t.val).oldProg = false ∧ (s'.th t.val).epoch = s₁.rd F.EXCH_STATUS_EPOCH ∧
        (s'.th t.val).getPc = tget (fun _ => 0) s₁.taskEntry (t.val / 32) ∧
        s'.rd F.EXCH_STATUS_OLD_LEFT = left - 1 ∧
        (left ≤ 1 → s'.is F.EXCH_STATUS_BUSY = false ∧ offers 0x00 0x31 (s₁.rd F.EXCH_STATUS_EPOCH) s₁ s' ∧
          (s'.th 192).evpend = Nat.lor (s₁.th 192).evpend Ev.exchange.mask) ∧
        (1 < left → s'.is F.EXCH_STATUS_BUSY = s₁.is F.EXCH_STATUS_BUSY ∧ s'.recorder = s₁.recorder ∧
          s'.th 192 = s₁.th 192)) ∧
    (s.mainOn = true → s.is F.EXCH_PC_STAT_BUSY = true → exec (.pcoreExchangeGo v) s = .next s) ∧
    (s.mainOn = true → s.is F.EXCH_PC_STAT_BUSY = false →
      (f ≠ 0 → ∃ s', exec (.pcoreExchangeGo v) s = .next s' ∧ onlyRegs [A.EXCH_PC_STAT] m s' ∧
        s'.rd F.EXCH_PC_STAT_FAIL = f ∧ s'.is F.EXCH_PC_STAT_BUSY = m.is F.EXCH_PC_STAT_BUSY) ∧
      (f = 0 → ∃ s', exec (.pcoreExchangeGo v) s = .next s' ∧
        onlyRegs [A.EXCH_PC_STAT, A.DICT_FW_CTL] { m with threads := s'.threads, field := s'.field, boot := s'.boot } s' ∧
        s'.rd F.EXCH_PC_STAT_FAIL = 0 ∧ s'.is F.EXCH_PC_STAT_BUSY = true ∧ s'.th (192 + k) = { Thread.init (192 + k) with evpend := s.standing (192 + k) } ∧
        (∀ t, t ≠ 192 + k → s'.th t = m.th t) ∧
        s'.boot = { m.boot with free1 := m.boot.free1 || k == 1 } ∧ ∃ x, s'.field.exch = some x ∧ x.target = k ∧
          x.entry = beNat ((image.drop 24).take 8) ∧
          x.segs = (imgSegs image).map (fun g => (g.dest, (image.drop g.off).take g.len)))) ∧
    (s.field.exch = none → exec .pcoreExchangeDone s = .next s) ∧
    (∀ x, s.field.exch = some x → x.target < 2 → x.entry < 2 ^ 40 → x.entry % 4 = 0 → ∃ s', exec .pcoreExchangeDone s = .next s' ∧
      s'.field.exch = none ∧ s'.is F.EXCH_PC_STAT_BUSY = false ∧ s'.is F.EXCH_PC_STAT_DONE = true ∧
      s'.th (192 + x.target) = started x ∧ offers 0x00 0x32 (s'.reg A.EXCH_PC_STAT).toNat s s' ∧
      (x.segs.Pairwise (fun a b => a.1 + a.2.length ≤ b.1 / 8 * 8 ∨ b.1 + b.2.length ≤ a.1 / 8 * 8) →
        (∀ g ∈ x.segs, g.1 % 8 = 0 ∧ g.1 + g.2.length ≤ 0x78000) →
        (∀ g ∈ x.segs, ∀ i, i < g.2.length → (s'.word (mbusWindow + g.1 + i / 8 * 8)).tag = 0 ∧
          some (byteOf (s'.word (mbusWindow + g.1 + i / 8 * 8)).val (i % 8)) = g.2[i]?) ∧
        ∀ k, (∀ g ∈ x.segs, k < mbusWindow + g.1 ∨ mbusWindow + g.1 + g.2.length ≤ k) → s'.word k = s.word k) ∧
      s'.pair (F.SYS_PCORE_ENTRY_LO_ENTRY x.target) (F.SYS_PCORE_ENTRY_HI_ENTRY x.target) = x.entry)
end

