-- ==== Sys2Proof/Laws/Table.lean ====
section
/-! SUPPORT. Laws of sparse tables: read after write, and that every operation keeps the canonical form. -/

namespace Sys2Proof.Machine

variable {α : Type}

/-- The canonical form as a proposition: keys strictly rising, no entry equal to its default. -/
theorem twf_iff [DecidableEq α] (d : Nat → α) (t : Table α) :
    twf d t = true ↔ t.Pairwise (fun a b => a.1 < b.1) ∧ ∀ e ∈ t, e.2 ≠ d e.1 := by
  induction t with
  | nil => simp [twf]
  | cons e r ih =>
    obtain ⟨k, v⟩ := e
    cases r with
    | nil => simp [twf]
    | cons e' r' =>
      obtain ⟨k', v'⟩ := e'
      rw [twf, Bool.and_eq_true, Bool.and_eq_true, ih]
      simp only [List.pairwise_cons, List.mem_cons, forall_eq_or_imp, decide_eq_true_eq]
      constructor
      · rintro ⟨⟨hv, hk⟩, ⟨⟨hp, hp'⟩, hd⟩⟩
        exact ⟨⟨⟨hk, fun e he => Nat.lt_trans hk (hp e he)⟩, hp, hp'⟩, hv, hd⟩
      · rintro ⟨⟨⟨hk, _⟩, hp, hp'⟩, hv, hd⟩
        exact ⟨⟨hv, hk⟩, ⟨hp, hp'⟩, hd⟩

/-- A key below every listed key reads as the default. -/
theorem tget_of_lt (d : Nat → α) (t : Table α) (k : Nat) (h : ∀ e ∈ t, k < e.1) : tget d t k = d k := by
  induction t with
  | nil => rfl
  | cons e r ih =>
    obtain ⟨k', v'⟩ := e
    have hk : k < k' := h (k', v') (List.mem_cons_self ..)
    rw [tget, if_neg (by omega)]
    exact ih (fun e he => h e (List.mem_cons_of_mem _ he))

/-- Reading the key just put. -/
@[simp] theorem tget_tput_self (d : Nat → α) (t : Table α) (k : Nat) (v : α) : tget d (tput k v t) k = v := by
  induction t with
  | nil => simp [tput, tget]
  | cons e r ih =>
    obtain ⟨k', v'⟩ := e
    rw [tput]
    split
    · simp [tget]
    · split
      · simp [tget]
      · rw [tget, if_neg (by omega), ih]

/-- Reading another key after a put. -/
theorem tget_tput_ne (d : Nat → α) (t : Table α) {k j : Nat} (v : α) (h : j ≠ k) :
    tget d (tput k v t) j = tget d t j := by
  induction t with
  | nil => simp [tput, tget, Ne.symm h]
  | cons e r ih =>
    obtain ⟨k', v'⟩ := e
    rw [tput]
    split
    · rw [tget, if_neg (Ne.symm h)]
    · split
      · rename_i h1 h2
        subst h2
        simp [tget, Ne.symm h]
      · simp only [tget, ih]

/-- Reading after a filter on keys. -/
theorem tget_filter (d : Nat → α) (t : Table α) (p : Nat → Bool) (k : Nat) :
    tget d (t.filter (fun e => p e.1)) k = if p k then tget d t k else d k := by
  induction t with
  | nil => simp [tget]
  | cons e r ih =>
    obtain ⟨k', v'⟩ := e
    by_cases hp : p k' = true
    · rw [List.filter_cons_of_pos (by simpa using hp), tget, tget, ih]
      by_cases hk : k' = k
      · subst hk; simp [hp]
      · simp [hk]
    · rw [List.filter_cons_of_neg (by simpa using hp), ih, tget]
      by_cases hk : k' = k
      · subst hk; simp [hp]
      · simp [hk]

/-- Reading the removed key. -/
@[simp] theorem tget_tdel_self (d : Nat → α) (t : Table α) (k : Nat) : tget d (tdel k t) k = d k := by
  simp [tdel, tget_filter d t (fun j => j != k)]

/-- Reading another key after a removal. -/
theorem tget_tdel_ne (d : Nat → α) (t : Table α) {k j : Nat} (h : j ≠ k) : tget d (tdel k t) j = tget d t j := by
  simp [tdel, tget_filter d t (fun i => i != k), h]

/-- Reading the key just written. -/
@[simp] theorem tget_tset_self [DecidableEq α] (d : Nat → α) (t : Table α) (k : Nat) (v : α) :
    tget d (tset d t k v) k = v := by
  unfold tset
  split
  · rename_i h; simp [h]
  · simp

/-- Reading another key after a write. -/
theorem tget_tset_ne [DecidableEq α] (d : Nat → α) (t : Table α) {k j : Nat} (v : α) (h : j ≠ k) :
    tget d (tset d t k v) j = tget d t j := by
  unfold tset
  split
  · exact tget_tdel_ne d t h
  · exact tget_tput_ne d t v h

/-- Reading after a write. -/
theorem tget_tset [DecidableEq α] (d : Nat → α) (t : Table α) (k j : Nat) (v : α) :
    tget d (tset d t k v) j = if j = k then v else tget d t j := by
  by_cases h : j = k
  · subst h; simp
  · simp [h, tget_tset_ne d t v h]

/-- The keys of a table after a put. -/
theorem mem_tput {t : Table α} {k : Nat} {v : α} {e : Nat × α} (h : e ∈ tput k v t) : e = (k, v) ∨ e ∈ t := by
  induction t with
  | nil => simpa [tput] using h
  | cons f r ih =>
    obtain ⟨k', v'⟩ := f
    rw [tput] at h
    split at h
    · simpa using h
    · split at h
      · simp only [List.mem_cons] at h ⊢
        exact h.imp_right .inr
      · simp only [List.mem_cons] at h ⊢
        rcases h with h | h
        · exact .inr (.inl h)
        · rcases ih h with h | h
          · exact .inl h
          · exact .inr (.inr h)

/-- A put keeps keys rising. -/
theorem pairwise_tput {t : Table α} (k : Nat) (v : α) (h : t.Pairwise (fun a b => a.1 < b.1)) :
    (tput k v t).Pairwise (fun a b => a.1 < b.1) := by
  induction t with
  | nil => simp [tput]
  | cons e r ih =>
    obtain ⟨k', v'⟩ := e
    rw [List.pairwise_cons] at h
    obtain ⟨h1, h2⟩ := h
    rw [tput]
    split
    · rename_i hk
      refine List.pairwise_cons.2 ⟨?_, List.pairwise_cons.2 ⟨h1, h2⟩⟩
      intro e he
      rcases List.mem_cons.1 he with rfl | he
      · exact hk
      · exact Nat.lt_trans hk (h1 e he)
    · split
      · rename_i hk hk'
        subst hk'
        exact List.pairwise_cons.2 ⟨h1, h2⟩
      · rename_i hk hk'
        refine List.pairwise_cons.2 ⟨?_, ih h2⟩
        intro e he
        rcases mem_tput he with rfl | he
        · simp only; omega
        · exact h1 e he

/-- A filter keeps the canonical form. -/
theorem twf_filter [DecidableEq α] (d : Nat → α) (t : Table α) (p : Nat × α → Bool) (h : twf d t = true) :
    twf d (t.filter p) = true := by
  rw [twf_iff] at h ⊢
  exact ⟨h.1.filter _, fun e he => h.2 e (List.mem_filter.1 he).1⟩

/-- A write keeps the canonical form. -/
theorem twf_tset [DecidableEq α] (d : Nat → α) (t : Table α) (k : Nat) (v : α) (h : twf d t = true) :
    twf d (tset d t k v) = true := by
  unfold tset
  split
  · exact twf_filter d t _ h
  · rename_i hv
    rw [twf_iff] at h ⊢
    refine ⟨pairwise_tput k v h.1, fun e he => ?_⟩
    rcases mem_tput he with rfl | he
    · exact hv
    · exact h.2 e he

/-- In the canonical form, tables that read alike are equal. -/
theorem twf_ext [DecidableEq α] (d : Nat → α) (t u : Table α) (ht : twf d t = true) (hu : twf d u = true)
    (h : ∀ k, tget d t k = tget d u k) : t = u := by
  induction t generalizing u with
  | nil =>
    cases u with
    | nil => rfl
    | cons e r =>
      have := h e.1
      rw [twf_iff] at hu
      exact absurd (by simpa [tget] using this.symm) (hu.2 e (List.mem_cons_self ..))
  | cons e r ih =>
    rw [twf_iff] at ht
    cases u with
    | nil =>
      have := h e.1
      exact absurd (by simpa [tget] using this) (ht.2 e (List.mem_cons_self ..))
    | cons f q =>
      have hu' := hu
      rw [twf_iff] at hu
      have hrt : ∀ x ∈ r, e.1 < x.1 := (List.pairwise_cons.1 ht.1).1
      have hqt : ∀ x ∈ q, f.1 < x.1 := (List.pairwise_cons.1 hu.1).1
      have hef : e.1 = f.1 := by
        rcases Nat.lt_trichotomy e.1 f.1 with hlt | heq | hgt
        · have h1 := h e.1
          rw [tget_of_lt d (f :: q) e.1 (fun x hx => by
            rcases List.mem_cons.1 hx with rfl | hx
            · exact hlt
            · exact Nat.lt_trans hlt (hqt x hx))] at h1
          exact absurd (by simpa [tget] using h1) (ht.2 e (List.mem_cons_self ..))
        · exact heq
        · have h1 := h f.1
          rw [tget_of_lt d (e :: r) f.1 (fun x hx => by
            rcases List.mem_cons.1 hx with rfl | hx
            · exact hgt
            · exact Nat.lt_trans hgt (hrt x hx))] at h1
          exact absurd (by simpa [tget] using h1.symm) (hu.2 f (List.mem_cons_self ..))
      have hv : e.2 = f.2 := by
        have h1 := h e.1
        simpa [tget, hef] using h1
      have hrq : r = q := by
        refine ih q ?_ ?_ ?_
        · rw [twf_iff]; exact ⟨(List.pairwise_cons.1 ht.1).2, fun x hx => ht.2 x (List.mem_cons_of_mem _ hx)⟩
        · rw [twf_iff]; exact ⟨(List.pairwise_cons.1 hu.1).2, fun x hx => hu.2 x (List.mem_cons_of_mem _ hx)⟩
        · intro k
          by_cases hk : k = e.1
          · subst hk
            rw [tget_of_lt d r _ hrt, tget_of_lt d q _ (by rw [hef]; exact hqt)]
          · have h1 := h k
            simp only [tget] at h1
            rwa [if_neg (fun x => hk x.symm), if_neg (fun x => hk (by rw [hef]; exact x.symm))] at h1
      obtain ⟨e1, e2⟩ := e
      obtain ⟨f1, f2⟩ := f
      simp only at hef hv
      rw [hef, hv, hrq]

end Sys2Proof.Machine
end

