-- ==== Sys2Proof/Laws/State.lean ====
section
/-! SUPPORT. Laws of the state's primitive updates: for each update one lemma a field, and reading what was written. -/

namespace Sys2Proof.Machine

variable (s : State)

/-! ### Reading what was written -/

@[simp] theorem State.reg_setReg_self (a : Nat) (v : BitVec 32) : (s.setReg a v).reg a = v := tget_tset_self ..

theorem State.reg_setReg_ne {a b : Nat} (v : BitVec 32) (h : b ≠ a) : (s.setReg a v).reg b = s.reg b :=
  tget_tset_ne _ _ _ h

@[simp] theorem State.th_setTh_self (t : Nat) (x : Thread) : (s.setTh t x).th t = x := tget_tset_self ..

theorem State.th_setTh_ne {t u : Nat} (x : Thread) (h : u ≠ t) : (s.setTh t x).th u = s.th u := tget_tset_ne _ _ _ h

@[simp] theorem State.th_modTh_self (t : Nat) (f : Thread → Thread) : (s.modTh t f).th t = f (s.th t) :=
  s.th_setTh_self t _

theorem State.th_modTh_ne {t u : Nat} (f : Thread → Thread) (h : u ≠ t) : (s.modTh t f).th u = s.th u :=
  s.th_setTh_ne _ h

/-- w0 reads as zero DATA whatever is written to it (spec/02 R36). -/
@[simp] theorem Thread.reg_zero (x : Thread) : x.reg 0 = Word.zero := rfl

@[simp] theorem Thread.setReg_zero (x : Thread) (w : Word) : x.setReg 0 w = x := rfl

theorem Thread.reg_setReg (x : Thread) (r q : Nat) (w : Word) :
    (x.setReg r w).reg q = if q = r ∧ r ≠ 0 then w else x.reg q := by
  by_cases hr : r = 0
  · subst hr; simp
  · by_cases hq : q = 0
    · subst hq; simp [Ne.symm hr]
    · simp [Thread.reg, Thread.setReg, hr, hq, tget_tset]

/-- Writing a register of a thread changes nothing else of it. -/
theorem Thread.setReg_eq (x : Thread) (r : Nat) (w : Word) :
    x.setReg r w = { x with regs := (x.setReg r w).regs } := by
  by_cases hr : r = 0
  · subst hr; rfl
  · simp [Thread.setReg, hr]

@[simp] theorem Thread.setReg_pc (x : Thread) (r : Nat) (w : Word) : (x.setReg r w).pc = x.pc := by
  rw [Thread.setReg_eq]

@[simp] theorem Thread.setReg_life (x : Thread) (r : Nat) (w : Word) : (x.setReg r w).life = x.life := by
  rw [Thread.setReg_eq]

@[simp] theorem Thread.setReg_wait (x : Thread) (r : Nat) (w : Word) : (x.setReg r w).wait = x.wait := by
  rw [Thread.setReg_eq]

/-! ### Which fields an update leaves alone -/

@[simp] theorem State.setReg_pending (a : Nat) (v : BitVec 32) : (s.setReg a v).pending = s.pending := rfl
@[simp] theorem State.setReg_mem (a : Nat) (v : BitVec 32) : (s.setReg a v).mem = s.mem := rfl
@[simp] theorem State.setReg_bad (a : Nat) (v : BitVec 32) : (s.setReg a v).bad = s.bad := rfl
@[simp] theorem State.setReg_caches (a : Nat) (v : BitVec 32) : (s.setReg a v).caches = s.caches := rfl
@[simp] theorem State.setReg_icache (a : Nat) (v : BitVec 32) : (s.setReg a v).icache = s.icache := rfl
@[simp] theorem State.setReg_scrub (a : Nat) (v : BitVec 32) : (s.setReg a v).scrub = s.scrub := rfl
@[simp] theorem State.setReg_patrols (a : Nat) (v : BitVec 32) : (s.setReg a v).patrols = s.patrols := rfl
@[simp] theorem State.setReg_ceLast (a : Nat) (v : BitVec 32) : (s.setReg a v).ceLast = s.ceLast := rfl
@[simp] theorem State.setReg_sdcInit (a : Nat) (v : BitVec 32) : (s.setReg a v).sdcInit = s.sdcInit := rfl
@[simp] theorem State.setReg_sdcDead (a : Nat) (v : BitVec 32) : (s.setReg a v).sdcDead = s.sdcDead := rfl
@[simp] theorem State.setReg_threads (a : Nat) (v : BitVec 32) : (s.setReg a v).threads = s.threads := rfl
@[simp] theorem State.setReg_helpers (a : Nat) (v : BitVec 32) : (s.setReg a v).helpers = s.helpers := rfl
@[simp] theorem State.setReg_taskEntry (a : Nat) (v : BitVec 32) : (s.setReg a v).taskEntry = s.taskEntry := rfl
@[simp] theorem State.setReg_pools (a : Nat) (v : BitVec 32) : (s.setReg a v).pools = s.pools := rfl
@[simp] theorem State.setReg_audit (a : Nat) (v : BitVec 32) : (s.setReg a v).audit = s.audit := rfl
@[simp] theorem State.setReg_tasks (a : Nat) (v : BitVec 32) : (s.setReg a v).tasks = s.tasks := rfl
@[simp] theorem State.setReg_sched (a : Nat) (v : BitVec 32) : (s.setReg a v).sched = s.sched := rfl
@[simp] theorem State.setReg_txq (a : Nat) (v : BitVec 32) : (s.setReg a v).txq = s.txq := rfl
@[simp] theorem State.setReg_out (a : Nat) (v : BitVec 32) : (s.setReg a v).out = s.out := rfl
@[simp] theorem State.setReg_pauseAt (a : Nat) (v : BitVec 32) : (s.setReg a v).pauseAt = s.pauseAt := rfl
@[simp] theorem State.setReg_pauseSent (a : Nat) (v : BitVec 32) : (s.setReg a v).pauseSent = s.pauseSent := rfl
@[simp] theorem State.setReg_pauseEnd (a : Nat) (v : BitVec 32) : (s.setReg a v).pauseEnd = s.pauseEnd := rfl
@[simp] theorem State.setReg_hiBer (a : Nat) (v : BitVec 32) : (s.setReg a v).hiBer = s.hiBer := rfl
@[simp] theorem State.setReg_ts (a : Nat) (v : BitVec 32) : (s.setReg a v).ts = s.ts := rfl
@[simp] theorem State.setReg_frames (a : Nat) (v : BitVec 32) : (s.setReg a v).frames = s.frames := rfl
@[simp] theorem State.setReg_prsNodes (a : Nat) (v : BitVec 32) : (s.setReg a v).prsNodes = s.prsNodes := rfl
@[simp] theorem State.setReg_cls (a : Nat) (v : BitVec 32) : (s.setReg a v).cls = s.cls := rfl
@[simp] theorem State.setReg_tap (a : Nat) (v : BitVec 32) : (s.setReg a v).tap = s.tap := rfl
@[simp] theorem State.setReg_ring (a : Nat) (v : BitVec 32) : (s.setReg a v).ring = s.ring := rfl
@[simp] theorem State.setReg_dict (a : Nat) (v : BitVec 32) : (s.setReg a v).dict = s.dict := rfl
@[simp] theorem State.setReg_recorder (a : Nat) (v : BitVec 32) : (s.setReg a v).recorder = s.recorder := rfl
@[simp] theorem State.setReg_acc (a : Nat) (v : BitVec 32) : (s.setReg a v).acc = s.acc := rfl
@[simp] theorem State.setReg_timers (a : Nat) (v : BitVec 32) : (s.setReg a v).timers = s.timers := rfl
@[simp] theorem State.setReg_chans (a : Nat) (v : BitVec 32) : (s.setReg a v).chans = s.chans := rfl
@[simp] theorem State.setReg_events (a : Nat) (v : BitVec 32) : (s.setReg a v).events = s.events := rfl
@[simp] theorem State.setReg_timeBase (a : Nat) (v : BitVec 32) : (s.setReg a v).timeBase = s.timeBase := rfl
@[simp] theorem State.setReg_sioIn (a : Nat) (v : BitVec 32) : (s.setReg a v).sioIn = s.sioIn := rfl
@[simp] theorem State.setReg_ringRate (a : Nat) (v : BitVec 32) : (s.setReg a v).ringRate = s.ringRate := rfl
@[simp] theorem State.setReg_phase (a : Nat) (v : BitVec 32) : (s.setReg a v).phase = s.phase := rfl
@[simp] theorem State.setReg_vcoreOn (a : Nat) (v : BitVec 32) : (s.setReg a v).vcoreOn = s.vcoreOn := rfl
@[simp] theorem State.setReg_loop (a : Nat) (v : BitVec 32) : (s.setReg a v).loop = s.loop := rfl
@[simp] theorem State.setReg_standby (a : Nat) (v : BitVec 32) : (s.setReg a v).standby = s.standby := rfl
@[simp] theorem State.setReg_supply (a : Nat) (v : BitVec 32) : (s.setReg a v).supply = s.supply := rfl
@[simp] theorem State.setReg_wdt (a : Nat) (v : BitVec 32) : (s.setReg a v).wdt = s.wdt := rfl
@[simp] theorem State.setReg_kick (a : Nat) (v : BitVec 32) : (s.setReg a v).kick = s.kick := rfl
@[simp] theorem State.setReg_boot (a : Nat) (v : BitVec 32) : (s.setReg a v).boot = s.boot := rfl
@[simp] theorem State.setReg_field (a : Nat) (v : BitVec 32) : (s.setReg a v).field = s.field := rfl
@[simp] theorem State.setReg_host (a : Nat) (v : BitVec 32) : (s.setReg a v).host = s.host := rfl
@[simp] theorem State.setReg_freeCount (a : Nat) (v : BitVec 32) : (s.setReg a v).freeCount = s.freeCount := rfl

@[simp] theorem State.wr_pending (f : Fld) (v : Nat) : (s.wr f v).pending = s.pending := rfl
@[simp] theorem State.wr_mem (f : Fld) (v : Nat) : (s.wr f v).mem = s.mem := rfl
@[simp] theorem State.wr_bad (f : Fld) (v : Nat) : (s.wr f v).bad = s.bad := rfl
@[simp] theorem State.wr_caches (f : Fld) (v : Nat) : (s.wr f v).caches = s.caches := rfl
@[simp] theorem State.wr_icache (f : Fld) (v : Nat) : (s.wr f v).icache = s.icache := rfl
@[simp] theorem State.wr_scrub (f : Fld) (v : Nat) : (s.wr f v).scrub = s.scrub := rfl
@[simp] theorem State.wr_patrols (f : Fld) (v : Nat) : (s.wr f v).patrols = s.patrols := rfl
@[simp] theorem State.wr_ceLast (f : Fld) (v : Nat) : (s.wr f v).ceLast = s.ceLast := rfl
@[simp] theorem State.wr_sdcInit (f : Fld) (v : Nat) : (s.wr f v).sdcInit = s.sdcInit := rfl
@[simp] theorem State.wr_sdcDead (f : Fld) (v : Nat) : (s.wr f v).sdcDead = s.sdcDead := rfl
@[simp] theorem State.wr_threads (f : Fld) (v : Nat) : (s.wr f v).threads = s.threads := rfl
@[simp] theorem State.wr_helpers (f : Fld) (v : Nat) : (s.wr f v).helpers = s.helpers := rfl
@[simp] theorem State.wr_taskEntry (f : Fld) (v : Nat) : (s.wr f v).taskEntry = s.taskEntry := rfl
@[simp] theorem State.wr_pools (f : Fld) (v : Nat) : (s.wr f v).pools = s.pools := rfl
@[simp] theorem State.wr_audit (f : Fld) (v : Nat) : (s.wr f v).audit = s.audit := rfl
@[simp] theorem State.wr_tasks (f : Fld) (v : Nat) : (s.wr f v).tasks = s.tasks := rfl
@[simp] theorem State.wr_sched (f : Fld) (v : Nat) : (s.wr f v).sched = s.sched := rfl
@[simp] theorem State.wr_txq (f : Fld) (v : Nat) : (s.wr f v).txq = s.txq := rfl
@[simp] theorem State.wr_out (f : Fld) (v : Nat) : (s.wr f v).out = s.out := rfl
@[simp] theorem State.wr_pauseAt (f : Fld) (v : Nat) : (s.wr f v).pauseAt = s.pauseAt := rfl
@[simp] theorem State.wr_pauseSent (f : Fld) (v : Nat) : (s.wr f v).pauseSent = s.pauseSent := rfl
@[simp] theorem State.wr_pauseEnd (f : Fld) (v : Nat) : (s.wr f v).pauseEnd = s.pauseEnd := rfl
@[simp] theorem State.wr_hiBer (f : Fld) (v : Nat) : (s.wr f v).hiBer = s.hiBer := rfl
@[simp] theorem State.wr_ts (f : Fld) (v : Nat) : (s.wr f v).ts = s.ts := rfl
@[simp] theorem State.wr_frames (f : Fld) (v : Nat) : (s.wr f v).frames = s.frames := rfl
@[simp] theorem State.wr_prsNodes (f : Fld) (v : Nat) : (s.wr f v).prsNodes = s.prsNodes := rfl
@[simp] theorem State.wr_cls (f : Fld) (v : Nat) : (s.wr f v).cls = s.cls := rfl
@[simp] theorem State.wr_tap (f : Fld) (v : Nat) : (s.wr f v).tap = s.tap := rfl
@[simp] theorem State.wr_ring (f : Fld) (v : Nat) : (s.wr f v).ring = s.ring := rfl
@[simp] theorem State.wr_dict (f : Fld) (v : Nat) : (s.wr f v).dict = s.dict := rfl
@[simp] theorem State.wr_recorder (f : Fld) (v : Nat) : (s.wr f v).recorder = s.recorder := rfl
@[simp] theorem State.wr_acc (f : Fld) (v : Nat) : (s.wr f v).acc = s.acc := rfl
@[simp] theorem State.wr_timers (f : Fld) (v : Nat) : (s.wr f v).timers = s.timers := rfl
@[simp] theorem State.wr_chans (f : Fld) (v : Nat) : (s.wr f v).chans = s.chans := rfl
@[simp] theorem State.wr_events (f : Fld) (v : Nat) : (s.wr f v).events = s.events := rfl
@[simp] theorem State.wr_timeBase (f : Fld) (v : Nat) : (s.wr f v).timeBase = s.timeBase := rfl
@[simp] theorem State.wr_sioIn (f : Fld) (v : Nat) : (s.wr f v).sioIn = s.sioIn := rfl
@[simp] theorem State.wr_ringRate (f : Fld) (v : Nat) : (s.wr f v).ringRate = s.ringRate := rfl
@[simp] theorem State.wr_phase (f : Fld) (v : Nat) : (s.wr f v).phase = s.phase := rfl
@[simp] theorem State.wr_vcoreOn (f : Fld) (v : Nat) : (s.wr f v).vcoreOn = s.vcoreOn := rfl
@[simp] theorem State.wr_loop (f : Fld) (v : Nat) : (s.wr f v).loop = s.loop := rfl
@[simp] theorem State.wr_standby (f : Fld) (v : Nat) : (s.wr f v).standby = s.standby := rfl
@[simp] theorem State.wr_supply (f : Fld) (v : Nat) : (s.wr f v).supply = s.supply := rfl
@[simp] theorem State.wr_wdt (f : Fld) (v : Nat) : (s.wr f v).wdt = s.wdt := rfl
@[simp] theorem State.wr_kick (f : Fld) (v : Nat) : (s.wr f v).kick = s.kick := rfl
@[simp] theorem State.wr_boot (f : Fld) (v : Nat) : (s.wr f v).boot = s.boot := rfl
@[simp] theorem State.wr_field (f : Fld) (v : Nat) : (s.wr f v).field = s.field := rfl
@[simp] theorem State.wr_host (f : Fld) (v : Nat) : (s.wr f v).host = s.host := rfl
@[simp] theorem State.wr_freeCount (f : Fld) (v : Nat) : (s.wr f v).freeCount = s.freeCount := rfl

@[simp] theorem State.setTh_pending (t : Nat) (x : Thread) : (s.setTh t x).pending = s.pending := rfl
@[simp] theorem State.setTh_regs (t : Nat) (x : Thread) : (s.setTh t x).regs = s.regs := rfl
@[simp] theorem State.setTh_mem (t : Nat) (x : Thread) : (s.setTh t x).mem = s.mem := rfl
@[simp] theorem State.setTh_bad (t : Nat) (x : Thread) : (s.setTh t x).bad = s.bad := rfl
@[simp] theorem State.setTh_caches (t : Nat) (x : Thread) : (s.setTh t x).caches = s.caches := rfl
@[simp] theorem State.setTh_icache (t : Nat) (x : Thread) : (s.setTh t x).icache = s.icache := rfl
@[simp] theorem State.setTh_scrub (t : Nat) (x : Thread) : (s.setTh t x).scrub = s.scrub := rfl
@[simp] theorem State.setTh_patrols (t : Nat) (x : Thread) : (s.setTh t x).patrols = s.patrols := rfl
@[simp] theorem State.setTh_ceLast (t : Nat) (x : Thread) : (s.setTh t x).ceLast = s.ceLast := rfl
@[simp] theorem State.setTh_sdcInit (t : Nat) (x : Thread) : (s.setTh t x).sdcInit = s.sdcInit := rfl
@[simp] theorem State.setTh_sdcDead (t : Nat) (x : Thread) : (s.setTh t x).sdcDead = s.sdcDead := rfl
@[simp] theorem State.setTh_helpers (t : Nat) (x : Thread) : (s.setTh t x).helpers = s.helpers := rfl
@[simp] theorem State.setTh_taskEntry (t : Nat) (x : Thread) : (s.setTh t x).taskEntry = s.taskEntry := rfl
@[simp] theorem State.setTh_pools (t : Nat) (x : Thread) : (s.setTh t x).pools = s.pools := rfl
@[simp] theorem State.setTh_audit (t : Nat) (x : Thread) : (s.setTh t x).audit = s.audit := rfl
@[simp] theorem State.setTh_tasks (t : Nat) (x : Thread) : (s.setTh t x).tasks = s.tasks := rfl
@[simp] theorem State.setTh_sched (t : Nat) (x : Thread) : (s.setTh t x).sched = s.sched := rfl
@[simp] theorem State.setTh_txq (t : Nat) (x : Thread) : (s.setTh t x).txq = s.txq := rfl
@[simp] theorem State.setTh_out (t : Nat) (x : Thread) : (s.setTh t x).out = s.out := rfl
@[simp] theorem State.setTh_pauseAt (t : Nat) (x : Thread) : (s.setTh t x).pauseAt = s.pauseAt := rfl
@[simp] theorem State.setTh_pauseSent (t : Nat) (x : Thread) : (s.setTh t x).pauseSent = s.pauseSent := rfl
@[simp] theorem State.setTh_pauseEnd (t : Nat) (x : Thread) : (s.setTh t x).pauseEnd = s.pauseEnd := rfl
@[simp] theorem State.setTh_hiBer (t : Nat) (x : Thread) : (s.setTh t x).hiBer = s.hiBer := rfl
@[simp] theorem State.setTh_ts (t : Nat) (x : Thread) : (s.setTh t x).ts = s.ts := rfl
@[simp] theorem State.setTh_frames (t : Nat) (x : Thread) : (s.setTh t x).frames = s.frames := rfl
@[simp] theorem State.setTh_prsNodes (t : Nat) (x : Thread) : (s.setTh t x).prsNodes = s.prsNodes := rfl
@[simp] theorem State.setTh_cls (t : Nat) (x : Thread) : (s.setTh t x).cls = s.cls := rfl
@[simp] theorem State.setTh_tap (t : Nat) (x : Thread) : (s.setTh t x).tap = s.tap := rfl
@[simp] theorem State.setTh_ring (t : Nat) (x : Thread) : (s.setTh t x).ring = s.ring := rfl
@[simp] theorem State.setTh_dict (t : Nat) (x : Thread) : (s.setTh t x).dict = s.dict := rfl
@[simp] theorem State.setTh_recorder (t : Nat) (x : Thread) : (s.setTh t x).recorder = s.recorder := rfl
@[simp] theorem State.setTh_acc (t : Nat) (x : Thread) : (s.setTh t x).acc = s.acc := rfl
@[simp] theorem State.setTh_timers (t : Nat) (x : Thread) : (s.setTh t x).timers = s.timers := rfl
@[simp] theorem State.setTh_chans (t : Nat) (x : Thread) : (s.setTh t x).chans = s.chans := rfl
@[simp] theorem State.setTh_events (t : Nat) (x : Thread) : (s.setTh t x).events = s.events := rfl
@[simp] theorem State.setTh_timeBase (t : Nat) (x : Thread) : (s.setTh t x).timeBase = s.timeBase := rfl
@[simp] theorem State.setTh_sioIn (t : Nat) (x : Thread) : (s.setTh t x).sioIn = s.sioIn := rfl
@[simp] theorem State.setTh_ringRate (t : Nat) (x : Thread) : (s.setTh t x).ringRate = s.ringRate := rfl
@[simp] theorem State.setTh_phase (t : Nat) (x : Thread) : (s.setTh t x).phase = s.phase := rfl
@[simp] theorem State.setTh_vcoreOn (t : Nat) (x : Thread) : (s.setTh t x).vcoreOn = s.vcoreOn := rfl
@[simp] theorem State.setTh_loop (t : Nat) (x : Thread) : (s.setTh t x).loop = s.loop := rfl
@[simp] theorem State.setTh_standby (t : Nat) (x : Thread) : (s.setTh t x).standby = s.standby := rfl
@[simp] theorem State.setTh_supply (t : Nat) (x : Thread) : (s.setTh t x).supply = s.supply := rfl
@[simp] theorem State.setTh_wdt (t : Nat) (x : Thread) : (s.setTh t x).wdt = s.wdt := rfl
@[simp] theorem State.setTh_kick (t : Nat) (x : Thread) : (s.setTh t x).kick = s.kick := rfl
@[simp] theorem State.setTh_boot (t : Nat) (x : Thread) : (s.setTh t x).boot = s.boot := rfl
@[simp] theorem State.setTh_field (t : Nat) (x : Thread) : (s.setTh t x).field = s.field := rfl
@[simp] theorem State.setTh_host (t : Nat) (x : Thread) : (s.setTh t x).host = s.host := rfl
@[simp] theorem State.setTh_freeCount (t : Nat) (x : Thread) : (s.setTh t x).freeCount = s.freeCount := rfl

@[simp] theorem State.modTh_pending (t : Nat) (f : Thread → Thread) : (s.modTh t f).pending = s.pending := rfl
@[simp] theorem State.modTh_regs (t : Nat) (f : Thread → Thread) : (s.modTh t f).regs = s.regs := rfl
@[simp] theorem State.modTh_mem (t : Nat) (f : Thread → Thread) : (s.modTh t f).mem = s.mem := rfl
@[simp] theorem State.modTh_bad (t : Nat) (f : Thread → Thread) : (s.modTh t f).bad = s.bad := rfl
@[simp] theorem State.modTh_caches (t : Nat) (f : Thread → Thread) : (s.modTh t f).caches = s.caches := rfl
@[simp] theorem State.modTh_icache (t : Nat) (f : Thread → Thread) : (s.modTh t f).icache = s.icache := rfl
@[simp] theorem State.modTh_scrub (t : Nat) (f : Thread → Thread) : (s.modTh t f).scrub = s.scrub := rfl
@[simp] theorem State.modTh_patrols (t : Nat) (f : Thread → Thread) : (s.modTh t f).patrols = s.patrols := rfl
@[simp] theorem State.modTh_ceLast (t : Nat) (f : Thread → Thread) : (s.modTh t f).ceLast = s.ceLast := rfl
@[simp] theorem State.modTh_sdcInit (t : Nat) (f : Thread → Thread) : (s.modTh t f).sdcInit = s.sdcInit := rfl
@[simp] theorem State.modTh_sdcDead (t : Nat) (f : Thread → Thread) : (s.modTh t f).sdcDead = s.sdcDead := rfl
@[simp] theorem State.modTh_helpers (t : Nat) (f : Thread → Thread) : (s.modTh t f).helpers = s.helpers := rfl
@[simp] theorem State.modTh_taskEntry (t : Nat) (f : Thread → Thread) : (s.modTh t f).taskEntry = s.taskEntry := rfl
@[simp] theorem State.modTh_pools (t : Nat) (f : Thread → Thread) : (s.modTh t f).pools = s.pools := rfl
@[simp] theorem State.modTh_audit (t : Nat) (f : Thread → Thread) : (s.modTh t f).audit = s.audit := rfl
@[simp] theorem State.modTh_tasks (t : Nat) (f : Thread → Thread) : (s.modTh t f).tasks = s.tasks := rfl
@[simp] theorem State.modTh_sched (t : Nat) (f : Thread → Thread) : (s.modTh t f).sched = s.sched := rfl
@[simp] theorem State.modTh_txq (t : Nat) (f : Thread → Thread) : (s.modTh t f).txq = s.txq := rfl
@[simp] theorem State.modTh_out (t : Nat) (f : Thread → Thread) : (s.modTh t f).out = s.out := rfl
@[simp] theorem State.modTh_pauseAt (t : Nat) (f : Thread → Thread) : (s.modTh t f).pauseAt = s.pauseAt := rfl
@[simp] theorem State.modTh_pauseSent (t : Nat) (f : Thread → Thread) : (s.modTh t f).pauseSent = s.pauseSent := rfl
@[simp] theorem State.modTh_pauseEnd (t : Nat) (f : Thread → Thread) : (s.modTh t f).pauseEnd = s.pauseEnd := rfl
@[simp] theorem State.modTh_hiBer (t : Nat) (f : Thread → Thread) : (s.modTh t f).hiBer = s.hiBer := rfl
@[simp] theorem State.modTh_ts (t : Nat) (f : Thread → Thread) : (s.modTh t f).ts = s.ts := rfl
@[simp] theorem State.modTh_frames (t : Nat) (f : Thread → Thread) : (s.modTh t f).frames = s.frames := rfl
@[simp] theorem State.modTh_prsNodes (t : Nat) (f : Thread → Thread) : (s.modTh t f).prsNodes = s.prsNodes := rfl
@[simp] theorem State.modTh_cls (t : Nat) (f : Thread → Thread) : (s.modTh t f).cls = s.cls := rfl
@[simp] theorem State.modTh_tap (t : Nat) (f : Thread → Thread) : (s.modTh t f).tap = s.tap := rfl
@[simp] theorem State.modTh_ring (t : Nat) (f : Thread → Thread) : (s.modTh t f).ring = s.ring := rfl
@[simp] theorem State.modTh_dict (t : Nat) (f : Thread → Thread) : (s.modTh t f).dict = s.dict := rfl
@[simp] theorem State.modTh_recorder (t : Nat) (f : Thread → Thread) : (s.modTh t f).recorder = s.recorder := rfl
@[simp] theorem State.modTh_acc (t : Nat) (f : Thread → Thread) : (s.modTh t f).acc = s.acc := rfl
@[simp] theorem State.modTh_timers (t : Nat) (f : Thread → Thread) : (s.modTh t f).timers = s.timers := rfl
@[simp] theorem State.modTh_chans (t : Nat) (f : Thread → Thread) : (s.modTh t f).chans = s.chans := rfl
@[simp] theorem State.modTh_events (t : Nat) (f : Thread → Thread) : (s.modTh t f).events = s.events := rfl
@[simp] theorem State.modTh_timeBase (t : Nat) (f : Thread → Thread) : (s.modTh t f).timeBase = s.timeBase := rfl
@[simp] theorem State.modTh_sioIn (t : Nat) (f : Thread → Thread) : (s.modTh t f).sioIn = s.sioIn := rfl
@[simp] theorem State.modTh_ringRate (t : Nat) (f : Thread → Thread) : (s.modTh t f).ringRate = s.ringRate := rfl
@[simp] theorem State.modTh_phase (t : Nat) (f : Thread → Thread) : (s.modTh t f).phase = s.phase := rfl
@[simp] theorem State.modTh_vcoreOn (t : Nat) (f : Thread → Thread) : (s.modTh t f).vcoreOn = s.vcoreOn := rfl
@[simp] theorem State.modTh_loop (t : Nat) (f : Thread → Thread) : (s.modTh t f).loop = s.loop := rfl
@[simp] theorem State.modTh_standby (t : Nat) (f : Thread → Thread) : (s.modTh t f).standby = s.standby := rfl
@[simp] theorem State.modTh_supply (t : Nat) (f : Thread → Thread) : (s.modTh t f).supply = s.supply := rfl
@[simp] theorem State.modTh_wdt (t : Nat) (f : Thread → Thread) : (s.modTh t f).wdt = s.wdt := rfl
@[simp] theorem State.modTh_kick (t : Nat) (f : Thread → Thread) : (s.modTh t f).kick = s.kick := rfl
@[simp] theorem State.modTh_boot (t : Nat) (f : Thread → Thread) : (s.modTh t f).boot = s.boot := rfl
@[simp] theorem State.modTh_field (t : Nat) (f : Thread → Thread) : (s.modTh t f).field = s.field := rfl
@[simp] theorem State.modTh_host (t : Nat) (f : Thread → Thread) : (s.modTh t f).host = s.host := rfl
@[simp] theorem State.modTh_freeCount (t : Nat) (f : Thread → Thread) : (s.modTh t f).freeCount = s.freeCount := rfl

@[simp] theorem State.setW_pending (t r : Nat) (w : Word) : (s.setW t r w).pending = s.pending := rfl
@[simp] theorem State.setW_regs (t r : Nat) (w : Word) : (s.setW t r w).regs = s.regs := rfl
@[simp] theorem State.setW_mem (t r : Nat) (w : Word) : (s.setW t r w).mem = s.mem := rfl
@[simp] theorem State.setW_bad (t r : Nat) (w : Word) : (s.setW t r w).bad = s.bad := rfl
@[simp] theorem State.setW_caches (t r : Nat) (w : Word) : (s.setW t r w).caches = s.caches := rfl
@[simp] theorem State.setW_icache (t r : Nat) (w : Word) : (s.setW t r w).icache = s.icache := rfl
@[simp] theorem State.setW_scrub (t r : Nat) (w : Word) : (s.setW t r w).scrub = s.scrub := rfl
@[simp] theorem State.setW_patrols (t r : Nat) (w : Word) : (s.setW t r w).patrols = s.patrols := rfl
@[simp] theorem State.setW_ceLast (t r : Nat) (w : Word) : (s.setW t r w).ceLast = s.ceLast := rfl
@[simp] theorem State.setW_sdcInit (t r : Nat) (w : Word) : (s.setW t r w).sdcInit = s.sdcInit := rfl
@[simp] theorem State.setW_sdcDead (t r : Nat) (w : Word) : (s.setW t r w).sdcDead = s.sdcDead := rfl
@[simp] theorem State.setW_helpers (t r : Nat) (w : Word) : (s.setW t r w).helpers = s.helpers := rfl
@[simp] theorem State.setW_taskEntry (t r : Nat) (w : Word) : (s.setW t r w).taskEntry = s.taskEntry := rfl
@[simp] theorem State.setW_pools (t r : Nat) (w : Word) : (s.setW t r w).pools = s.pools := rfl
@[simp] theorem State.setW_audit (t r : Nat) (w : Word) : (s.setW t r w).audit = s.audit := rfl
@[simp] theorem State.setW_tasks (t r : Nat) (w : Word) : (s.setW t r w).tasks = s.tasks := rfl
@[simp] theorem State.setW_sched (t r : Nat) (w : Word) : (s.setW t r w).sched = s.sched := rfl
@[simp] theorem State.setW_txq (t r : Nat) (w : Word) : (s.setW t r w).txq = s.txq := rfl
@[simp] theorem State.setW_out (t r : Nat) (w : Word) : (s.setW t r w).out = s.out := rfl
@[simp] theorem State.setW_pauseAt (t r : Nat) (w : Word) : (s.setW t r w).pauseAt = s.pauseAt := rfl
@[simp] theorem State.setW_pauseSent (t r : Nat) (w : Word) : (s.setW t r w).pauseSent = s.pauseSent := rfl
@[simp] theorem State.setW_pauseEnd (t r : Nat) (w : Word) : (s.setW t r w).pauseEnd = s.pauseEnd := rfl
@[simp] theorem State.setW_hiBer (t r : Nat) (w : Word) : (s.setW t r w).hiBer = s.hiBer := rfl
@[simp] theorem State.setW_ts (t r : Nat) (w : Word) : (s.setW t r w).ts = s.ts := rfl
@[simp] theorem State.setW_frames (t r : Nat) (w : Word) : (s.setW t r w).frames = s.frames := rfl
@[simp] theorem State.setW_prsNodes (t r : Nat) (w : Word) : (s.setW t r w).prsNodes = s.prsNodes := rfl
@[simp] theorem State.setW_cls (t r : Nat) (w : Word) : (s.setW t r w).cls = s.cls := rfl
@[simp] theorem State.setW_tap (t r : Nat) (w : Word) : (s.setW t r w).tap = s.tap := rfl
@[simp] theorem State.setW_ring (t r : Nat) (w : Word) : (s.setW t r w).ring = s.ring := rfl
@[simp] theorem State.setW_dict (t r : Nat) (w : Word) : (s.setW t r w).dict = s.dict := rfl
@[simp] theorem State.setW_recorder (t r : Nat) (w : Word) : (s.setW t r w).recorder = s.recorder := rfl
@[simp] theorem State.setW_acc (t r : Nat) (w : Word) : (s.setW t r w).acc = s.acc := rfl
@[simp] theorem State.setW_timers (t r : Nat) (w : Word) : (s.setW t r w).timers = s.timers := rfl
@[simp] theorem State.setW_chans (t r : Nat) (w : Word) : (s.setW t r w).chans = s.chans := rfl
@[simp] theorem State.setW_events (t r : Nat) (w : Word) : (s.setW t r w).events = s.events := rfl
@[simp] theorem State.setW_timeBase (t r : Nat) (w : Word) : (s.setW t r w).timeBase = s.timeBase := rfl
@[simp] theorem State.setW_sioIn (t r : Nat) (w : Word) : (s.setW t r w).sioIn = s.sioIn := rfl
@[simp] theorem State.setW_ringRate (t r : Nat) (w : Word) : (s.setW t r w).ringRate = s.ringRate := rfl
@[simp] theorem State.setW_phase (t r : Nat) (w : Word) : (s.setW t r w).phase = s.phase := rfl
@[simp] theorem State.setW_vcoreOn (t r : Nat) (w : Word) : (s.setW t r w).vcoreOn = s.vcoreOn := rfl
@[simp] theorem State.setW_loop (t r : Nat) (w : Word) : (s.setW t r w).loop = s.loop := rfl
@[simp] theorem State.setW_standby (t r : Nat) (w : Word) : (s.setW t r w).standby = s.standby := rfl
@[simp] theorem State.setW_supply (t r : Nat) (w : Word) : (s.setW t r w).supply = s.supply := rfl
@[simp] theorem State.setW_wdt (t r : Nat) (w : Word) : (s.setW t r w).wdt = s.wdt := rfl
@[simp] theorem State.setW_kick (t r : Nat) (w : Word) : (s.setW t r w).kick = s.kick := rfl
@[simp] theorem State.setW_boot (t r : Nat) (w : Word) : (s.setW t r w).boot = s.boot := rfl
@[simp] theorem State.setW_field (t r : Nat) (w : Word) : (s.setW t r w).field = s.field := rfl
@[simp] theorem State.setW_host (t r : Nat) (w : Word) : (s.setW t r w).host = s.host := rfl
@[simp] theorem State.setW_freeCount (t r : Nat) (w : Word) : (s.setW t r w).freeCount = s.freeCount := rfl

@[simp] theorem State.setWord_pending (k : Nat) (w : Word) : (s.setWord k w).pending = s.pending := rfl
@[simp] theorem State.setWord_regs (k : Nat) (w : Word) : (s.setWord k w).regs = s.regs := rfl
@[simp] theorem State.setWord_caches (k : Nat) (w : Word) : (s.setWord k w).caches = s.caches := rfl
@[simp] theorem State.setWord_icache (k : Nat) (w : Word) : (s.setWord k w).icache = s.icache := rfl
@[simp] theorem State.setWord_scrub (k : Nat) (w : Word) : (s.setWord k w).scrub = s.scrub := rfl
@[simp] theorem State.setWord_patrols (k : Nat) (w : Word) : (s.setWord k w).patrols = s.patrols := rfl
@[simp] theorem State.setWord_ceLast (k : Nat) (w : Word) : (s.setWord k w).ceLast = s.ceLast := rfl
@[simp] theorem State.setWord_sdcInit (k : Nat) (w : Word) : (s.setWord k w).sdcInit = s.sdcInit := rfl
@[simp] theorem State.setWord_sdcDead (k : Nat) (w : Word) : (s.setWord k w).sdcDead = s.sdcDead := rfl
@[simp] theorem State.setWord_threads (k : Nat) (w : Word) : (s.setWord k w).threads = s.threads := rfl
@[simp] theorem State.setWord_helpers (k : Nat) (w : Word) : (s.setWord k w).helpers = s.helpers := rfl
@[simp] theorem State.setWord_taskEntry (k : Nat) (w : Word) : (s.setWord k w).taskEntry = s.taskEntry := rfl
@[simp] theorem State.setWord_pools (k : Nat) (w : Word) : (s.setWord k w).pools = s.pools := rfl
@[simp] theorem State.setWord_audit (k : Nat) (w : Word) : (s.setWord k w).audit = s.audit := rfl
@[simp] theorem State.setWord_tasks (k : Nat) (w : Word) : (s.setWord k w).tasks = s.tasks := rfl
@[simp] theorem State.setWord_sched (k : Nat) (w : Word) : (s.setWord k w).sched = s.sched := rfl
@[simp] theorem State.setWord_txq (k : Nat) (w : Word) : (s.setWord k w).txq = s.txq := rfl
@[simp] theorem State.setWord_out (k : Nat) (w : Word) : (s.setWord k w).out = s.out := rfl
@[simp] theorem State.setWord_pauseAt (k : Nat) (w : Word) : (s.setWord k w).pauseAt = s.pauseAt := rfl
@[simp] theorem State.setWord_pauseSent (k : Nat) (w : Word) : (s.setWord k w).pauseSent = s.pauseSent := rfl
@[simp] theorem State.setWord_pauseEnd (k : Nat) (w : Word) : (s.setWord k w).pauseEnd = s.pauseEnd := rfl
@[simp] theorem State.setWord_hiBer (k : Nat) (w : Word) : (s.setWord k w).hiBer = s.hiBer := rfl
@[simp] theorem State.setWord_ts (k : Nat) (w : Word) : (s.setWord k w).ts = s.ts := rfl
@[simp] theorem State.setWord_frames (k : Nat) (w : Word) : (s.setWord k w).frames = s.frames := rfl
@[simp] theorem State.setWord_prsNodes (k : Nat) (w : Word) : (s.setWord k w).prsNodes = s.prsNodes := rfl
@[simp] theorem State.setWord_cls (k : Nat) (w : Word) : (s.setWord k w).cls = s.cls := rfl
@[simp] theorem State.setWord_tap (k : Nat) (w : Word) : (s.setWord k w).tap = s.tap := rfl
@[simp] theorem State.setWord_ring (k : Nat) (w : Word) : (s.setWord k w).ring = s.ring := rfl
@[simp] theorem State.setWord_dict (k : Nat) (w : Word) : (s.setWord k w).dict = s.dict := rfl
@[simp] theorem State.setWord_recorder (k : Nat) (w : Word) : (s.setWord k w).recorder = s.recorder := rfl
@[simp] theorem State.setWord_acc (k : Nat) (w : Word) : (s.setWord k w).acc = s.acc := rfl
@[simp] theorem State.setWord_timers (k : Nat) (w : Word) : (s.setWord k w).timers = s.timers := rfl
@[simp] theorem State.setWord_chans (k : Nat) (w : Word) : (s.setWord k w).chans = s.chans := rfl
@[simp] theorem State.setWord_events (k : Nat) (w : Word) : (s.setWord k w).events = s.events := rfl
@[simp] theorem State.setWord_timeBase (k : Nat) (w : Word) : (s.setWord k w).timeBase = s.timeBase := rfl
@[simp] theorem State.setWord_sioIn (k : Nat) (w : Word) : (s.setWord k w).sioIn = s.sioIn := rfl
@[simp] theorem State.setWord_ringRate (k : Nat) (w : Word) : (s.setWord k w).ringRate = s.ringRate := rfl
@[simp] theorem State.setWord_phase (k : Nat) (w : Word) : (s.setWord k w).phase = s.phase := rfl
@[simp] theorem State.setWord_vcoreOn (k : Nat) (w : Word) : (s.setWord k w).vcoreOn = s.vcoreOn := rfl
@[simp] theorem State.setWord_loop (k : Nat) (w : Word) : (s.setWord k w).loop = s.loop := rfl
@[simp] theorem State.setWord_standby (k : Nat) (w : Word) : (s.setWord k w).standby = s.standby := rfl
@[simp] theorem State.setWord_supply (k : Nat) (w : Word) : (s.setWord k w).supply = s.supply := rfl
@[simp] theorem State.setWord_wdt (k : Nat) (w : Word) : (s.setWord k w).wdt = s.wdt := rfl
@[simp] theorem State.setWord_kick (k : Nat) (w : Word) : (s.setWord k w).kick = s.kick := rfl
@[simp] theorem State.setWord_boot (k : Nat) (w : Word) : (s.setWord k w).boot = s.boot := rfl
@[simp] theorem State.setWord_field (k : Nat) (w : Word) : (s.setWord k w).field = s.field := rfl
@[simp] theorem State.setWord_host (k : Nat) (w : Word) : (s.setWord k w).host = s.host := rfl
@[simp] theorem State.setWord_freeCount (k : Nat) (w : Word) : (s.setWord k w).freeCount = s.freeCount := rfl

end Sys2Proof.Machine
end

