-- ==== Sys2Proof/Laws/Ops.lean ====
section
/-! SUPPORT. Laws of the shared operations: bit fields, register fields, memory words, issuing an instruction. -/

namespace Sys2Proof.Machine

/-! ### Bit fields -/

/-- Bit `i` of bits [lo + n − 1 : lo]. -/
theorem testBit_bits (x lo n i : Nat) : (bits x lo n).testBit i = (decide (i < n) && x.testBit (lo + i)) := by
  simp [bits, Nat.testBit_mod_two_pow, Nat.testBit_div_two_pow, Nat.add_comm]

/-- Bit `i` after bits [lo + n − 1 : lo] are replaced. -/
theorem testBit_putBits (x lo n v i : Nat) :
    (putBits x lo n v).testBit i = if lo ≤ i ∧ i < lo + n then v.testBit (i - lo) else x.testBit i := by
  have hx : x = 2 ^ lo * (2 ^ n * (x / 2 ^ lo / 2 ^ n) + x / 2 ^ lo % 2 ^ n) + x % 2 ^ lo := by
    rw [Nat.div_add_mod, Nat.div_add_mod]
  have hp : putBits x lo n v = 2 ^ lo * (2 ^ n * (x / 2 ^ lo / 2 ^ n) + v % 2 ^ n) + x % 2 ^ lo := by
    unfold putBits bits
    have h1 := hx
    generalize x / 2 ^ lo / 2 ^ n = h at *
    generalize x / 2 ^ lo % 2 ^ n = m at *
    generalize x % 2 ^ lo = l at *
    generalize v % 2 ^ n = w at *
    rw [h1, Nat.mul_add, Nat.mul_add, Nat.mul_comm m, Nat.mul_comm w]
    omega
  have hl : x % 2 ^ lo < 2 ^ lo := Nat.mod_lt _ (Nat.two_pow_pos _)
  have hv : v % 2 ^ n < 2 ^ n := Nat.mod_lt _ (Nat.two_pow_pos _)
  rw [hp, Nat.testBit_two_pow_mul_add _ hl, Nat.testBit_two_pow_mul_add _ hv]
  by_cases h1 : i < lo
  · simp [h1, Nat.not_le.2 h1, Nat.testBit_mod_two_pow]
  · by_cases h2 : i - lo < n
    · rw [if_neg h1, if_pos h2, if_pos ⟨by omega, by omega⟩, Nat.testBit_mod_two_pow]
      simp [h2]
    · rw [if_neg h1, if_neg h2, if_neg (by omega), Nat.testBit_div_two_pow, Nat.testBit_div_two_pow]
      congr 1
      omega

/-- Reading the field just replaced. -/
theorem bits_putBits_self (x lo n v : Nat) : bits (putBits x lo n v) lo n = v % 2 ^ n := by
  apply Nat.eq_of_testBit_eq
  intro i
  rw [testBit_bits, testBit_putBits, Nat.testBit_mod_two_pow]
  by_cases h : i < n
  · simp [h]
  · simp [h]

/-- Reading a field apart from the one replaced. -/
theorem bits_putBits_ne (x v : Nat) {lo n lo' n' : Nat} (h : lo + n ≤ lo' ∨ lo' + n' ≤ lo) :
    bits (putBits x lo n v) lo' n' = bits x lo' n' := by
  apply Nat.eq_of_testBit_eq
  intro i
  rw [testBit_bits, testBit_bits, testBit_putBits]
  by_cases hi : i < n'
  · rw [if_neg (by omega)]
  · simp [hi]

/-- A field that lies in the low 32 bits, of a number cut to 32 bits. -/
theorem bits_ofNat32 (x : Nat) {lo n : Nat} (h : lo + n ≤ 32) : bits (BitVec.ofNat 32 x).toNat lo n = bits x lo n := by
  apply Nat.eq_of_testBit_eq
  intro i
  rw [testBit_bits, testBit_bits, BitVec.toNat_ofNat, Nat.testBit_mod_two_pow]
  by_cases hi : i < n
  · simp [show lo + i < 32 by omega]
  · simp [hi]

/-! ### Register fields -/

/-- Reading the field just set. -/
theorem State.rd_wr_self (s : State) (f : Fld) (v : Nat) (h : f.lo + f.width ≤ 32) : (s.wr f v).rd f = v % 2 ^ f.width := by
  rw [State.rd, State.wr, State.reg_setReg_self, bits_ofNat32 _ h, bits_putBits_self]

/-- Reading a field of another register. -/
theorem State.rd_wr_addr (s : State) {f g : Fld} (v : Nat) (h : g.addr ≠ f.addr) : (s.wr f v).rd g = s.rd g := by
  rw [State.rd, State.rd, State.wr, State.reg_setReg_ne _ _ h]

/-- Reading another field of the same register. -/
theorem State.rd_wr_apart (s : State) {f g : Fld} (v : Nat) (ha : g.addr = f.addr) (hw : g.lo + g.width ≤ 32)
    (h : f.lo + f.width ≤ g.lo ∨ g.lo + g.width ≤ f.lo) : (s.wr f v).rd g = s.rd g := by
  rw [State.rd, State.rd, State.wr, ha, State.reg_setReg_self, bits_ofNat32 _ hw, bits_putBits_ne _ _ h]

/-- Reading another register. -/
theorem State.reg_wr_ne (s : State) (f : Fld) (v : Nat) {a : Nat} (h : a ≠ f.addr) : (s.wr f v).reg a = s.reg a :=
  s.reg_setReg_ne _ h

/-- A field's value is below two to its width. -/
theorem State.rd_lt (s : State) (f : Fld) : s.rd f < 2 ^ f.width := Nat.mod_lt _ (Nat.two_pow_pos _)

/-- What an offer changes: registers (the lost count) or the recorder. -/
theorem State.offer_eq (s : State) (a b c : Nat) :
    s.offer a b c = { s with regs := (s.offer a b c).regs, recorder := (s.offer a b c).recorder } := by
  unfold State.offer
  split <;> rfl

/-! ### Memory -/

/-- Memory in its canonical form: the words listed rise strictly and none reads as an unlisted word does. -/
theorem Memory.wf_setWord (s : State) (k : Nat) (w : Word) (h : Memory.wf s.mem = true) :
    Memory.wf (s.setWord k w).mem = true := twf_tset _ _ _ _ h

/-- The stored word just written, outside the boot ROM's image. -/
theorem State.word_setWord_self (s : State) (k : Nat) (w : Word)
    (h : ¬ (mbusWindow + 0x10000000 ≤ k ∧ k < mbusWindow + 0x10010000)) : (s.setWord k w).word k = w := by
  unfold State.word
  rw [if_neg h]
  exact tget_tset_self ..

/-- Every other stored word after a write. -/
theorem State.word_setWord_ne (s : State) {k j : Nat} (w : Word) (h : j ≠ k) : (s.setWord k w).word j = s.word j := by
  unfold State.word
  split
  · rfl
  · exact tget_tset_ne _ _ _ h

/-- A word without a latent error is read as stored, and the state stands. -/
theorem State.readWord_good (s : State) (m : MemId) (k : Nat) (h : tget eccDefault s.bad k = .good) :
    s.readWord m k = (s, (s.word k).readAs, false) := by
  simp [State.readWord, State.readStored, h]

/-! ### Issuing an instruction -/

/-- A thread that can issue, with a good fetch, runs the body. -/
theorem State.issue_go (s : State) (t : Nat) (p : Pipe) (r : List Reg) (body : State → Act) {s₀ s' : State}
    (hi : (s.th t).canIssue p r = true) (hf : s.fetch t = (s₀, none))
    (hb : body (s₀.modTh t (fun x => { x with lastPc := x.pc })) = .go s') : s.issue t p r body = s' := by
  simp [State.issue, hi, hf, hb]

/-- A RUNNING thread whose body raises a fault raises it. -/
theorem State.issue_flt (s : State) (t : Nat) (p : Pipe) (r : List Reg) (body : State → Act) {s₀ s' : State} {c : Nat}
    {i : Val} (hi : (s.th t).life = .running) (hf : s.fetch t = (s₀, none))
    (hb : body (s₀.modTh t (fun x => { x with lastPc := x.pc })) = .flt s' c i) : s.issue t p r body = s'.raise t c i := by
  simp [State.issue, Thread.canIssue, hi, hf, hb]

/-- A thread that cannot issue leaves the state as it is. -/
theorem State.issue_not (s : State) (t : Nat) (p : Pipe) (r : List Reg) (body : State → Act)
    (hi : (s.th t).canIssue p r = false) : s.issue t p r body = s := by
  simp [State.issue, hi]

/-- Operands none of which is POISON. -/
theorem State.noPoison_go (s : State) (t : Nat) (rs : List Reg) (body : State → Act) (h : s.poisonIn t rs = none) :
    s.noPoison t rs body = body s := by
  simp [State.noPoison, h]

end Sys2Proof.Machine
end

