-- ==== Sys2Proof/Laws/Issue.lean ====
section
/-! SUPPORT. Laws of issuing an instruction, in the terms of Safety.lean: what running its body, writing its result and moving
its pc do to the state. -/

namespace Sys2Proof.Machine

open Sys2Proof.Safety

/-! ### Issuing -/

/-- A RUNNING thread issues any instruction. -/
theorem runs_issues {s s₁ : State} {t : Nat} (h : runs s t s₁) (p : Pipe) (rs : List Reg) : issues s t p rs s₁ := by
  obtain ⟨hl, hs⟩ := h
  exact ⟨by simp [Thread.canIssue, hl], hs⟩

/-- An M-pipe instruction is issued by a RUNNING thread only. -/
theorem issues_m_runs {s s₁ : State} {t : Nat} {rs : List Reg} (h : issues s t .m rs s₁) : runs s t s₁ := by
  obtain ⟨hi, hs⟩ := h
  refine ⟨?_, hs⟩
  revert hi
  unfold Thread.canIssue
  cases (s.th t).life <;> simp
  split <;> simp

/-- The body of an instruction that goes on. -/
theorem issues_go {s s₁ s' : State} {t : Nat} {p : Pipe} {rs : List Reg} {body : State → Act} (h : issues s t p rs s₁)
    (hb : body s₁ = .go s') : s.issue t p rs body = s' := by
  obtain ⟨hi, s₀, hf, rfl⟩ := h
  exact s.issue_go t p rs body hi hf hb

/-- The body of an instruction of a RUNNING thread that raises a fault. -/
theorem runs_flt {s s₁ s' : State} {t : Nat} {body : State → Act} {c : Nat} {v : Val} (h : runs s t s₁)
    (hb : body s₁ = .flt s' c v) (p : Pipe) (rs : List Reg) : s.issue t p rs body = s'.raise t c v := by
  obtain ⟨hl, s₀, hf, rfl⟩ := h
  exact s.issue_flt t p rs body hl hf hb

/-- No operand holds POISON. -/
theorem poisonIn_none {s : State} {t : Nat} {rs : List Reg} (h : unpoisoned s t rs) : s.poisonIn t rs = none := by
  induction rs with
  | nil => rfl
  | cons r rs ih =>
    rw [State.poisonIn, if_neg (h r (by simp))]
    exact ih (fun q hq => h q (by simp [hq]))

/-- The body runs where no operand holds POISON. -/
theorem unpoisoned_go {s : State} {t : Nat} {rs : List Reg} (h : unpoisoned s t rs) (body : State → Act) :
    s.noPoison t rs body = body s := s.noPoison_go t rs body (poisonIn_none h)

/-! ### What the ends of an instruction change -/

/-- Changing one thread changes nothing else. -/
theorem onlyThread_modTh (s : State) (t : Nat) (f : Thread → Thread) : onlyThread t s (s.modTh t f) :=
  ⟨rfl, fun _ h => s.th_modTh_ne f h⟩

/-- Changing one thread changes nothing else. -/
theorem onlyThread_setTh (s : State) (t : Nat) (x : Thread) : onlyThread t s (s.setTh t x) :=
  ⟨rfl, fun _ h => s.th_setTh_ne x h⟩

/-- Writing a register changes the registers only. -/
theorem Thread.setReg_eta (x : Thread) (r : Nat) (w : Word) : x.setReg r w = { x with regs := (x.setReg r w).regs } := by
  unfold Thread.setReg
  split <;> rfl

/-- A result writes its register and marks a RELAXED load to it as overwritten. -/
theorem Thread.result_eq (x : Thread) (rd : Reg) (w : Word) : x.result rd w = { x with
    regs := (x.setReg rd.val w).regs
    wait := (match x.wait with
      | some (.load p) => some (.load { p with stale := p.stale || p.rd == rd })
      | y => y) } := by
  rw [Thread.result, Thread.setReg_eta]
  generalize (x.setReg rd.val w).regs = g
  simp only
  cases hw : x.wait with
  | none => simp
  | some y =>
    cases y with
    | load p => obtain ⟨r⟩ := p; by_cases h : r = rd <;> simp [h]
    | _ => simp

/-- A register of a thread after a result. -/
theorem Thread.reg_result (x : Thread) (rd : Reg) (w : Word) (q : Nat) : (x.result rd w).reg q = (x.setReg rd.val w).reg q := by
  rw [Thread.result_eq]
  rfl

/-- Writing a result and setting the pc. -/
theorem givesAt_modTh (s : State) (t : Nat) (rd : Reg) (w : Word) (pc : Nat) :
    givesAt t rd w pc s (s.modTh t (fun x => { x.result rd w with pc := pc })) := by
  refine ⟨onlyThread_modTh .., ⟨?_, ?_⟩, ?_, ?_⟩
  · rw [State.w, State.th_modTh_self]
    change ((s.th t).result rd w).reg rd.val = _
    rw [Thread.reg_result]
    by_cases h : rd = 0
    · subst h; rfl
    · rw [if_neg h, Thread.reg_setReg, if_pos ⟨rfl, fun h0 => h (Fin.ext h0)⟩]
  · intro q hq
    rw [State.w, State.th_modTh_self]
    change ((s.th t).result rd w).reg q.val = _
    rw [Thread.reg_result, Thread.reg_setReg, if_neg (fun h => hq (Fin.ext h.1))]
    rfl
  · rw [State.th_modTh_self, Thread.result_eq]
  · rw [State.th_modTh_self, Thread.result_eq] <;> rfl

/-- Writing a result and going on at the next instruction. -/
theorem gives_finish (s : State) (t : Nat) (rd : Reg) (w : Word) : gives t rd w s (s.finish t rd w) := by
  have e : s.finish t rd w = s.modTh t (fun x => { x.result rd w with pc := pcAfter (s.th t) }) := by
    have : ((s.th t).result rd w).next = { (s.th t).result rd w with pc := pcAfter (s.th t) } := by
      rw [Thread.result_eq]
      rfl
    simp only [State.finish, State.modTh, this]
  rw [e]
  exact givesAt_modTh ..

/-- Writing a link and jumping. -/
theorem givesAt_linkJump (s : State) (t : Nat) (rd : Reg) (a : Nat) :
    givesAt t rd (s.link t) (a % 2 ^ 40) s (s.linkJump t rd a) := givesAt_modTh ..

/-- Going on at the next instruction. -/
theorem movesTo_step1 (s : State) (t : Nat) : movesTo t (pcAfter (s.th t)) s (s.step1 t) :=
  ⟨onlyThread_modTh .., by rw [State.step1, State.th_modTh_self]; rfl⟩

/-- Jumping. -/
theorem movesTo_jump (s : State) (t a : Nat) : movesTo t (a % 2 ^ 40) s (s.jump t a) :=
  ⟨onlyThread_modTh .., by rw [State.jump, State.th_modTh_self]⟩

end Sys2Proof.Machine
end

