-- ==== Sys2Proof/Laws/Ring.lean ====
section
/-! SUPPORT. Laws of what the ring's frames and the supply's stop leave unchanged. -/

namespace Sys2Proof.Machine

/-- A MGMT frame that waits changes the ring's held frames and nothing else. -/
theorem State.ringHold_eq (s : State) (dst : Nat) (payload : List Byte) :
    s.ringHold dst payload = { s with ring := { s.ring with held := if s.rstate = 3 ∨ s.rstate = 4 then s.ring.held ++ [(dst, payload)]
      else s.ring.held } } := by
  unfold State.ringHold; split <;> simp [*, State.modRing]

/-- A SWEEP that has come changes the time of the last one and nothing else. -/
theorem State.heardSweep_eq (s : State) (good : Bool) :
    s.heardSweep good = { s with ring := { s.ring with heard := if good && decide (3 ≤ s.rstate) then s.nowNs else s.ring.heard } } := by
  unfold State.heardSweep
  split
  · simp only [State.modRing, *]
  · simp only [*]

/-- Losing the tasks in flight changes threads and tasks only, and leaves no task. -/
theorem State.tasksLost_eq (s : State) : s.tasksLost = { s with tasks := [], threads := s.tasksLost.threads } := by
  unfold State.tasksLost
  generalize s.threads.map (·.1) = l
  suffices h : ∀ (l : List Nat) (s : State), ∃ ts, l.foldl
      (fun s t => s.modTh t (fun x => { x with held := none, cancel := false })) s = { s with threads := ts } by
    obtain ⟨ts, e⟩ := h l { s with tasks := [] }
    rw [e]
  intro l
  induction l with
  | nil => exact fun s => ⟨s.threads, rfl⟩
  | cons t r ih => intro s; obtain ⟨ts, e⟩ := ih (s.modTh t (fun x => { x with held := none, cancel := false })); exact ⟨ts, e⟩

end Sys2Proof.Machine
end

