-- ==== Sys2Proof/Laws/RingLine.lean ====
section
/-! SUPPORT. The descrambler gives back what the scrambler took: a receiver whose last 58 line bits are those of the transmitter
reads its coded blocks. -/

namespace Sys2Proof.Machine

/-- What the scrambler adds to a bit, added again, gives the bit back. -/
@[simp] theorem scrambleBit_twice (st : BitVec 58) (b : Bool) : scrambleBit st (scrambleBit st b) = b := by
  simp [scrambleBit]

/-- Descrambling undoes scrambling, and both end in the same state. -/
@[simp] theorem descramble_scramble (st : BitVec 58) (l : List Bool) :
    descrambleBits st (scrambleBits st l).2 = ((scrambleBits st l).1, l) := by
  induction l generalizing st with
  | nil => rfl
  | cons b r ih => simp [scrambleBits, descrambleBits, ih]

/-- A receiver reads the blocks that a transmitter codes (spec/10 R339). -/
theorem fromLine_lineBlocks (st : BitVec 58) (bs : List CodedBlock) :
    fromLine st (lineBlocks st bs) = bs.map (fun b => (b.data, b.list)) := by
  induction bs generalizing st with
  | nil => rfl
  | cons b r ih => simp [lineBlocks, fromLine, ih]

end Sys2Proof.Machine
end

