-- ==== Sys2Proof/Machine/Pins.lean ====
section
/-! DEFINITION. The signal balls (spec/18 Table 18.3): what each shows in a main-domain reset, in standby, and in operation as far
as the state gives it. -/

namespace Sys2Proof.Machine

/-- The signal balls of Table 18.3: ring ports (0 East, 1 West) and uplinks by number, SDRAM channels by number. -/
inductive Signal where
  | ringTx (p : Nat) | ringRx (p : Nat)
  | uplTx (u : Nat) | uplRx (u : Nat) | uplTxDis (u : Nat) | uplRs (u : Nat) | uplModAbs (u : Nat) | uplLos (u : Nat) | uplTxFault (u : Nat)
  | clTx (n : Nat) | clRx (n : Nat)
  | sdDq (c : Nat) | sdCk (c : Nat) | sdCsN (c : Nat) | sdCke (c : Nat) | sdOdt (c : Nat) | sdAddr (c : Nat) | sdResetN (c : Nat)
  | sdZq (c : Nat)
  | bfClk | bfCsN | bfIo
  | hsClk | hsMosi | hsCsN | hsMiso
  | hostIrqN | uartTx | uartRx
  | pmbScl | pmbSda | pmbAlertN
  | avsClk | avsMdata | avsSdata
  | tck | trstN | tms | tdi | tdo
  | porstN | sysrstN | pfailN
  | wakeN | stbyOut | ref25In | xtal
  | sio (n : Nat) | gpio (n : Nat)
  | testEn | vcoreSense
  deriving DecidableEq, Repr

/-- What Table 18.3 says of a ball: a level driven, high impedance or a driver that is off, an open drain released, an input with
its pull, the ring's bypass closed, no power, no entry; `works`: its interface drives it. -/
inductive Drive where
  | high | low | hiZ | driverOff | released
  | input | inputUp | inputDown | tapped
  | bypassed | unpowered | failSafe | running | connected | none
  | works
  deriving DecidableEq, Repr

/-- A level as a ball drives it. -/
def driveOf (b : Bool) : Drive := if b then .high else .low

/-- A station I/O pin: its mode and its level stand in every reset and in standby (spec/14 Table 14.2). -/
def State.sioDrive (s : State) (n : Nat) : Drive :=
  if s.rd (F.SIO_CFG_MODE n) = 1 ∨ s.rd (F.SIO_CFG_MODE n) = 3 then driveOf (s.is (F.SIO_CFG_OUT n)) else .input

/-- The column "In reset" of Table 18.3; STBY_OUT keeps its level over the return of the rails (spec/18 R632). -/
def State.resetDrive (s : State) (x : Signal) : Drive :=
  match x with
  | .ringTx _ => .driverOff
  | .ringRx _ => .tapped
  | .uplTx _ | .uplRx _ => .driverOff
  | .uplTxDis _ | .uplRs _ => .high
  | .uplModAbs _ | .uplLos _ | .uplTxFault _ | .clRx _ => .input
  | .clTx _ | .sdDq _ => .hiZ
  | .sdCk _ => .low
  | .sdCsN _ => .high
  | .sdCke _ | .sdOdt _ | .sdResetN _ => .low
  | .sdAddr _ => .high
  | .sdZq _ | .testEn => .none
  | .bfClk => .low
  | .bfCsN | .bfIo => .inputUp
  | .hsClk | .hsMosi => .input
  | .hsCsN => .inputUp
  | .hsMiso | .tdo => .hiZ
  | .hostIrqN | .pmbScl | .pmbSda => .released
  | .uartTx => .high
  | .uartRx | .tms | .tdi => .inputUp
  | .tck | .trstN | .gpio _ => .inputDown
  | .avsClk => .low
  | .avsMdata => .high
  | .pmbAlertN | .avsSdata | .porstN | .sysrstN | .pfailN | .wakeN | .ref25In => .input
  | .stbyOut => driveOf s.standby.out
  | .xtal => .running
  | .sio n => s.sioDrive n
  | .vcoreSense => .connected

/-- The column "Standby, unpowered" of Table 18.3; STBY_OUT as Sequences 15.1 and 15.2 have it. -/
def State.standbyDrive (s : State) (x : Signal) : Drive :=
  match x with
  | .ringTx _ | .ringRx _ => .bypassed
  | .uplModAbs _ | .uplLos _ | .uplTxFault _ | .pmbScl | .pmbSda | .pmbAlertN => .failSafe
  | .clTx _ | .clRx _ => .hiZ
  | .sdZq _ | .testEn => .none
  | .wakeN => .input
  | .stbyOut => driveOf s.standby.out
  | .xtal => .running
  | .sio n => s.sioDrive n
  | .vcoreSense => .connected
  | _ => .unpowered

/-- The balls in operation: the levels that the state gives, else what the interface behind the ball does. -/
def State.workDrive (s : State) (x : Signal) : Drive :=
  match x with
  | .ringTx _ => if s.rstate < 2 then .driverOff else .works
  | .ringRx _ => if s.rstate < 2 then .tapped else .works
  | .uplTxDis u => driveOf (s.uplTxDis u)
  | .uplRs u => driveOf (s.uplRs u)
  | .hostIrqN => if s.hostIrq then .low else .released
  | .stbyOut => .low
  | .sio n => s.sioDrive n
  | .gpio n => if s.is (F.GPIO_CFG_DIR n) then driveOf (s.is (F.GPIO_CFG_OUT n)) else .input
  | .uplModAbs _ | .uplLos _ | .uplTxFault _ | .porstN | .sysrstN | .pfailN | .wakeN | .ref25In | .pmbAlertN | .avsSdata => .input
  | .hsClk | .hsMosi | .hsCsN | .uartRx | .tck | .trstN | .tms | .tdi | .clRx _ | .uplRx _ => .input
  | .sdZq _ | .testEn => .none
  | .xtal => .running
  | .vcoreSense => .connected
  | _ => .works

/-- What a signal ball shows (spec/18 R631): "In reset" from the moment VIO18 and VIO33 are in range until the end of every reset of
the main domains, which on the way out of standby is before PORST_n rises (spec/15 Sequence 15.2), "Standby" while only VBAT is
there. The TAP's balls and the SFP+ inputs work in reset. (log entry 239, DEDUCED). -/
def State.drive (s : State) (x : Signal) : Drive :=
  match s.phase with
  | .standby | .held => if s.supply.vio18 && s.supply.vio33 then s.resetDrive x else s.standbyDrive x
  | _ => s.workDrive x

end Sys2Proof.Machine
end

