-- ==== Sys2Proof/Tests/Slice0.lean ====
section
/-! SUPPORT. Tests: small states, the refusal of ill-formed commands, words and worked examples of the specification, and for
each statement a state and operands that meet the hypotheses of its clauses. Each expected value is the specification's, or
computed from its rule by hand; the source stands in the docstring. -/

set_option Elab.async false

namespace Sys2Proof.Tests

open Sys2Proof.Machine Sys2Proof.Safety

/-! ### Small states -/

/-- The machine released, booted and running firmware, everything else at its reset value. -/
def up : State := { State.reset with phase := .up, vcoreOn := true }

/-- Worker thread 0 runs at its tile's entry. -/
def run : State := up.startThread 0

/-- Set registers of a thread. -/
def withRegs (s : State) (t : Nat) (l : List (Nat × Word)) : State := l.foldl (fun s p => s.setW t p.1 p.2) s

/-- A word with tag DATA. -/
def dat (n : Nat) : Word := Word.data (BitVec.ofNat 64 n)

/-- A POISON word. -/
def bad : Word := ⟨0xC5, 0x1234⟩

/-- The state in which the body of an instruction of a thread runs. -/
def at_ (s : State) (t : Nat) : State := (s.fetch t).1.modTh t (fun x => { x with lastPc := x.pc })

/-- A RUNNING thread whose fetch meets no fault runs. -/
theorem runs_at {s : State} {t : Nat} (h : ((s.th t).life == .running && (s.fetch t).2.isNone) = true) :
    runs s t (at_ s t) := by
  simp only [Bool.and_eq_true, beq_iff_eq, Option.isNone_iff_eq_none] at h
  exact ⟨h.1, _, Prod.ext rfl h.2, rfl⟩

/-! ### Ill-formed commands are refused -/

/-- THERMAL_SAMPLE without fourteen readings (spec/15 Table 15.1). -/
theorem test_thermal_ill_formed : (Instr.thermalSample [0x1F4]).wellFormed = false := by decide +kernel

/-- RESERVED_OPCODE with the word of GETWORK (spec/04 Example 4.1). -/
theorem test_reserved_ill_formed : (Instr.reservedOpcode 0 0b110001_00000_00000_00000_00000000001).wellFormed = false := by
  decide

/-- RESERVED_OPCODE with opcode 0x3F, which spec/04 assigns to no instruction. -/
theorem test_reserved_well_formed : (Instr.reservedOpcode 0 0xFC000000).wellFormed = true := by decide +kernel

/-- An ill-formed command faults. -/
theorem test_ill_formed_faults : exec (.thermalSample []) up = .fault .illFormed := by rfl

/-! ### Instruction words, written out from spec/04 Tables 4.1 to 4.10 -/

/-- Table 4.3, format R: opcode, rd, rs1, rs2, fn. -/
theorem test_word_integer :
    decodeIsa 5 0b000000_00011_00001_00010_00000000000 = some (.add 5 3 1 2) ∧
    decodeIsa 5 0b000000_11111_00001_00010_00000001101 = some (.div 5 31 1 2) ∧
    decodeIsa 5 0b000000_00100_00111_00000_00000100000 = some (.mov 5 4 7) ∧
    decodeIsa 5 0b000000_00100_00111_00001_00000100000 = none ∧
    decodeIsa 5 0b000000_00011_00001_00010_00000010101 = none := by decide +kernel

/-- Table 4.2, formats I and K: the shift kinds of SHI, pos and len − 1 of EXT and INS, KEEP and h of MOVZ and MOVK. -/
theorem test_word_immediate :
    decodeIsa 0 0b000101_00001_00010_1111111111111111 = some (.slti 0 1 2 0xFFFF) ∧
    decodeIsa 0 0b000111_00001_00010_0000000011_000101 = some (.shiRor 0 1 2 5) ∧
    decodeIsa 0 0b001000_00001_00010_0000_000111_000011 = some (.ext 0 1 2 3 7) ∧
    decodeIsa 0 0b001001_00001_00010_0000_000111_000011 = some (.ins 0 1 2 3 7) ∧
    decodeIsa 0 0b001010_00001_00010_0001001000110100 = some (.movz 0 1 2 0x1234) ∧
    decodeIsa 0 0b001010_00001_00110_0001001000110100 = some (.movk 0 1 2 0x1234) ∧
    decodeIsa 0 0b001010_00001_01110_0001001000110100 = none := by decide +kernel

/-- Tables 4.4 and 4.5, formats I, S, B and J. -/
theorem test_word_memory_control :
    decodeIsa 0 0b010000_00001_00010_1000000000000000 = some (.lb 0 1 2 0x8000) ∧
    decodeIsa 0 0b011011_00001_00010_0000000000001000 = some (.sd 0 1 2 8) ∧
    decodeIsa 0 0b100010_00001_00010_1111111111111110 = some (.blt 0 1 2 0xFFFE) ∧
    decodeIsa 0 0b100110_00001_10011_0000000000000001 = some (.btag 0 1 3 true 1) ∧
    decodeIsa 0 0b100110_00001_00111_0000000000000001 = none ∧
    decodeIsa 0 0b101000_00000_100000000000000000001 = some (.j 0 0x100001) ∧
    decodeIsa 0 0b101000_00001_000000000000000000001 = none ∧
    decodeIsa 0 0b101001_00001_000000000000000000001 = some (.jal 0 1 1) ∧
    decodeIsa 0 0b101010_00001_00010_0000000000000100 = some (.jalr 0 1 2 4) := by decide +kernel

/-- Tables 4.6, 4.7, 4.9 and 4.10. -/
theorem test_word_groups :
    decodeIsa 7 0b110000_00001_00010_00000_00000000001 = some (.alloc 7 1 2) ∧
    decodeIsa 7 0b110001_00000_00010_00011_00000000101 = some (.xmit 7 2 3) ∧
    decodeIsa 7 0b110001_00001_00000_00000_00000000111 = some (.chkcancel 7 1) ∧
    decodeIsa 7 0b110010_00001_00010_00000_00000000001 = some (.hjob 7 1 2) ∧
    decodeIsa 7 0b110011_00000_00000_00101_00000000100 = some (.trap 7 5) ∧
    decodeIsa 7 0b110011_00000_00010_00000_00000000110 = some (.cinv 7 2) ∧
    decodeIsa 7 0b110011_00001_00000_00100_00000000111 = some (.mfsr 7 1 4) ∧
    decodeIsa 7 0b111000_00000_00000_00000_00000000001 = some (.swapset 7) ∧
    decodeIsa 7 0b111000_00000_00010_00100_00000000011 = some (.mtsr 7 2 4) ∧
    decodeIsa 7 0b111001_00001_00010_0000000001000001 = some (.tagset 7 1 2 0x41) ∧
    decodeIsa 7 0b111001_00001_00010_0000000101000001 = none := by decide +kernel

/-- No row of the table gives bits, so no table word spells a command. -/
theorem test_table_word (n w : Nat) : decodeTableWord n w = none := by rfl

/-! ### Worked examples of the specification -/

/-- A thread's registers after a command. -/
def after (c : Instr) (s : State) : State := match exec c s with | .next t => t | _ => s

/-- Thread 0 with operands: w1 = −2, w2 = 3, w4 the most negative value, w5 POISON. -/
def alu : State := withRegs run 0 [(1, dat (2 ^ 64 - 2)), (2, dat 3), (4, dat (2 ^ 63)), (5, bad)]

/-- spec/04 Table 4.3: modulo 2^64; signed and unsigned high halves and shifts; an operand that is also the destination. -/
theorem test_add_sub : (after (.add 0 2 1 2) alu).w 0 2 = dat 1 ∧ (after (.sub 0 3 2 1) alu).w 0 3 = dat 5 := by decide +kernel
theorem test_mulh : (after (.mulh 0 3 1 2) alu).w 0 3 = dat (2 ^ 64 - 1) ∧ (after (.mulhu 0 3 1 2) alu).w 0 3 = dat 2 := by
  decide
theorem test_sra_srl : (after (.sra 0 3 1 2) alu).w 0 3 = dat (2 ^ 64 - 1) ∧
    (after (.srl 0 3 1 2) alu).w 0 3 = dat (2 ^ 61 - 1) := by decide +kernel

/-- spec/04 R129: the most negative value by −1. -/
theorem test_div_overflow :
    (after (.div 0 3 4 2) (withRegs alu 0 [(2, dat (2 ^ 64 - 1))])).w 0 3 = dat (2 ^ 63) ∧
    (after (.rem 0 3 4 2) (withRegs alu 0 [(2, dat (2 ^ 64 - 1))])).w 0 3 = dat 0 := by decide +kernel

/-- spec/04 Table 4.3: rounded towards zero, remainder with the sign of rs1; spec/05 code 0x11 for a divisor of 0. -/
theorem test_div_signs : (after (.div 0 3 1 2) alu).w 0 3 = dat 0 ∧ (after (.rem 0 3 1 2) alu).w 0 3 = dat (2 ^ 64 - 2) ∧
    ((after (.div 0 3 1 0) alu).th 0).fault.map FaultInfo.code = some 0x11 := by decide +kernel

/-- spec/04 R126: the POISON operand stops the thread with its value, and rd keeps its word. -/
theorem test_poison_operand : ((after (.add 0 2 2 5) alu).th 0).fault.map FaultInfo.info = some 0x1234 ∧
    (after (.add 0 2 2 5) alu).w 0 2 = dat 3 := by decide +kernel

/-- spec/04 R130: INS replaces bits 11 to 4 with rs1[7:0]; an EXT of the same field gives them back. -/
theorem test_ins_ext : (after (.ins 0 2 1 4 7) alu).w 0 2 = dat 0xFE3 ∧ (after (.ext 0 3 1 4 7) alu).w 0 3 = dat 0xFF := by
  decide

/-- spec/04 R130, Example 4.1 step 4: MOVZ h3 then MOVK h2. -/
theorem test_movk :
    (after (.movk 0 12 2 0x0040) (withRegs run 0 [(12, dat 0x2010000000000000)])).w 0 12 = dat 0x2010004000000000 := by decide +kernel

/-- spec/04 Example 4.1 step 3: HADD keeps the tag. -/
theorem test_hadd : (after (.hadd 0 9 1 8) (withRegs run 0 [(1, ⟨0x4C, 0x20501A3C00000000⟩), (8, dat 0x50)])).w 0 9 =
    ⟨0x4C, 0x20501A3C00000050⟩ := by decide +kernel

/-- spec/04 Tables 4.5: a taken branch of −2 words, the link of JAL with tag CODE, JALR off a word. -/
theorem test_control : ((after (.blt 0 1 2 0xFFFE) alu).th 0).pc = 0xFFFFFF8 ∧
    (after (.jal 0 31 1) alu).w 0 31 = ⟨0x80, 0x10000004⟩ ∧
    ((after (.jalr 0 31 2 0) (withRegs alu 0 [(2, ⟨0x80, 0x10000006⟩)])).th 0).fault.map FaultInfo.code = some 0x03 := by decide +kernel

/-- Pool 2 of Cell 12 (spec/06 Example 6.1): 512-byte buffers at 0x40_0000, metadata at 0xF0_0000; buffer 0x1A3C belongs to
account 12 with generation `gen`; thread 41 runs under account 12. -/
def cell12 (gen : Nat) : State :=
  ((({ up with pools := [(2, ⟨some ⟨512, 0x400000, 8192, 0xF00000⟩, none, 0, false⟩)] }.wr (F.POOL_STATUS_READY 2) 1).setWord
    0xF0D1E0 (mkMeta gen 12 0b10000 0)).startThread 41).modTh 41 (fun x => { x with acct := 12, regs := [(1, ⟨0x4C, 0x20501A3C00000000⟩)] })

/-- spec/02 Example 2.1 steps 1 and 3: LD w6, 64(w1) reaches frame byte 0 at 0x74_7840, RELAXED as POOL_CFG.ORDER
resets. -/
theorem test_handle_address : (cell12 5).checkAccess 41 ((cell12 5).w 41 1) 64 8 none = .ok 0x747840 0 1 := by decide +kernel

/-- spec/06 Example 6.1 step 7: FREE under an old generation raises HANDLE_STALE with the handle. -/
theorem test_handle_stale : ((after (.free 41 1) (cell12 6)).th 41).fault.map (fun f => (f.code, f.info)) =
    some (0x09, 0x20501A3C00000000) := by decide +kernel

/-- spec/05 Example 5.1 step 4: the record of a posted failure in thread 41. -/
theorem test_fault_record :
    ({ up.modTh 41 (fun x => { x with
        acct := 12, pc := 0x10108048, held := some 0x3A17, group := 2, epoch := 5, selB := true
        perr := some ⟨0x1A00000100, 1, 0, 2⟩ }) with
      tasks := [(0x3A17, ⟨0, 0, some 107, 5, 2, 1, [], 12, false, 0, 5, none, .waiting, []⟩)] }).recordWords 41
      ⟨0x0D, 0x1A00000100, 0x10108048, 23, false, some .done, false⟩ =
    [0x0D290C0010108048, 0x0000001A00000100, 0x00000053206B3A17, 0x0000000170000201] := by decide +kernel

/-- spec/08 Example 8.1 steps 2 to 6: with OLDEST 40, the new rules are not live for version 43 and the ended ones are; for
version 44 the reverse. -/
theorem test_rule_live : live 40 0x00002C01 43 = false ∧ live 40 0x012C0001 43 = true ∧ live 40 0x00002C01 44 = true ∧
    live 40 0x012C0001 44 = false := by decide +kernel

/-- Cell 12 in RUN with a request at the head of the dictionary's queue (spec/12 Example 12.1). -/
def asked (bytes : List Byte) : State :=
  { up.wr F.DICT_STATE_STATE 2 |>.wr F.SYS_LC_STATE 2 with dict := { Dict.init with inbox := [⟨3, 0, false, bytes, none⟩] } }

/-- spec/12 Example 12.1 steps 1 and 2: READ of entry 0110.01 answers type U8, one byte of one, state RUN. -/
theorem test_read_state :
    (after .read (asked ([1, 1, 0, 0, 0, 0, 0, 0, 0, 0, 0, 0x31, 0, 8, 0, 0] ++ [1, 0x10, 1, 0, 0, 0, 0, 0]))).dict.pending =
      [[1, 0x81, 0, 0, 0, 0, 0, 0, 0, 0, 0, 0x31, 0, 9, 0, 0] ++ [2, 0, 0, 1, 0, 0, 0, 1, 2]] := by decide +kernel

/-- spec/13 Example 13.1 steps 1 and 2: DESCRIBE of entry 0800.06. -/
theorem test_describe :
    (after .describe (asked ([1, 4, 0, 0, 0, 0, 0, 0, 0, 0, 0, 0x40, 0, 4, 0, 0] ++ [8, 0, 6, 0]))).dict.pending =
      [[1, 0x84, 0, 0, 0, 0, 0, 0, 0, 0, 0, 0x40, 0, 0x28, 0, 0] ++ [3, 0xB4, 2, 0, 0, 2, 0, 0] ++
        [0, 0, 0, 0, 0, 0, 3, 0xE8] ++ [0, 0, 0, 0, 0, 0, 0, 0xFA] ++ [0, 0, 0, 0, 0, 0, 0x27, 0x10] ++
        [0x40, 0x20, 0, 0x10, 0, 0x0E, 0, 0]] := by decide +kernel

/-- spec/14 Example 14.2: channel 5 after its previous pulse and the fall of SIO_5, TMR_EPOCH 8 since 81,260,000,000 ns, SEQ 811,
the reference good. -/
def tach : State :=
  ({ up with acc := 81275010160 * tUnit, timeBase := ⟨none, 0, [(81260000000, 7)], 0⟩ } |>.wr F.TMR_REF_REF25_OK 1
    |>.wr (F.CAP_CTL_EN 5) 1 |>.wr (F.CAP_CTL_INVERT 5) 1 |>.wr (F.CAP_CTL_FILT 5) 250
    |>.wr F.TMR_EPOCH_EPOCH 8 |>.wr (F.CAP_SEQ_SEQ 5) 811 |>.setReg (A.CAP_ROUTE 5) 1).setChan 5
    ⟨some (81250000120, 7), some 81150000120, 81250000120, 81250000120, 7, true⟩

/-- spec/14 Example 14.2 steps 4 and 5: SEQ, WIDTH, PERIOD, and the words w1, w3, w4 of the task. -/
theorem test_capture : let s := after (.captureEdge 5 true 81275000160) tach
    s.rd (F.CAP_SEQ_SEQ 5) = 812 ∧ s.rd (F.CAP_WIDTH_NS 5) = 25000040 ∧ s.rd (F.CAP_PERIOD_NS 5) = 100000000 ∧
    s.events.map (fun e => (e.w1, e.w3, e.w4)) = [(0x00000012EAE09CF8, 0x05F5E100017D7868, 0x050708000000032C)] := by
  decide +kernel

/-- A level that has not held for the filter time shows at the ball (Table 14.3) and is no edge yet. -/
theorem test_capture_filter : let s := after (.captureEdge 5 true 81275000201) tach
    s.rd (F.CAP_SEQ_SEQ 5) = 811 ∧ (s.chan 5).rise = (tach.chan 5).rise ∧ tget (fun _ => false) s.sioIn 5 = true := by decide +kernel

/-- spec/15 Example 15.1 step 2: V_SAFE 605 above ENV_MAX 600 requests 605 mV and sets CONFLICT_NOW. -/
def conflict : State :=
  up |>.wr F.TMR_REF_REF25_OK 1 |>.wr F.TMR_REF_STOPPED 0 |>.wr F.PWR_LOOP_CTL_MODE 1 |>.wr F.PWR_ENV_MAX_MV 600 |>.wr F.PWR_VSAFE_MV 605 |>.wr F.PWR_VCORE_MV 605
theorem test_envelope_conflict : let s := after (.loopDecision 585) conflict
    s.rd F.PWR_VCORE_MV = 605 ∧ s.is F.PWR_LOOP_STAT_CONFLICT_NOW = true ∧ s.out = [Output.vcore 605] ∧
    s.recorder.offered = [⟨1, 1, 605⟩] := by decide +kernel

/-- FIPS 180-4: the digest of "abc". -/
theorem test_sha256 : (sha256 [0x61, 0x62, 0x63]).map BitVec.toNat =
    [0xba, 0x78, 0x16, 0xbf, 0x8f, 0x01, 0xcf, 0xea, 0x41, 0x41, 0x40, 0xde, 0x5d, 0xae, 0x22, 0x23,
     0xb0, 0x03, 0x61, 0xa3, 0x96, 0x17, 0x7a, 0x9c, 0xb4, 0x10, 0xff, 0x61, 0xf2, 0x00, 0x15, 0xad] := by decide +kernel

/-- RFC 4231, test case 2: HMAC-SHA-256 under the key "Jefe" of "what do ya want for nothing?", its first four bytes. -/
theorem test_hmac : ((hmac [0x4a, 0x65, 0x66, 0x65]
    [0x77, 0x68, 0x61, 0x74, 0x20, 0x64, 0x6f, 0x20, 0x79, 0x61, 0x20, 0x77, 0x61, 0x6e, 0x74, 0x20, 0x66, 0x6f, 0x72, 0x20,
     0x6e, 0x6f, 0x74, 0x68, 0x69, 0x6e, 0x67, 0x3f]).take 4).map BitVec.toNat = [0x5b, 0xdc, 0xc1, 0x46] := by decide +kernel

/-! ### Witnesses: for each statement a state and operands that meet the hypotheses of its clauses -/

theorem issues_at {s : State} {t : Nat} (p : Pipe) (rs : List Reg)
    (h : ((s.th t).life == .running && (s.fetch t).2.isNone) = true) : issues s t p rs (at_ s t) := runs_issues (runs_at h) p rs
theorem unpoisoned_of {s : State} {t : Nat} {rs : List Reg} (h : (rs.all fun r => decide ((s.w t r.val).kind ≠ .poison)) = true) :
    unpoisoned s t rs := by simpa [unpoisoned] using h

/-- A Puppeteer core that runs. -/
def pup : State := up.modTh 192 (fun x => { x with life := .running, pc := 0x110100000 })
/-- A region of protection over all addresses. -/
def region (x w : Bool) (base limit : Nat) : Region := ⟨true, base, limit, true, w, x, 0, 0, false⟩
/-- Thread 0 under a set of its own. -/
def under (rs : List Region) : State := run.modTh 0 (fun x => { x with setA := ⟨0, 0, rs⟩ })

theorem witness_StepRunsFrontCommand : State.reset.pending = [] := rfl
theorem witness_WellFormedCommandsGoOn :
    (Instr.done 3).wellFormed = true ∧ (Instr.thermalSample []).wellFormed = false := by decide +kernel
theorem witness_StepKeepsCanonicalForm : canonical State.reset ∧ step State.reset = .next State.reset :=
  ⟨by refine ⟨?_, ?_, ?_, ?_⟩ <;> decide +kernel, rfl⟩
theorem witness_FusesOnlyRise :
    let s := { State.reset with boot := { Boot.init with otp := [(0x20, 0x80000001)] } }
    step s = .next s ∧ (s.otpWord 0x20).toNat.testBit 31 = true := ⟨rfl, by decide +kernel⟩
theorem witness_DecodeOfEncode : issuerOf (.add 191 31 1 2) = some 191 ∧ encodeIsa (.add 191 31 1 2) = some 0x03E11000 ∧
    (∀ u v, Instr.add 191 31 1 2 ≠ .reservedOpcode u v) ∧
    ∀ a b c, Instr.add 191 31 1 2 ≠ .fresolveRestart 191 a b c ∧ Instr.add 191 31 1 2 ≠ .fresolveAbort 191 a b c :=
  ⟨rfl, by decide +kernel, by simp, by simp⟩
theorem witness_EncodeOfDecode : decodeIsa 0 0x03E11000 = some (.add 0 31 1 2) := by decide +kernel

theorem witness_FetchComesFirst : issuerOf (.add 5 1 2 3) = some 5 ∧ (Instr.add 5 1 2 3).wellFormed = true ∧
    (up.th 5).life = .offline ∧ ((under []).th 0).life = .running ∧ ((under []).fetch 0).2 = some (0x06, 0x10000000) := by decide +kernel
theorem witness_FetchChecks :
    deciding ((under []).th 0).set.regions ((under []).priv 0) 0x10000000 = none ∧
    deciding ((under [region false true 0 0x20000000]).th 0).set.regions false 0x10000000 =
      some (region false true 0 0x20000000) ∧
    inWindow 0xF000000000 = true ∧
    (let s := under [region true true 0 0x20000000]
     deciding (s.th 0).set.regions (s.priv 0) (s.th 0).pc = some (region true true 0 0x20000000) ∧
     s.locate 0 (s.th 0).pc = .cell (.tile 0) 0x10000000 ∧ inWindow (s.th 0).pc = false ∧
     s.icacheHit 0 0x10000000 = false ∧ tget eccDefault s.bad (wordKey 0x10000000) = .good ∧
     tget eccDefault { s with bad := [(0x10000000, .uncorrectable)] }.bad 0x10000000 = .uncorrectable) := by decide +kernel
/-- A core that keeps a word serves the next fetch of it, where the free `icacheKeeps` says so. -/
theorem witness_FetchChecks_cached (h : Config.icacheKeeps 0 0x10000000 0 = true) :
    (under [region true true 0 0x20000000] |>.icacheFill 0 0x10000000 Word.zero).icacheHit 0 0x10000000 = true := by
  have e : ((under [region true true 0 0x20000000] |>.icacheFill 0 0x10000000 Word.zero).acc = 0) := by decide +kernel
  have o : (oget ((under [region true true 0 0x20000000] |>.icacheFill 0 0x10000000 Word.zero).icacheOf (coreOf 0))
    0x10000000).isSome = true := by decide +kernel
  rw [State.icacheHit, o, e]; exact h
theorem witness_FaultStopsThread : (5 : Nat) < 192 ∧ up.recorder.frozen = false ∧ up.recorder.offered.length < 64 := by decide +kernel

theorem alu_runs : runs alu 0 (at_ alu 0) := runs_at (by decide +kernel)
theorem witness_ArithmeticResults : issues alu 0 .a [1, 2] (at_ alu 0) ∧ unpoisoned (at_ alu 0) 0 [1, 2] :=
  ⟨runs_issues alu_runs _ _, unpoisoned_of (by decide +kernel)⟩
theorem witness_DivisionResults : issues alu 0 .a [4, 2] (at_ alu 0) ∧ unpoisoned (at_ alu 0) 0 [4, 2] ∧
    ((at_ alu 0).w 0 2).val ≠ 0 ∧ ((at_ alu 0).w 0 0).val = 0 ∧ (alu.th 0).life = .running ∧
    ((at_ (withRegs alu 0 [(2, dat (2 ^ 64 - 1))]) 0).w 0 2).val = -1 ∧ ((at_ alu 0).w 0 4).val = BitVec.ofNat 64 (2 ^ 63) :=
  ⟨runs_issues alu_runs _ _, unpoisoned_of (by decide +kernel), by decide +kernel⟩
theorem witness_ImmediateResults : issues alu 0 .a [4] (at_ alu 0) ∧ unpoisoned (at_ alu 0) 0 [4] :=
  ⟨runs_issues alu_runs _ _, unpoisoned_of (by decide +kernel)⟩
/-- Fields that end at bit 63 and beyond it; a tag that may be made and two that may not; a privileged thread and one not. -/
theorem witness_CopyAndFieldResults : issues pup 192 .a [1, 2] (at_ pup 192) ∧ unpoisoned (at_ pup 192) 192 [1, 2] ∧
    runs alu 0 (at_ alu 0) ∧ (60 : BitVec 6).toNat + (3 : BitVec 6).toNat ≤ 63 ∧ 64 ≤ (60 : BitVec 6).toNat + (4 : BitVec 6).toNat ∧
    (at_ pup 192).priv 192 = true ∧ (at_ alu 0).priv 0 = false ∧ Tag.reserved 0x41 = false ∧ Tag.kind 0xFE = .poison ∧
    Tag.low6 0xFE = 0x3E ∧ Tag.kind 0xFF = .poison ∧ Tag.low6 0xFF = 0x3F ∧ Tag.reserved 0x01 = true :=
  ⟨issues_at _ _ (by decide +kernel), unpoisoned_of (by decide +kernel), alu_runs, by decide +kernel⟩
/-- A JALR through CODE, through DATA of a privileged thread, off a word, and through DATA of a thread that is not. -/
theorem witness_BranchesAndJumps : issues alu 0 .a [1, 2] (at_ alu 0) ∧ unpoisoned (at_ alu 0) 0 [1, 2] ∧
    issues pup 192 .a [0] (at_ pup 192) ∧ ((at_ pup 192).w 192 0).kind = .data ∧ (at_ pup 192).priv 192 = true ∧
    (let s := withRegs alu 0 [(1, ⟨0x80, 0x10000004⟩)]
     runs s 0 (at_ s 0) ∧ ((at_ s 0).w 0 1).kind = .code ∧ ((0x10000004 : Val) + BitVec.ofInt 64 (2 : BitVec 16).toInt).toNat % 4 ≠ 0 ∧
     ((0x10000004 : Val) + BitVec.ofInt 64 (4 : BitVec 16).toInt).toNat % 4 = 0) ∧
    ((at_ alu 0).w 0 2).kind = .data ∧ (at_ alu 0).priv 0 = false :=
  ⟨runs_issues alu_runs _ _, unpoisoned_of (by decide +kernel), issues_at _ _ (by decide +kernel), by decide +kernel, by decide +kernel,
    ⟨runs_at (by decide +kernel), by decide +kernel⟩, by decide +kernel⟩
theorem witness_PoisonOperandFaults : runs alu 0 (at_ alu 0) ∧ ((at_ alu 0).w 0 5).kind = .poison ∧
    ((at_ alu 0).w 0 2).kind ≠ .poison := ⟨alu_runs, by decide +kernel⟩

/-- Thread 0 under one region of given cacheability and ordering, w1 = 0x80, w2 a HANDLE, w3 POISON, w4 = −8, w5 in the M-bus
window. -/
def acc_ (cache order : Nat) : State := withRegs (run.modTh 0 (fun x => { x with
  setA := ⟨0, 0, [⟨true, 0, 2 ^ 34 - 1, true, true, true, cache, order, false⟩]⟩ })) 0
  [(1, dat 0x80), (2, ⟨0x41, 5⟩), (3, bad), (4, dat (2 ^ 64 - 8)), (5, dat (mbusWindow + A.TILE_ENTRY_LO 0))]
theorem acc_runs : runs (acc_ 0 1) 0 (at_ (acc_ 0 1) 0) := runs_at (by decide +kernel)

/-- A base that is no HANDLE has no metadata word. -/
theorem touch_raw {s : State} {b : Word} (h : b.kind ≠ .handle) (imm : BitVec 16) (n : Nat) (src : Option Word) :
    s.touchBase b imm n src = s := by simp [State.touchBase, h]
theorem witness_Loads_issue : (at_ (acc_ 0 1) 0).touchBase (dat 0x80) 8 8 none = at_ (acc_ 0 1) 0 ∧ runs (acc_ 0 1) 0 (at_ (acc_ 0 1) 0) ∧
    (at_ (acc_ 0 1) 0).checkAccess 0 (dat 0x80) 8 8 none = .ok 0x88 0 1 ∧
    (at_ (acc_ 0 0) 0).checkAccess 0 (dat 0x80) 1 1 none = .ok 0x81 0 0 ∧
    (at_ (acc_ 0 1) 0).checkAccess 0 (dat 0x80) 2 4 none = .flt 0x03 0x82 :=
  ⟨touch_raw (by decide) _ _ _, acc_runs, by decide +kernel⟩
/-- Raw addresses: POISON base; a POISON or HANDLE source; misaligned; 8 bytes in the window; no region, one that forbids and
one that allows; a Puppeteer core. Handles of Cell 12: stale, offsets −1, 508 and 4 with 8 bytes, and 504. -/
theorem witness_AccessChecks : bad.kind = .poison ∧ (dat 1).kind = .data ∧ (⟨0x41, 5⟩ : Word).kind = .handle ∧
    (let a := (dat 0x80).val + BitVec.ofInt 64 (1 : BitVec 16).toInt
     a.toNat % 8 ≠ 0 ∧ inWindow (mbusWindow + A.TILE_ENTRY_LO 0) = true ∧ A.TILE_ENTRY_LO 0 % 4 = 0) ∧
    deciding ((under []).th 0).set.regions false 0x80 = none ∧
    deciding ((under [region true false 0 0x20000000]).th 0).set.regions false 0x80 = some (region true false 0 0x20000000) ∧
    deciding ((under [region true true 0 0x20000000]).th 0).set.regions false 0x80 = some (region true true 0 0x20000000) ∧
    up.locate 192 0x110100000 = .cell (.tile 1) 0x10100000 ∧
    (let h : Word := ⟨0x4C, 0x20501A3C00000000⟩
     ((cell12 5).pool 2).built = some ⟨512, 0x400000, 8192, 0xF00000⟩ ∧ tget eccDefault (cell12 5).bad 0xF0D1E0 = .good ∧
     (cell12 6).handleCheck h .access 12 false = some 0x09 ∧ (cell12 5).handleCheck h .access 12 false = none ∧
     ((cell12 5).hLayout h).size = 512 ∧ (hOffset h.val : Int) + (-1 : BitVec 16).toInt < 0 ∧
     512 < (hOffset h.val : Int) + (508 : BitVec 16).toInt + 8 ∧
     (((cell12 5).hLayout h).base + hIndex h.val * 512 + 4) % 8 ≠ 0 ∧
     ((cell12 5).hLayout h).base + hIndex h.val * 512 + 504 = 0x7479F8 ∧ 0x7479F8 % 8 = 0 ∧ farAddr 0x7479F8 = true ∧
     (cell12 5).rd (F.POOL_CFG_CACHE 2) ≠ 3 ∧ (cell12 5).rd (F.POOL_CFG_ORDER 2) ≠ 3) := by decide +kernel

/-- Thread 0 waits for a load of n bytes at a. -/
def loading (n a : Nat) (signed : Bool) : State := (run.setWord 0x80 (dat 0xFFEEDDCCBBAA9988)).setWord 0x88 bad |>.modTh 0 (fun x => { x with
  life := .blocked, wait := some (.load ⟨3, n, signed, a, 0, false, false, x.regs, x.pc⟩) })
theorem witness_Loads_results :
    (∀ n ∈ [1, 2, 4, 8], let s := loading n 0x80 true
      (s.th 0).life = .blocked ∧ s.loadWaits 0 ⟨3, n, true, 0x80, 0, false, false, (run.th 0).regs, (run.th 0).pc⟩ = false ∧
      s.locate 0 0x80 = .cell .ingot 0x80 ∧ MemId.ingot.dark s.vcoreOn = false ∧ tget eccDefault s.bad 0x80 = .good ∧
      (s.word 0x80).readAs.kind ≠ .poison) ∧
    ((loading 4 0x8C false).word 0x88).readAs.kind = .poison ∧
    run.locate 0 (mbusWindow + A.TILE_ENTRY_LO 0) = .mbus (A.TILE_ENTRY_LO 0) ∧ run.locate 0 0x700000000 = .fail 1 := by decide +kernel
/-- A word and the last byte of one, a RELAXED order, nothing outstanding. -/
theorem witness_StoresPerform : (at_ (acc_ 0 1) 0).touchBase (dat 0x80) 0 8 (some ⟨0x41, 5⟩) = at_ (acc_ 0 1) 0 ∧
    (at_ (acc_ 0 1) 0).touchBase (dat 0x80) 7 1 (some (dat 0x80)) = at_ (acc_ 0 1) 0 ∧ runs (acc_ 0 1) 0 (at_ (acc_ 0 1) 0) ∧ ((at_ (acc_ 0 1) 0).th 0).posted = [] ∧
    ((at_ (acc_ 0 1) 0).th 0).limbo = [] ∧ (at_ (acc_ 0 1) 0).checkAccess 0 (dat 0x80) 0 8 (some ⟨0x41, 5⟩) = .ok 0x80 0 1 ∧
    (at_ (acc_ 0 1) 0).checkAccess 0 (dat 0x80) 7 1 (some (dat 0x80)) = .ok 0x87 0 1 ∧
    (at_ (acc_ 0 1) 0).locate 0 0x87 = .cell .ingot 0x87 ∧ MemId.ingot.dark true = false ∧ 0x87 % 8 + 1 ≤ 8 ∧
    tget eccDefault (acc_ 0 1).bad 0x80 = .good ∧ ((acc_ 0 1).word 0x80).readAs.kind ≠ .poison :=
  ⟨touch_raw (by decide) _ _ _, touch_raw (by decide) _ _ _, acc_runs, by decide +kernel⟩
theorem witness_StoresToRegistersAndFaults :
    (∀ a imm n src, (at_ (acc_ 0 0) 0).touchBase (dat a) imm n src = at_ (acc_ 0 0) 0) ∧ runs (acc_ 0 0) 0 (at_ (acc_ 0 0) 0) ∧
    (at_ (acc_ 0 0) 0).checkAccess 0 (dat 0x80) 1 4 (some (dat 1)) = .flt 0x03 0x81 ∧
    (at_ (acc_ 0 0) 0).checkAccess 0 (dat (mbusWindow + A.TILE_ENTRY_LO 0)) 0 4 (some (dat 1)) =
      .ok (mbusWindow + A.TILE_ENTRY_LO 0) 0 0 ∧
    run.locate 0 (mbusWindow + A.TILE_ENTRY_LO 0) = .mbus (A.TILE_ENTRY_LO 0) ∧
    (at_ (acc_ 0 0) 0).checkAccess 0 (dat 0x700000000) 0 8 (some (dat 1)) = .ok 0x700000000 0 0 ∧
    run.locate 0 0x700000000 = .fail 1 :=
  ⟨fun _ => touch_raw (by simp [dat, Word.data, Word.kind, Tag.kind]), runs_at (by decide +kernel), by decide +kernel⟩
/-- The first and the sixteenth outstanding write; one performed and one with an error status. -/
theorem witness_PostedWrites : (at_ (acc_ 0 2) 0).touchBase (dat 0x80) 0 8 (some (dat 1)) = at_ (acc_ 0 2) 0 ∧ runs (acc_ 0 2) 0 (at_ (acc_ 0 2) 0) ∧
    (at_ (acc_ 0 2) 0).checkAccess 0 (dat 0x80) 0 8 (some (dat 1)) = .ok 0x80 0 2 ∧ ((acc_ 0 2).th 0).posted.length < 16 ∧
    (∀ a ∈ [0x80, 0x700000000],
      let s := run.modTh 0 (fun x => { x with posted := List.replicate 16 ⟨a, 8, dat 1, 0, 0⟩ })
      16 ≤ (s.th 0).posted.length ∧ (s.th 0).posted.head? = some ⟨a, 8, dat 1, 0, 0⟩ ∧ (s.th 0).limbo = [] ∧
        (s.th 0).wait = none) ∧
    run.locate 0 0x80 = .cell .ingot 0x80 ∧ MemId.ingot.dark true = false ∧ run.locate 0 0x700000000 = .fail 1 :=
  ⟨touch_raw (by decide) _ _ _, runs_at (by decide +kernel), by decide +kernel⟩

/-- A task of group 1, its first word a HANDLE of buffer 0 of pool 1. -/
def aTask (st : Stage) (domain : Option Nat) : Task :=
  ⟨1, 4, domain, 2, 1, 1, [⟨0x40, 0x1030000000000000⟩, dat 5, dat 6, dat 7], 0, false, 0, 0, none, st, []⟩
/-- Thread 0 holds task 2 of domain 3, which is PARALLEL. -/
def holding : State := { run.modTh 0 (fun x => { x with held := some 2 }) with
  tasks := [(2, aTask (.delivered 0) (some 3))] } |>.setReg (A.SCH_DOM_TYPE 0) 128
def holding' : State := at_ holding 0
theorem holding_runs : runs holding 0 holding' := runs_at (by decide +kernel)

/-- With and without a task, with posted writes, and on a Puppeteer core. -/
theorem witness_DrainingInstructions : runs holding 0 holding' ∧ (holding'.th 0).perr = none ∧ (holding'.th 0).posted = [] ∧
    (∀ k ∈ (holding'.th 0).tickets, k ≠ .out) ∧ (holding'.th 192).life ≠ .blocked ∧ (holding'.th 193).life ≠ .blocked ∧
    (holding'.th 0).held = some 2 ∧ holding'.task 2 = some (aTask (.delivered 0) (some 3)) ∧ holding'.domType 3 = 2 ∧
    (holding'.th 0).failedJob = none ∧ (run.th 0).held = none ∧ (run.th 0).failedJob = none ∧ (run.th 0).oldProg = false ∧
    (let s := run.modTh 0 (fun x => { x with posted := [⟨0x80, 8, dat 1, 0, 0⟩] })
     (s.th 0).posted ≠ [] ∧ (s.th 0).perr = none) := ⟨holding_runs, by decide +kernel⟩

/-- Pool 1: four buffers of 256 bytes at 0x1000, metadata at 0x2000; buffer 0 is account 0's with generation 3 and buffer 3
account 5's; pool 3 is in DIRECT mode; thread 0 runs. -/
def pools_ : State :=
  let s := { run with pools := [(1, ⟨some ⟨256, 0x1000, 4, 0x2000⟩, none, 1, false⟩), (3, ⟨some ⟨512, 0x4000, 2, 0x6000⟩, none, 0, false⟩)] }
  let s := s.wr (F.POOL_CFG_ENABLE 1) 1 |>.wr (F.POOL_STATUS_READY 1) 1 |>.wr (F.POOL_FREE_FREE 1) 2 |>.wr (F.POOL_INUSE_COUNT 1) 2
  let s := s.wr (F.ACCT_INUSE_INUSE 1 0) 1 |>.wr (F.ACCT_LIMIT_LIMIT 1 0) 3 |>.wr (F.POOL_CFG_MODE 3) 1
  s.setWord 0x2000 (mkMeta 3 0 0b10000 7) |>.setWord 0x2008 (mkMeta 255 0 0 2) |>.setWord 0x2018 (mkMeta 7 5 0b10000 9)
/-- A handle of a pool, generation, index and owner. -/
def hd (p g i own : Nat) : Word := ⟨Tag.ofAccount own, mkHandle p g i⟩

/-- One handle for each outcome, at the boundary index 3 of 4. -/
theorem witness_HandleChecks : (pools_.pool 2).built = none ∧ (pools_.pool 1).built = some ⟨256, 0x1000, 4, 0x2000⟩ ∧
    hIndex (hd 1 3 4 0).val = 4 ∧ hIndex (hd 1 7 3 5).val = 3 ∧ pools_.rd (F.POOL_CFG_MODE 1) ≠ 1 ∧
    pools_.rd (F.POOL_CFG_MODE 3) = 1 ∧ hIndex (hd 3 0 1 0).val < 2 ∧
    (let v := pools_.metaOf ⟨256, 0x1000, 4, 0x2000⟩ 3
     hGen (hd 1 7 3 5).val = mGen v ∧ hGen (hd 1 6 3 5).val ≠ mGen v ∧ hGen (hd 1 0 3 5).val = 0 ∧ mAlloc v = true ∧
     Tag.low6 (hd 1 7 3 5).tag = mOwner v ∧ Tag.low6 (hd 1 7 3 0).tag ≠ mOwner v) ∧
    hGen (hd 1 255 1 0).val = mGen (pools_.metaOf ⟨256, 0x1000, 4, 0x2000⟩ 1) ∧
    mAlloc (pools_.metaOf ⟨256, 0x1000, 4, 0x2000⟩ 1) = false := by decide +kernel
/-- The next free buffer, whose generation is 255; the limit reached; a pool never built. -/
theorem witness_AllocResults : let s := withRegs pools_ 0 [(1, dat 1), (2, dat 2)]
    runs s 0 (at_ s 0) ∧ ((at_ s 0).w 0 1).kind = .data ∧ s.is (F.UPL_CTL_PAUSE_TX_EN 0) = false ∧
    s.is (F.UPL_CTL_PAUSE_TX_EN 1) = false ∧ (s.pool 2).built = none ∧
    (s.pool 1).built = some ⟨256, 0x1000, 4, 0x2000⟩ ∧ s.is (F.POOL_STATUS_READY 1) = true ∧ s.is (F.POOL_CFG_ENABLE 1) = true ∧
    s.rd (F.ACCT_INUSE_INUSE 1 0) < s.rd (F.ACCT_LIMIT_LIMIT 1 0) ∧ 0 < s.sharedFree 1 4 ∧ 0 < s.rd (F.POOL_FREE_FREE 1) ∧
    (s.pool 1).head = 1 ∧ bits (s.word 0x2008).val.toNat 46 1 = 0 ∧ tget eccDefault s.bad 0x2008 = .good ∧ bits (s.word 0x2008).val.toNat 56 8 = 255 ∧
    (let r := s.wr (F.ACCT_LIMIT_LIMIT 1 0) 1
     r.rd (F.ACCT_LIMIT_LIMIT 1 0) ≤ r.rd (F.ACCT_INUSE_INUSE 1 0) ∧ r.rd (F.ACCT_RES_RES 1 0) ≤ r.rd (F.ACCT_INUSE_INUSE 1 0)) :=
  ⟨runs_at (by decide +kernel), by decide +kernel⟩
theorem witness_FreeAndHadd : let s := withRegs pools_ 0 [(1, hd 1 3 0 0), (2, hd 1 2 0 0), (3, dat 9)]
    runs s 0 (at_ s 0) ∧ ((at_ s 0).w 0 1).kind = .handle ∧ (at_ s 0).handleCheck ((at_ s 0).w 0 1) .free 0 false = none ∧
    (at_ s 0).handleCheck ((at_ s 0).w 0 2) .free 0 false = some 0x09 ∧ ((at_ s 0).w 0 3).kind = .data ∧ s.caches = [] ∧
    s.is (F.UPL_CTL_PAUSE_TX_EN 0) = false ∧ s.is (F.UPL_CTL_PAUSE_TX_EN 1) = false ∧
    (s.pool (hPool (hd 1 3 0 0).val)).built = some ⟨256, 0x1000, 4, 0x2000⟩ ∧ bits (s.word 0x2000).val.toNat 46 1 = 0 ∧
    tget eccDefault s.bad 0x2000 = .good :=
  ⟨runs_at (by decide +kernel), by decide +kernel⟩
/-- w1 to w4 are the words of a task of domain 9 and group 0; the group's share admits it, and with no share does not; rs1 28 is
the last. -/
theorem witness_SendResults : let s := withRegs holding 0 [(28, hd 1 3 0 0), (29, dat (9 * 2 ^ 28))]
    let r := s.wr (F.GRP_MIN_MIN 0) 0 |>.wr (F.GRP_MIN_DYNAMIC 0) 0
    runs s 0 (at_ s 0) ∧ runs r 0 (at_ r 0) ∧ ((at_ s 0).th 0).held.isSome = true ∧
    (∀ i, i < 4 → ((at_ s 0).w 0 (28 + i)).kind ≠ .poison) ∧ bits (9 * 2 ^ 28) 21 4 ≠ 15 ∧ (at_ s 0).admits 0 = true ∧
    s.tasks.length < 65536 ∧ s.tasks.Pairwise (fun a b => a.1 < b.1) ∧ (at_ s 0).domType (bits (9 * 2 ^ 28) 28 12) ≠ 1 ∧
    (at_ r 0).admits 0 = false := ⟨runs_at (by decide +kernel), runs_at (by decide +kernel), by decide +kernel⟩
/-- XMIT to an uplink with room; a reference to no task, to a delivered one and to one that waits for its turn. -/
theorem witness_TaskInstructions :
    (let s := withRegs ({ pools_.modTh 0 (fun x => { x with held := some 2 }) with
        tasks := [(2, aTask (.delivered 0) (some 3))] } |>.setReg (A.SCH_DOM_TYPE 0) 128 |>.wr (F.UPL_STATUS_UP 0) 1) 0
        [(1, ⟨0x40, (hd 1 3 0 0).val + 64⟩), (2, dat (64 * 65536 + 192))]
     runs s 0 (at_ s 0) ∧ (at_ s 0).touchHandle ((at_ s 0).w 0 1) .xmit = at_ s 0 ∧ ((at_ s 0).th 0).held = some 2 ∧ (at_ s 0).domType 3 = 2 ∧ ((at_ s 0).w 0 1).kind = .handle ∧
     (at_ s 0).handleCheck ((at_ s 0).w 0 1) .xmit 0 false = none ∧ 64 ≤ hOffset ((at_ s 0).w 0 1).val ∧
     hOffset ((at_ s 0).w 0 1).val + 192 ≤ ((at_ s 0).hLayout ((at_ s 0).w 0 1)).size ∧ (at_ s 0).portUp 64 = true ∧
     (at_ s 0).txOf 64 = PortQ.empty ∧ (∀ k, txPlaces 64 = some k → 0 < k)) ∧
    (let s := { run with tasks := [(2, aTask (.delivered 5) (some 3)),
        (7, { aTask (.ready 5) (some 9) with words := [dat 1, dat 2, dat 3, dat 4] })] }
     s.task 3 = none ∧ s.task 2 = some (aTask (.delivered 5) (some 3)) ∧ (aTask (.delivered 5) (some 3)).serial = 4 ∧
     bits (2 * 2 ^ 48 + 4 * 2 ^ 40) 48 16 = 2 ∧ bits (2 * 2 ^ 48 + 4 * 2 ^ 40) 40 8 = 4 ∧ (s.th 5).cancel = false ∧
     (∀ e ∈ s.tasks, e.2.domain = some 9 → e.1 = 7) ∧ (s.th 192).life ≠ .blocked ∧ (s.th 193).life ≠ .blocked) ∧
    (run.th 0).held = none :=
  ⟨⟨runs_at (by decide +kernel), by decide +kernel⟩, by decide +kernel⟩
/-- A descriptor of a helper at 0x1000_0840, its address in w1; tickets outstanding, free, ended well, and failed. -/
def descr : State := withRegs (((((run.setWord 0x10000840 (dat 0x0010000800000000)).setWord 0x10000848 (dat 0x88)).setWord 0x10000850
  (dat 0x1000)).setWord 0x10000858 (dat 0)).modTh 0 (fun x => { x with tickets := [.out, .free, .ended 0, .ended 0x301] })) 0
  [(1, dat 0x10000840)]
theorem witness_HelperInstructions : let s := at_ descr 0
    runs descr 0 s ∧ (s.w 0 1).kind = .data ∧
    s.descLoc 0 0x10000840 = some 0x10000840 ∧ s.accessWaits 0 0x10000840 32 = false ∧
    (∀ i, i < 4 → s.memOf (0x10000840 + 8 * i) ≠ none ∧ tget eccDefault s.bad (0x10000840 + 8 * i) = .good ∧
      (s.word (0x10000840 + 8 * i)).readAs.kind ≠ .poison) ∧
    (let j : Job := ⟨0, 1, 0, (List.range 4).map (fun i => (s.word (0x10000840 + 8 * i)).readAs), 0, [], false⟩
     j.badDesc = false ∧ { j with words := [dat 0x300, dat 0, dat 0, dat 0] }.badDesc = true) ∧ (s.helper 0).queue.length < 16 ∧
    (s.th 0).tickets.findIdx? (fun q => q != .out) = some 1 ∧ (s.th 0).tickets[0]? = some .out ∧
    (s.th 0).tickets[1]? = some .free ∧ (s.th 0).tickets[2]? = some (.ended 0) ∧
    (s.th 0).tickets[3]? = some (.ended 0x301) ∧ bits 0x301 0 8 ≠ 0 ∧ bits 0x301 0 8 ≠ 5 :=
  ⟨runs_at (by decide +kernel), by decide +kernel⟩
/-- An idle helper with one job waiting, and busy ones whose jobs end well without output and with three bytes of it. -/
theorem witness_HelperRuns :
    let j : Job := ⟨0, 3, 1, [dat 0x10, dat 0x88, dat 8, dat 0x1000], 0, [region true true 0 0x20000000], false⟩
    let s := { run with helpers := [(0, ⟨[j], none⟩), (1, ⟨[], some (j, ⟨0, 7, []⟩)⟩), (2, ⟨[], some (j, ⟨0, 7, [(0x8E, [1, 2, 3])]⟩)⟩)] }
    s.helper 0 = ⟨[j], none⟩ ∧ s.bad = [] ∧ s.queueWaiters 0 = [] ∧ s.helper 1 = ⟨[], some (j, ⟨0, 7, []⟩)⟩ ∧
    (s.helper 1).busy ≠ none ∧ (s.helper 3).busy = none ∧ (s.helper 3).queue = [] ∧
    s.helper 2 = ⟨[], some (j, ⟨0, 7, [(0x8E, [1, 2, 3])]⟩)⟩ ∧ (s.th 0).life ≠ .blocked ∧ 0x8E + 3 ≤ mbusWindow := by decide +kernel
/-- System registers at both ends of each range; MAILBOX with bit 0; a privileged thread and one that is not; EVPEND AND EVMASK
zero and non-zero. -/
theorem witness_SystemInstructions : runs alu 0 (at_ alu 0) ∧ runs pup 192 (at_ pup 192) ∧ decodeIsa 0 0xFFFFFFFF = none ∧
    unpoisoned (at_ alu 0) 0 [1, 2] ∧ up.recorder.frozen = false ∧ up.recorder.offered.length < 64 ∧
    (4 ≤ (7 : BitVec 5).toNat ∧ (7 : BitVec 5).toNat < 8) ∧ 0x0B ≤ (11 : BitVec 5).toNat ∧ 8 ≤ (10 : BitVec 5).toNat ∧
    (at_ alu 0).priv 0 = false ∧ (at_ pup 192).priv 192 = true ∧ (at_ (up.wr (F.THREAD_CFG_PRIV 0 0) 1) 0).priv 0 = true ∧
    ((at_ pup 192).th (385 - 192)).life ≠ .blocked ∧ Nat.land (pup.th 192).evpend (pup.th 192).evmask = 0 ∧
    (let x := (pup.modTh 192 (fun x => { x with evpend := 3, evmask := 1 })).th 192
     Nat.land x.evpend x.evmask ≠ 0) :=
  ⟨alu_runs, runs_at (by decide +kernel), by decide +kernel, unpoisoned_of (by decide +kernel), by decide +kernel⟩

/-- Address 0x88 in w1, one dirty line of it in way 1 of its set of tile 0. -/
def aLine : Line := ⟨2, true, [dat 1, dat 2, ⟨0x41, 3⟩, dat 4, dat 0, dat 6, bad, dat 8]⟩
def cached : State := withRegs { acc_ 0 0 with caches := [(2, ⟨[none, some aLine, none, none, none, none, none, none], 5⟩)] } 0
  [(1, dat 0x88)]
theorem witness_CacheMaintenance : runs cached 0 (at_ cached 0) ∧ ((at_ cached 0).w 0 1).kind = .data ∧ farAddr 0x88 = true ∧
    farAddr 0x10000800 = false ∧ setKey 0 0x88 = 2 ∧ ((at_ cached 0).cset 2).wayOf (0x88 / 64) = some 1 ∧
    ((at_ cached 0).cset 2).line 1 = some aLine ∧ aLine.words.length = 8 ∧ (run.cset 2).wayOf (0x88 / 64) = none ∧
    deciding (cached.th 0).set.regions (cached.priv 0) 0x88 = some ⟨true, 0, 2 ^ 34 - 1, true, true, true, 0, 0, false⟩ ∧
    deciding ((under [region true false 0 0x20000000]).th 0).set.regions false 0x88 = some (region true false 0 0x20000000) :=
  ⟨runs_at (by decide +kernel), by decide +kernel⟩

/-- Thread 3, privileged, is the active supervisor of tile 0 and decides d about thread u; thread 5 is FAULTED under code c. -/
def deciding_ (c : Nat) (held : Option Nat) (u d : Nat) : State :=
  withRegs ((((up.startThread 5).modTh 5 (fun x => { x with life := .faulted, fault := some ⟨c, 9, x.pc, 17, false, none, false⟩, held := held })).wr
    (F.THREAD_CFG_PRIV 0 3) 1).startThread 3) 3 [(1, dat u), (2, dat d)] |> fun s => { s with tasks := [(2, aTask (.delivered 5) (some 3))] }
theorem witness_FaultDecisions :
    (∀ d, d < 4 → let s := deciding_ 0x10 none 5 d
      ((s.th 3).life == .running && (s.fetch 3).2.isNone) = true ∧ (s.w 3 1).kind = .data ∧ (s.w 3 2).kind = .data ∧
      (at_ s 3).priv 3 = true ∧ (3 : Nat) = s.activeSup (5 / 32) ∧ (s.th 5).life = .faulted ∧
      (s.th 5).fault = some ⟨0x10, 9, (s.th 5).pc, 17, false, none, false⟩ ∧ (s.th 5).held = none ∧ (s.th 5).record = .none ∧
      oget s.sched.escHeld 0 ≠ some 5 ∧ (s.th 5).haltPend = false) ∧
    ((deciding_ 0x0B none 5 0).th 5).fault.map FaultInfo.code = some 0x0B ∧
    ((deciding_ 0x0E (some 2) 5 1).th 5).held = some 2 ∧
    (deciding_ 0x0E (some 2) 5 1).task 2 = some (aTask (.delivered 5) (some 3)) ∧ ((deciding_ 0x0E none 6 0).th 6).life ≠ .faulted ∧
    (3 : Nat) ≠ (deciding_ 0x0E none 37 0).activeSup (37 / 32) ∧ (at_ alu 0).priv 0 = false := by decide +kernel

/-- Thread u is FAULTED with its record due; thread 3, or 19, is the active supervisor. -/
def recording (u : Nat) : State := (((up.startThread 3).startThread 19).startThread u).modTh u (fun x => { x with
  life := .faulted, fault := some ⟨0x0B, 9, x.pc, 17, false, none, u == 3⟩, record := .waiting })
theorem witness_FaultRecords :
    (∀ u ∈ [5, 3], let s := recording u
      (s.th u).life = .faulted ∧ (s.th u).fault = some ⟨0x0B, 9, (s.th u).pc, 17, false, none, u == 3⟩ ∧ (s.th u).record = .waiting ∧
      (∀ k ∈ (s.th u).tickets, k ≠ .out) ∧ s.admits 15 = true ∧ s.tasks.length < 65536 ∧ s.activeSup 0 = 3 ∧
      s.available (s.otherSup 0) = true ∧ s.is (F.SUPV_ESC_STAT_PENDING 0) = false ∧ s.escQueue 0 = [] ∧
      (s.th 192).life ≠ .blocked) ∧ (recording 5).available 3 = true := by decide +kernel

/-- Records wait for SUPV_ESC_REC; a budget one below, at its LIMIT, and without one; a drain one ns before its time and at it. -/
theorem witness_TimedThreadEvents :
    (let s := { recording 3 with sched := { (recording 3).sched with esc := [(0, [(3, [1, 2, 3, 4]), (7, [5, 6, 7, 8])])] } }
     s.escQueue 0 = [(3, [1, 2, 3, 4]), (7, [5, 6, 7, 8])] ∧ s.is (F.SUPV_ESC_STAT_PENDING 0) = false ∧
     (s.th 192).life ≠ .blocked ∧ (s.wr (F.SUPV_ESC_STAT_PENDING 0) 1).is (F.SUPV_ESC_STAT_PENDING 0) = true) ∧
    (∀ n ∈ [4, 5], let s := (holding.wr (F.GRP_BUDGET_LIMIT 0) 5).modTh 0 (fun x => { x with run := n * 1000 * tUnit })
      s.rd (F.GRP_BUDGET_LIMIT (s.th 0).group) = 5 ∧ (s.th 0).used = n ∧ (s.th 0).held.isSome = true ∧
      (s.th 0).life = .running ∧ (s.th 0).snapshot = none ∧
      ((s.modTh 0 (fun x => { x with life := .blocked, wait := some (.load ⟨3, 8, false, 0x80, 0, true, false, [], 4⟩) })).th 0).snapshot =
        some ([], 4)) ∧
    (holding.wr (F.GRP_BUDGET_LIMIT 0) 0).rd (F.GRP_BUDGET_LIMIT 0) = 0 ∧
    (∀ n ∈ [999, 1000], let s := { (run.wr (F.TILE_POSTED_TMO_TMO 0) 0).modTh 0 (fun x => { x with
        life := .blocked, wait := some (.drain .fence (some 0)), posted := [⟨0x80, 8, dat 1, 0, 0⟩] }) with acc := n * tUnit }
      (s.th 0).life = .blocked ∧ (s.th 0).perr = none ∧ s.nowNs = n ∧
      (s.nowNs < 0 + max 1 (s.rd (F.TILE_POSTED_TMO_TMO 0)) * 1000 ↔ n = 999)) := by decide +kernel

/-- GROUP 15 for thread 0, which is no supervisor, and 14. -/
theorem witness_ThreadControl : up.mainOn = true ∧ (up.th 0).life = .offline ∧ (up.th 0).failed = false ∧ up.vcoreOn = true ∧
    (run.th 0).life ≠ .offline ∧ bits (0x0F : BitVec 32).toNat 0 4 = 15 ∧ bits (0x1E : BitVec 32).toNat 0 4 = 14 ∧
    (0 : Nat) ≠ up.rd (F.TILE_SUPV_PRIMARY 0) ∧ (0 : Nat) ≠ up.rd (F.TILE_SUPV_ALTERNATE 0) ∧ up.inConfig = false := by decide +kernel

/-- Thread 0 and supervisor 3 wait in GETWORK for a task of account 5 and group 1 and a fault record. -/
def idling : State :=
  let s := (((up.startThread 0).startThread 3).modTh 0 (fun x => { x with life := .idle, wait := some .work, group := 1 })).modTh 3
    (fun x => { x with life := .idle, wait := some .work, group := 15 })
  { s with tasks := [(2, { aTask (.ready 4) (some 3) with acct := 5 }),
    (4, { aTask (.ready 4) none with prio := 7, group := 15, faultOf := some 5 })] }
theorem witness_TaskDelivery :
    idling.firstReady (fun y => y.group == 1) = some (2, { aTask (.ready 4) (some 3) with acct := 5 }) ∧
    idling.placeFor 1 = some (0, false) ∧ idling.tileTherm 0 = 0 ∧
    idling.firstReady (fun y => y.group == 15 && (y.faultOf.map tileOf) == some 0) =
      some (4, { aTask (.ready 4) none with prio := 7, group := 15, faultOf := some 5 }) ∧
    (idling.setReg A.PWR_TILE_THERM 1).tileTherm 0 ≠ 0 ∧ (idling.setReg A.PWR_TILE_THERM 1).placeFor 1 = some (0, false) ∧
    (idling.th 3).group = 15 ∧ idling.activeSup 0 = 3 ∧ (idling.th 3).life = .idle ∧ (idling.th 3).wait = some .work ∧ idling.drained 0 = false ∧
    (idling.th 0).set.acct ≠ 5 ∧ (idling.th 3).set.acct = 0 ∧ (idling.th 3).set.gen = idling.rd (F.ACCT_GEN_GEN 0 0) := by decide +kernel

/-- One record waits, of status 1; a log of 4 with room, one that is full, one of no size; with nothing waiting. -/
theorem witness_CompletionRecords : up.sched.cpl = [] ∧
    (∀ e ∈ ([(4, 3, 1), (4, 3, 0), (0, 0, 0)] : List (Nat × Nat × Nat)),
      let s := { up with sched := { up.sched with cpl := [0x10005] } }.wr F.SCH_CPL_SIZE_SIZE e.1 |>.wr F.SCH_CPL_WR_WR e.2.1
        |>.wr F.SCH_CPL_RD_RD e.2.2 |>.setReg A.SCH_CPL_FILTER 2
      s.sched.cpl = [0x10005] ∧ s.rd F.SCH_CPL_SIZE_SIZE = e.1 ∧ (s.reg A.SCH_CPL_FILTER).toNat.testBit (bits 0x10005 16 8) = true ∧
      s.rd F.SCH_CPL_WR_WR = e.2.1 ∧ s.rd F.SCH_CPL_RD_RD = e.2.2 ∧ s.rd F.SCH_CPL_BASE_ADDR / 8 * 8 + 8 * 3 < 0x80000) ∧
    (3 + 1) % 4 ≠ 1 ∧ (3 + 1) % 4 = 0 := by decide +kernel

/-- A register of each of the three blocks; no register; main domains off. -/
theorem witness_RegisterWrites : up.mainOn = true ∧ State.reset.mainOn = false ∧ regRow 0 = none ∧ up.settleAll = up ∧
    (up.wr F.PWR_VSAFE_MV 605).rd F.PWR_VSAFE_MV ≠ 0 ∧ up.tasks = [] ∧ (∀ c, c < 2 → (up.th (192 + c)).life ≠ .blocked) ∧
    (∀ a ∈ [A.PWR_ENV_MAX, A.SIO_CFG 63, A.SCH_CPL_FILTER], (regRow a).isSome = true ∧ a / 0x10000 ∈ [0x4001, 0x4004, 0x400C]) := by
  decide +kernel

/-- A layout that passes the checks and one that does not; a build of one buffer in progress. -/
theorem witness_PoolUpkeep_build : up.is (F.UPL_CTL_PAUSE_TX_EN 0) = false ∧ up.is (F.UPL_CTL_PAUSE_TX_EN 1) = false ∧
    (∀ c ∈ [0, 4], let s := (((({ up with pools := [(1, ⟨none, none, 0, true⟩)] }.wr (F.POOL_CFG_SIZE 1) 2).setReg (A.POOL_BASE_LO 1)
        0x1000).setReg (A.POOL_COUNT 1) (BitVec.ofNat 32 c)).setReg (A.POOL_META_LO 1) 0x2000)
      s.mainOn = true ∧ s.pool 1 = ⟨none, none, (s.pool 1).head, true⟩ ∧ s.is (F.POOL_CFG_ENABLE 1) = false ∧
      s.inConfig = false ∧ (s.layoutCheck 1 (s.layoutOf 1) = 0 ↔ c = 4) ∧ s.recorder.frozen = false ∧
      s.recorder.offered.length < 64) ∧ (1 : BitVec 32).toNat.testBit 0 = true ∧ (up.pool 1).building = none ∧
    0x2000 + 8 * 1 ≤ mbusWindow := by decide +kernel

/-- One buffer of pool 15, account 5's, made at `made` ms; the clock at 9 ms; a scan of pool 15 in progress. -/
def audit_ (busy ms : Nat) : State :=
  { up with acc := ms * 1000000 * tUnit, pools := [(15, ⟨some ⟨256, 0x1000, 1, 0x2000⟩, none, 0xFFFFFFFF, false⟩)], audit := ⟨some 9000000⟩ }
    |>.setWord 0x2000 (mkMeta 3 5 0b10000 7) |>.wr F.AUDIT_CTL_BUSY busy |>.wr (F.AUD_THR_THR 5) 2 |>.wr F.AUDIT_MAX_MAX 1
    |>.wr F.AUDIT_POOLS_MASK 0x8000
/-- The greatest age that saturates; the period's end and one ms before it; a buffer as old as its threshold; no pool. -/
theorem witness_PoolUpkeep_audit : (audit_ 1 9).bad = [] ∧ (let s := audit_ 1 9
      s.rd (F.POOL_CFG_MODE 15) ≠ 2 ∧ (s.pool 15).built = some ⟨256, 0x1000, 1, 0x2000⟩ ∧ s.is F.AUDIT_CTL_BUSY = true ∧
      s.rd F.AUDIT_POOLS_MASK = 2 ^ 15 ∧ s.rd F.AUDIT_WRITTEN_COUNT = 0 ∧
      (let m := s.metaOf ⟨256, 0x1000, 1, 0x2000⟩ 0
       bits m 50 6 = 5 ∧ ageOf s.nowMs m = 2 ∧ mAlloc m = true ∧ s.rd (F.AUD_THR_THR 5) ≤ 2 ∧ s.rd (F.AUD_MAXAGE_AGE 5) < 2) ∧
      0 < s.rd F.AUDIT_MAX_MAX ∧ s.rd F.AUDIT_DST_ADDR / 8 * 8 < 0x80000 ∧ s.audit.next = some 9000000 ∧ 9000000 ≤ s.nowNs ∧
      (s.wr F.AUDIT_POOLS_MASK 0).rd F.AUDIT_POOLS_MASK = 0) ∧
    (audit_ 0 8).nowNs < 9000000 ∧ (audit_ 0 9).is F.AUDIT_CTL_BUSY = false ∧ (audit_ 0 9).mainOn = true ∧ up.audit.next = none ∧
    bits (0x07000000 : BitVec 32).toNat 24 8 ≠ up.rd F.AUDIT_CTL_PERIOD_S ∧
    (let s := audit_ 0 (7 + 65535)
     ageOf s.nowMs (s.metaOf ⟨256, 0x1000, 1, 0x2000⟩ 0) = 65535 ∧ mAlloc (s.metaOf ⟨256, 0x1000, 1, 0x2000⟩ 0) = true) := by decide +kernel

/-- The ingot scrubber at the last word it goes on from, in time and not; a word of a channel of 8 GiB that its pass has not read
and one that it has; a pass that has read every word, one ns before its period ends and at it. -/
theorem witness_Scrubbing :
    (∀ e ∈ [Ecc.good, .correctable, .uncorrectable],
      let s := { up with
        bad := if e = Ecc.good then [] else [(16777200, e), (sdBase 0 + 0x80, e)], scrub := ⟨true, 16777200, 0⟩, acc := hourNs * tUnit, pools := [] }
      let r := { ((s.wr (F.SDC_SCRUB_ENABLE 0) 1 |>.wr (F.SDC_CTRL_POPULATED 0) 1).wr (F.SDC_STATUS_FILL_DONE 0) 1).wr F.TMR_REF_REF25_OK 1
        with patrols := [(0, ⟨0, [(0x78, true)]⟩)] }
      s.scrub.pos + 8 < 16777216 ∧ s.scrub.active = true ∧ s.scrub.pos * hourNs ≤ ((s.nowNs : Int) - s.scrub.start) * 16777216 ∧
      tget eccDefault s.bad 16777200 = e ∧ s.pools = [] ∧ r.is (F.SDC_SCRUB_ENABLE 0) = true ∧
      (0x80 : Nat) % 8 = 0 ∧ 0x80 < r.sdCapacity 0 ∧ r.sdCapacity 0 = 0x200000000 ∧ r.is (F.SDC_STATUS_FILL_DONE 0) = true ∧
      r.is F.TMR_REF_REF25_OK = true ∧ ¬ r.sdCapacity 0 ≤ 8 * (r.patrolOf 0).seen.length ∧
      tget (fun _ => false) (r.patrolOf 0).seen 0x80 = false ∧ tget (fun _ => false) (r.patrolOf 0).seen 0x78 = true ∧
      (tset (fun _ => false) (r.patrolOf 0).seen 0x80 true).length = 2 ∧ tget eccDefault r.bad (sdBase 0 + 0x80) = e ∧ r.rd (F.SDC_UE_COUNT_COUNT 0) = 0) ∧
    ¬ (16777200 * hourNs : Int) ≤ ((up.nowNs : Int) - 0) * 16777216 ∧ up.is (F.SDC_STATUS_FILL_DONE 1) = false := by decide +kernel
theorem witness_Scrubbing_ended (n : Nat) (hn : n = 24 * hourNs ∨ n + 1 = 24 * hourNs) :
    let s := { up with patrols := [(0, ⟨0, List.replicate 0x40000000 (0x80, true)⟩)], acc := n * tUnit }
    0x200000000 ≤ 8 * (s.patrolOf 0).seen.length ∧ ((s.patrolOf 0).start + s.patrolNs 0 ≤ (s.nowNs : Int) ↔ n = 24 * hourNs) := by
  have l : n < 2 ^ 64 := by rcases hn with h | h <;> simp [hourNs] at h <;> omega
  refine ⟨?_, ?_⟩
  · show 0x200000000 ≤ 8 * (List.replicate 0x40000000 (0x80, true)).length
    have e : (List.replicate 0x40000000 ((0x80, true) : Nat × Bool)).length = 0x40000000 := List.length_replicate
    omega
  · show (0 : Int) + ((up.patrolNs 0 : Nat) : Int) ≤ ((n * tUnit / tUnit % 2 ^ 64 : Nat) : Int) ↔ n = 24 * hourNs
    rw [Nat.mul_div_cancel _ (by decide), Nat.mod_eq_of_lt l, show up.patrolNs 0 = 24 * hourNs by decide +kernel]; omega

/-- CONFIG and not; a channel that has neither ended nor failed, one under initialisation, one that has ended. -/
theorem witness_MemoryCommands : up.mainOn = true ∧ up.is (F.SDC_CTRL_POPULATED 1) = false ∧
    (up.wr (F.SDC_CTRL_POPULATED 1) 1).is (F.SDC_CTRL_POPULATED 1) = true ∧ (up.wr F.DICT_STATE_STATE 1).inConfig = true ∧ up.inConfig = false ∧
    up.is (F.SDC_STATUS_INIT_DONE 1) = false ∧ up.is (F.SDC_STATUS_INIT_FAIL 1) = false ∧ up.initRuns 1 = false ∧
    { up with sdcInit := [(1, true)] }.initRuns 1 = true ∧
    (up.wr (F.SDC_STATUS_INIT_DONE 1) 1).is (F.SDC_STATUS_INIT_DONE 1) = true ∧ up.is (F.SDC_STATUS_FILL_DONE 1) = false ∧
    (0x10 : BitVec 32).toNat.testBit 4 = true ∧ (∀ i, i < 3 → (0x10 : BitVec 32).toNat.testBit i = false) ∧
    up.recorder.frozen = false ∧ up.recorder.offered.length < 64 ∧ up.is F.MEMECC_CTRL_INGOT_SCRUB_EN = true ∧
    (up.wr F.MEMECC_CTRL_INGOT_SCRUB_EN 0).is F.MEMECC_CTRL_INGOT_SCRUB_EN = false := by decide +kernel

/-- Both sources, one, none; timer 31 enabled, about to wrap, without a match due; a thread that holds a task. -/
theorem witness_StationTime :
    (∀ a ∈ [0, 1], ∀ b ∈ [0, 1], let s := up.wr F.TMR_REF_REF25_OK a |>.wr F.TMR_REF_XTAL_OK b
      s.is F.TMR_REF_REF25_OK = (a == 1) ∧ s.is F.TMR_REF_XTAL_OK = (b == 1)) ∧
    (let s := { up.wr (F.TMR_CTL_EN 31) 1 with timers := [(31, { Timer.init with count := 2 ^ 64 - 1, rem := 64000000000 - 1 })] }
     s.is (F.TMR_CTL_EN 31) = true ∧ (s.timer 31).dueA = none ∧ (s.timer 31).dueB = none ∧ s.is (F.TMR_CTL_EN 0) = false) ∧
    (holding.th 0).held.isSome = true ∧ (holding.th 0).life = .running ∧
    (∃ s', exec (.stationTimeAdvance none) up = .next s') := ⟨by decide +kernel, by decide +kernel, by decide +kernel, by decide +kernel, _, rfl⟩

/-- Exactly one whole second with both sources good, and not a whole one. -/
theorem witness_TimeSources : up.txq = [] ∧
    (∀ n ∈ [999999999, 1000000000], let s := { up with timeBase := ⟨some 0, 0, [], 0⟩, acc := n * tUnit }
      let w := s.nowNs / 1000000000 * 1000000000
      ((1000000000 ≤ w ∧ s.timeBase.xcal < w ∧ 0 + 1000000000 ≤ w) ↔ n = 1000000000) ∧ s.timeBase.both = some 0) := by decide +kernel

/-- Timer 3 with a match of A due, and of both; AUTO with a step, and without; a step that goes beyond 2 ^ 64. -/
theorem witness_Compares : let x : Timer := { Timer.init with count := 100, cmpA := 20, cmpB := 30, dueA := some 5, dueB := some 6 }
    (∀ st ∈ [0, 1, 2 ^ 32 - 1], let s := { up with timers := [(3, x)] } |>.wr (F.TMR_CTL_AUTO_A 3) 1 |>.wr (F.TMR_STEP_STEP 3) st
      (s.timer 3).dueA = some 5 ∧ s.is (F.TMR_CTL_AUTO_A 3) = true ∧ s.rd (F.TMR_STEP_STEP 3) = st ∧
      bits (s.reg (A.TMR_ROUTE 3)).toNat 0 2 = 0 ∧ s.phase = .up) ∧
    (let s := { up with timers := [(3, { x with dueA := none })] }
     (s.timer 3).dueB = some 6 ∧ (s.timer 3).dueA = none ∧ s.is (F.TMR_CTL_AUTO_B 3) = false) ∧
    (let s := { up with timers := [(3, { x with dueA := none, dueB := none })] }
     s.mainOn = true ∧ (s.timer 3).dueA = none ∧ (s.timer 3).dueB = none ∧ 0 < (s.timer 3).cmpA ∧ 0 < (s.timer 3).cmpB) := by decide +kernel

/-- A time just past and one beyond it, on the reference and on the crystal; a level that has held for exactly the filter time and
one that has not, told again once it has; a held rise and none; a level away from INVERT; a command told late; a channel that is not
enabled. -/
theorem witness_CaptureEdges : let s := tach.setReg (A.CAP_ROUTE 5) 0
    let x := s.wr F.TMR_REF_REF25_OK 0 |>.wr F.TMR_REF_XTAL_OK 1
    let low := { s with sioIn := [(5, true)] }.setChan 5 ⟨none, none, 0, 0, 0, true⟩
    let told := after (.captureEdge 5 true 81275000201) s
    let later := { told with acc := told.acc + 41 * tUnit }
    s.phase = .up ∧ bits (s.reg (A.CAP_ROUTE 5)).toNat 0 2 = 0 ∧ s.is F.TMR_REF_REF25_OK = true ∧ x.is F.TMR_REF_REF25_OK = false ∧
    s.edgeTime 81275000160 = some 81275000160 ∧ s.edgeTime 81275010201 = none ∧ 81275000160 ≤ x.nowNs ∧ x.nowNs < 81275010201 ∧
    tget (fun _ => false) s.sioIn 5 = false ∧ (s.chan 5).asked ≤ 81275000160 ∧
    81275000160 + 40 * s.rd (F.CAP_CTL_FILT 5) ≤ s.nowNs + (if s.is F.TMR_REF_REF25_OK then 40 else 0) ∧
    ¬ (81275000201 + 40 * s.rd (F.CAP_CTL_FILT 5) ≤ s.nowNs + (if s.is F.TMR_REF_REF25_OK then 40 else 0)) ∧
    s.is (F.CAP_CTL_EN 5) = true ∧ s.is (F.CAP_CTL_INVERT 5) = true ∧ (s.chan 5).rise = some (81250000120, 7) ∧
    tget (fun _ => false) low.sioIn 5 = true ∧ (low.chan 5).asked ≤ 81275000160 ∧ (low.chan 5).rise = none ∧
    tget (fun _ => false) told.sioIn 5 = true ∧ (told.chan 5).asked = 81275000201 ∧ (told.chan 5).counted = false ∧
    told.edgeHeld 5 true 81275000201 = false ∧ later.edgeHeld 5 true 81275000201 = true ∧
    81275000160 < (told.chan 5).asked ∧ s.is (F.CAP_CTL_EN 4) = false := by decide +kernel

/-- A capture event of channel 63 and a timer event of timer 31, admitted and not. -/
theorem witness_CaptureAndEvents :
    (∀ e ∈ ([⟨true, 63, 4, 1, 3, 4, 0xA1C9⟩, ⟨false, 31, 0, 1, 3, 4, 0xA1C9⟩] : List TEvent),
      let s := { up with events := [e] }
      s.events = [e] ∧ s.mainOn = true ∧ bits e.route 5 4 ≠ 15 ∧ (e.cap = false → e.num < 32) ∧
      s.admits (bits e.route 5 4) = true ∧ s.tasks.length < 65536 ∧ s.domType (bits e.route 16 12) ≠ 1 ∧
      (s.wr (F.GRP_MIN_MIN (bits e.route 5 4)) 0 |>.wr (F.GRP_MIN_DYNAMIC (bits e.route 5 4)) 0).admits (bits e.route 5 4) = false) ∧
    up.events = [] ∧ (2 : BitVec 32).toNat.testBit 1 ≠ up.is (F.CAP_CTL_INVERT 63) ∧
    (0 : BitVec 32).toNat.testBit 1 = up.is (F.CAP_CTL_INVERT 63) ∧ (0 : BitVec 32).toNat.testBit 0 = up.is (F.CAP_CTL_EN 63) := by
  decide +kernel

/-- A frame with its check sequence; a pause frame of 5 quanta; an Ethernet frame of 64 bytes; a cell frame of 20 bytes. -/
def fcs (l : List Byte) : List Byte := l ++ fcsOf l
def pauseF : List Byte := fcs ([1, 0x80, 0xC2, 0, 0, 1, 2, 3, 4, 5, 6, 7, 0x88, 8, 0, 1, 0, 5] ++ List.replicate 42 0)
def etherF : List Byte := fcs ([2, 0x80, 0xC2, 0, 0, 1, 2, 3, 4, 5, 6, 7, 8, 0] ++ List.replicate 46 9)
def cellF : List Byte := fcs ([1, 2, 0, 0] ++ List.replicate 12 7)
/-- Uplink 1 and cell link 47 are UP, their pool is pool 1. -/
def ports_ : State := pools_.wr (F.UPL_STATUS_UP 1) 1 |>.wr (F.UPL_ING_POOL 1) 1 |>.wr (F.UPL_CTL_PROMISC 1) 1 |>.wr (F.CL_STATUS_STATE 47) 2
  |>.wr (F.CL_ING_POOL 47) 1

theorem witness_UplinkFrames : ports_.is (F.UPL_STATUS_UP 1) = true ∧ ports_.is (F.UPL_STATUS_UP 0) = false ∧
    64 ≤ pauseF.length ∧ fcsOf (pauseF.take 60) = pauseF.drop 60 ∧ halfAt (pauseF.take 60) 12 = 0x8808 ∧
    beNat ((pauseF.take 60).take 6) = 0x0180C2000001 ∧ halfAt (pauseF.take 60) 14 = 1 ∧
    64 ≤ etherF.length ∧ etherF.length ≤ 9216 ∧ fcsOf (etherF.take 60) = etherF.drop 60 ∧ halfAt (etherF.take 60) 12 ≠ 0x8808 ∧
    fcsOf ((etherF.set 40 0).take 60) ≠ (etherF.set 40 0).drop 60 ∧
    (ports_.alloc 1 0).2 = .ok ⟨256, 0x1000, 4, 0x2000⟩ 1 1 ∧ 60 + 64 ≤ 256 ∧ (0x1000 + 1 * 256 + 64) % 8 = 0 ∧
    ports_.is (F.UPL_PTP_CTL_RX_EN 1) = false ∧ ports_.is (F.UPL_CTL_PROMISC 1) = true ∧
    ((ports_.wr (F.ACCT_LIMIT_LIMIT 1 0) 1).alloc 1 0).2 = .fail 2 := by decide +kernel

/-- A pause that ends now and one that ends later; half the quanta gone by; no frame queued. -/
theorem witness_UplinkEvents :
    (∀ n ∈ [0, 1], let s := { up with pauseEnd := [(1, 1000 + n)], acc := 1000 }.wr (F.UPL_STATUS_PAUSED 1) 1
      s.is (F.UPL_STATUS_PAUSED 1) = true ∧ (tget (fun _ => 0) s.pauseEnd 1 ≤ s.acc ↔ n = 0)) ∧
    (∀ n ∈ [0, 1],
      let s := { up with pauseAt := [(1, n)], pauseSent := [(1, 100)], acc := 50 * quantum }.wr (F.UPL_CTL_PAUSE_TX_EN 1) 1 |>.wr (F.UPL_STATUS_UP 1) 1
        |>.wr (F.UPL_STATUS_XOFF 1) 1 |>.wr (F.UPL_PAUSE_QUANTA 1) 100 |>.wr (F.UPL_XON_THR_COUNT 1) 1
      s.is (F.UPL_CTL_PAUSE_TX_EN 1) = true ∧ s.is (F.UPL_STATUS_UP 1) = true ∧ s.is (F.UPL_STATUS_XOFF 1) = true ∧
      (tget (fun _ => 0) s.pauseAt 1 + tget (fun _ => 0) s.pauseSent 1 * quantum / 2 ≤ s.acc ↔ n = 0) ∧
      s.rd (F.POOL_FREE_FREE (s.rd (F.UPL_ING_POOL 1))) < s.rd (F.UPL_XON_THR_COUNT 1)) ∧
    up.mainOn = true ∧ up.txq = [] ∧ up.is (F.UPL_CTL_PAUSE_TX_EN 1) = false ∧ up.recorder.frozen = false ∧
    up.recorder.offered.length < 64 := by decide +kernel

/-- Cell link 47 in each state; enabled with the reference good; a frame of 20 bytes and the same with a wrong CRC. -/
theorem witness_CellLinks :
    (∀ st ∈ [0, 1, 2], let s := ports_.wr (F.CL_STATUS_STATE 47) st |>.wr (F.CL_CTL_EN 47) 1 |>.wr F.TMR_REF_REF25_OK 1
      s.rd (F.CL_STATUS_STATE 47) = st ∧ s.is (F.CL_CTL_EN 47) = true ∧ s.is F.TMR_REF_REF25_OK = true ∧ s.scanning = false ∧
      s.txq = [] ∧ s.recorder.frozen = false ∧ s.recorder.offered.length < 64 ∧
      (s.alloc 1 0).2 = .ok ⟨256, 0x1000, 4, 0x2000⟩ 1 1) ∧
    ports_.rd (F.CL_ING_POOL 47) = 1 ∧ cellF.length = 20 ∧ halfAt (cellF.take 16) 2 + 20 = cellF.length ∧
    fcsOf (cellF.take 16) = cellF.drop 16 ∧ fcsOf ((cellF.set 9 0).take 16) ≠ (cellF.set 9 0).drop 16 := by decide +kernel

/-- A frame of 17 bytes at the head of the queue of each kind of port that is UP; its words good and one uncorrectable. -/
theorem witness_Transmission :
    (∀ p ∈ [47, 65], ∀ ue ∈ [false, true],
      let s := { ports_ with
        txq := [(p, ⟨[⟨⟨0x40, 0x1030000000000040⟩, p, 17, 3⟩], []⟩)], bad := if ue then [(0x1048, .uncorrectable)] else [] }
      (s.txOf p).queue = [⟨⟨0x40, 0x1030000000000040⟩, p, 17, 3⟩] ∧ (s.txOf p).line = [] ∧ s.portUp p = true ∧
      s.is (F.UPL_CTL_PAUSE_TX_EN 0) = false ∧ s.is (F.UPL_CTL_PAUSE_TX_EN 1) = false ∧
      s.is (F.UPL_STATUS_PAUSED 1) = false ∧
      (let r := s.setTx p PortQ.empty
       (r.readBytes (r.hAddr ⟨0x40, 0x1030000000000040⟩ (hOffset 0x1030000000000040)) 17).2.ue = ue)) ∧
    (ports_.wr (F.UPL_STATUS_PAUSED 1) 1).is (F.UPL_STATUS_PAUSED 1) = true ∧ up.portUp 65 = false ∧ (up.txOf 0).queue = [] := by
  decide +kernel

/-- A frame in buffer 0 of pool 1 that awaits its parse; node commands for the active and the inactive bank. -/
def framed (parsed : Bool) : State := { pools_ with frames := [⟨⟨0x40, 0x1030000000000000⟩, 65, 100, 77777, 0, some (1, 0x10000), parsed⟩] }
theorem witness_ParserCommands : (∀ f ∈ (framed true).frames, f.parsed = true) ∧
    ((framed false).frames.find? (fun x => !x.parsed)).isSome = true ∧
    (framed false).bufBase ⟨0x40, 0x1030000000000000⟩ = 0x1000 ∧ up.mainOn = true ∧ (framed false).rd F.PRS_BANK_ACTIVE = 0 ∧
    (framed false).prsDrained = false ∧ up.prsDrained = true := by decide +kernel

/-- A frame with its record written, no fragment; rule 4095 catches it, its verdict DROP and PASS. -/
def ruled (verdict : Nat) : State := { framed true with
  cls := { up.cls with rules := [(16 * 4095 + 13, BitVec.ofNat 32 (verdict * 2 ^ 30)), (16 * 4095 + 15, 0xC801)] } }
  |>.wr F.CLS_VER_CUR 200 |>.setWord 0x1018 (dat (4 * 2 ^ 48))
theorem witness_Classification :
    (∀ v ∈ [0, 1], let s := ruled v
      s.frames = [⟨⟨0x40, 0x1030000000000000⟩, 65, 100, 77777, 0, some (1, 0x10000), true⟩] ∧
      (let rcd := (s.readBytes (s.bufBase ⟨0x40, 0x1030000000000000⟩) 64).2.bytes
       halfAt rcd 24 % 4 = 0 ∧ s.winner rcd (s.portAcct 65) s.cur = some 4095) ∧
      bits (s.cls.word 4095 13 * 2 ^ 32 + s.cls.word 4095 12) 62 2 = v ∧ s.is (F.UPL_CTL_PAUSE_TX_EN 0) = false ∧
      s.is (F.UPL_CTL_PAUSE_TX_EN 1) = false ∧ s.admits 0 = true ∧ s.tasks.length < 65536 ∧ s.domType 0 ≠ 1) ∧
    up.frames = [] ∧ (framed false).frames.map (fun f => f.parsed) = [false] := by decide +kernel

/-- A commit at the limit of 126 versions and beyond it; a rule that is not valid and one that is; a pass due; an entry one ns
before its time and at it. -/
theorem witness_ClassifierUpkeep :
    (∀ v ∈ [125, 126], let s := { up with
        cls := { up.cls with swept := (v, 0) }, tasks := [(2, { aTask (.delivered 0) (some 3) with vheld := true, version := 0 })] }.wr F.CLS_VER_CUR v
      s.mainOn = true ∧ s.passBusy = false ∧ ((s.rd F.CLS_VER_CUR + 1) % 256 + 256 - s.oldest) % 256 = v + 1) ∧
    (up.wr F.CLS_VER_CUR 7).passBusy = true ∧ bits (up.cls.word 0 15) 0 1 = 0 ∧ bits ((ruled 0).cls.word 4095 15) 0 1 = 1 ∧
    (∀ n ∈ [999999, 1000000], let e : Follow := ⟨65, [1, 2], 0, none, ⟨false, 0, 0, 0, 0⟩, 0⟩
      let s := { up with cls := { up.cls with follow := [e] }, acc := n * tUnit }.wr F.CLS_FRAG_TMO_MS 1
      s.cls.follow[0]? = some e ∧ (s.nowNs < e.made + max 1 (s.rd F.CLS_FRAG_TMO_MS) * 1000000 ↔ n = 999999)) ∧
    up.cls.follow.length ≤ 0 := by decide +kernel

/-- Node 12 on a good reference in state `st` and role `role`, `n` ns into cycle 1000 of 1,000 µs, its gap 30 µs and its splice
10 µs. -/
def node (st role n : Nat) (r : Ring) : State :=
  { up with ring := { r with times := some (1000, 30, 10) }, acc := (1000000000 + n) * tUnit } |>.wr F.TMR_REF_REF25_OK 1 |>.wr F.RING_ADDR_ADDR 12
    |>.wr F.RING_STATUS_STATE st |>.wr F.RING_STATUS_ROLE role
/-- A frame as it comes in. -/
def got (bytes : List Byte) : RingRx := ⟨bytes, false, 0, 0⟩
/-- Port 1 with given LINK. -/
def linked (v : Nat) (s : State) : State := s.wr (F.PORT_STATUS_LINK 1) v

/-- Port 1 in each LINK state; a splicing node and one that inserts by training; each interval one ns before its end and at it; a
loss of lock that is a splice, and those that begin 501 ns after S, 1 ns before it, or in a cycle without an open window; a splice's
that has lasted 9,999 ns and 10 µs; no reference. -/
theorem witness_RingLinks :
    (∀ v ∈ [0, 1, 2], (linked v (node 3 1 0 Ring.init)).rd (F.PORT_STATUS_LINK 1) = v) ∧
    (∀ d ∈ [true, false], let s := linked 1 (node 2 1 0 { Ring.init with direct := d, ports := [(0, { RPort.init with ack := true })] })
      s.rd F.RING_STATUS_STATE = 2 ∧ s.ring.direct = d ∧ (s.rport 0).ack = true) ∧
    (∀ n ∈ [99999999, 100000000], let s := node 3 1 0 { Ring.init with ports := [(1, { RPort.init with since := 1000000000 - n })] }
      s.rd F.RING_STATUS_STATE = 3 ∧ s.rd (F.PORT_STATUS_LINK 1) = 0 ∧
      ((s.rport 1).since + 100000000 ≤ s.nowNs ↔ n = 100000000)) ∧
    (∀ n ∈ [99999, 100000],
      let s := linked 2 (node 3 1 n { Ring.init with ports := [(1, { RPort.init with ackAt := some 1000000000 })] })
      (s.rport 1).ackAt = some 1000000000 ∧ (1000000000 + 100000 ≤ s.nowNs ↔ n = 100000)) ∧
    (∀ n ∈ [9999, 10000], let s := node 3 1 n { Ring.init with ports := [(1, { RPort.init with breakAt := some 1000000000 })] }
      (s.rport 1).breakAt = some 1000000000 ∧ (1000000000 + 10000 ≤ s.nowNs ↔ n = 10000)) ∧
    (∀ e ∈ ([(some 1000, 994500, true), (some 1000, 994501, false), (some 1000, 993999, false), (none, 994500, false)]
        : List (Option Nat × Nat × Bool)),
      let s := node 3 1 e.2.1 { Ring.init with opened := e.1 }
      let point := s.ringTimes.1 * 1000 - s.ringTimes.2.2 * 1000
      (s.rport 1).lost = none ∧ ((s.ring.opened = some (s.ringCycle % 2 ^ 32) ∧ point + 4000 ≤ s.inCycle ∧
        s.inCycle ≤ point + 4000 + 500) ↔ e.2.2 = true)) ∧
    (∀ n ∈ [9999, 10000], let s := node 3 1 n { Ring.init with ports := [(1, { RPort.init with lost := some 1000000000 })] }
      (s.rport 1).lost = some 1000000000 ∧ (1000000000 + 10000 ≤ s.nowNs ↔ n = 10000)) ∧
    (220 : BitVec 10).toNat ≤ 220 ∧ (node 3 1 0 Ring.init).bypassed 1 12 ≤ 3 ∧ (node 3 1 0 Ring.init).is F.TMR_REF_REF25_OK = true ∧
    up.is F.TMR_REF_REF25_OK = false ∧
    (node 3 1 0 Ring.init).is F.RING_STATUS_WRAP_W = false ∧ (node 1 1 0 Ring.init).rd F.RING_STATUS_STATE = 1 ∧
    up.rd F.RING_STATUS_STATE = 0 ∧ (node 3 1 0 Ring.init).recorder.frozen = false := by decide +kernel

/-- The splice point one ns before it and at it; quiet and late likewise; a node that can JOIN. -/
theorem witness_RingMembership :
    (∀ n ∈ [989999, 990000], ∀ st ∈ [0, 1, 2, 3, 4], let s := node st 0 n { Ring.init with window := some 1000 }
      s.ring.window = some (s.ringCycle % 2 ^ 32) ∧ s.supply.vsd = true ∧ s.supply.vio18 = true ∧
      s.is F.TMR_REF_REF25_OK = true ∧ (s.ringTimes.1 * 1000 ≤ s.inCycle + s.ringTimes.2.2 * 1000 ↔ n = 990000) ∧
      s.rd F.RING_STATUS_STATE = st ∧ s.ring.skip = 0 ∧ s.is F.ST_RING_CAL_BUSY = false ∧ s.scanning = false ∧ s.mainOn = true) ∧
    (∀ n ∈ [1999999, 2000000], let s := node 1 0 0 { Ring.init with since := 1000000000 - n }
      (s.rport 0).lock = false ∧ (s.rport 1).lock = false ∧ (s.ring.since + 2000000 ≤ s.nowNs ↔ n = 2000000)) ∧
    (∀ n ∈ [998999, 999000], let s := node 2 0 n { Ring.init with splice := 1000 }
      s.ring.direct = false ∧ ((s.ring.splice + 1) * (s.ringTimes.1 * 1000) ≤ s.ringNow + 1000 ↔ n = 999000)) ∧
    (let s := (node 0 0 0 Ring.init).wr F.DICT_STATE_STATE 1
     s.rd F.DICT_STATE_STATE = 1 ∧ bits 3 F.RING_CTL_ENABLE.lo F.RING_CTL_ENABLE.width = 1 ∧ bits 3 1 1 = 1 ∧
     1 ≤ s.raddr ∧ s.raddr ≤ 254) ∧ up.raddr = 0 ∧ bits 4 2 1 = 1 ∧ bits 4 1 1 = 0 := by decide +kernel

/-- A SWEEP of node 7 as master, one of node 12, and the first with a wrong CRC. -/
def sweepF (src : Nat) : List Byte := RFrame.bytes ⟨1, false, 255, src, 512, 1000, List.replicate 40 5⟩
theorem witness_RingCycle :
    (∀ role ∈ [1, 2, 3], ∀ st ∈ [3, 4], let s := (node st role 0 Ring.init).wr F.RING_CTL_ENABLE 1
      s.is F.RING_CTL_ENABLE = true ∧ s.ring.cycle ≠ some (s.ringNow / (s.ringTimes.1 * 1000)) ∧
      s.rd F.RING_STATUS_ROLE = role ∧ s.rd F.RING_STATUS_STATE = st ∧ s.ring.claims = 0 ∧ s.ring.beaten = false ∧
      s.ring.held = [] ∧ s.rd (F.PORT_STATUS_LINK 0) ≠ 1 ∧
      s.is F.RING_STATUS_WRAP_E = false) ∧
    (∀ n ∈ [969999, 970000], let s := node 3 3 n { Ring.init with sweepOut := true }
      (s.inGap = true ↔ n = 970000) ∧ s.ring.sweepOut = true) ∧
    (∀ n ∈ [2999999, 3000000],
      let s := (node 3 1 0 { Ring.init with heard := 1000000000 - n, timeAt := 1000000000 - n }).wr F.RING_CTL_MASTER_CAPABLE 1 |>.wr
        F.RING_STATUS_SYNCED 1
      s.is F.RING_CTL_MASTER_CAPABLE = true ∧ s.is F.RING_STATUS_SYNCED = true ∧ s.recorder.frozen = false ∧
      (s.ring.heard + 3 * (s.ringTimes.1 * 1000) ≤ s.nowNs ↔ n = 3000000)) ∧
    (∀ src ∈ [7, 12], headerOk (sweepF src) = true ∧ (RFrame.of (sweepF src)).type = 1 ∧ 1 < (RFrame.of (sweepF src)).hops ∧
      (RFrame.of (sweepF src)).src = src ∧ (RFrame.of (sweepF src)).dst = 255 ∧ (RFrame.of (sweepF src)).cycle = 1000 ∧
      ringCrcOk (sweepF src) = true) ∧
    ringCrcOk ((sweepF 7).set 20 0) = false ∧ headerOk ((sweepF 7).set 20 0) = true ∧ up.ring.processed = none ∧ up.mainOn = true ∧
    (let s := (node 3 3 0 { Ring.init with sweepOut := true, cycle := some 1000 }).wr F.RING_CYCLE_NUM_CYCLE 1000
     s.rd F.RING_CYCLE_NUM_CYCLE = 1000 ∧ s.raddr = 12 ∧ s.inGap = false ∧ s.ringNow / (s.ringTimes.1 * 1000) = 1000 ∧
     s.ring.cycle = some 1000 ∧ s.rd (F.PORT_STATUS_LINK 1) ≠ 1) := by decide +kernel

/-- Frames of each type: for another node, for node 12, out of hops, its own, with a wrong CRC, and not whole. -/
def rf (type dst src hops : Nat) (payload : List Byte) : List Byte := RFrame.bytes ⟨type, false, dst, src, hops, 1000, payload⟩
theorem witness_RingForwarding : let s := node 3 1 0 Ring.init
    2 ≤ s.rd F.RING_STATUS_STATE ∧ s.raddr = 12 ∧ s.is F.RING_STATUS_WRAP_E = false ∧ s.is F.RING_STATUS_WRAP_W = false ∧
    headerOk [1, 2, 3] = false ∧ s.rd (F.PORT_STATUS_LINK 0) ≠ 1 ∧ s.rd (F.PORT_STATUS_LINK 1) ≠ 1 ∧
    (node 1 1 0 Ring.init).rd F.RING_STATUS_STATE = 1 ∧
    (let b := (rf 2 9 7 2 []).set 0 0x22
     headerOk b = false ∧ 12 ≤ b.length ∧ RFrame.of b = ⟨2, false, 9, 7, 2, 1000, []⟩) ∧
    (∀ e ∈ ([(2, 9, 7, 2), (3, 9, 7, 512), (2, 12, 7, 2), (2, 9, 7, 1), (2, 9, 12, 2), (5, 255, 7, 2), (4, 255, 7, 512)] :
        List (Nat × Nat × Nat × Nat)),
      let b := rf e.1 e.2.1 e.2.2.1 e.2.2.2 (List.replicate 28 0)
      headerOk b = true ∧ ringCrcOk b = true ∧ ringCrcOk (b.set 20 1) = false ∧ headerOk (b.set 20 1) = true ∧
      RFrame.of b = ⟨e.1, false, e.2.1, e.2.2.1, e.2.2.2, 1000, List.replicate 28 0⟩) ∧
    (s.rport 0).removed = none ∧ (s.rport 1).linkAt = none ∧ byteAt (List.replicate 28 0) 21 % 2 = 0 ∧
    (∀ n ∈ [989000, 989001], let r := linked 2 (node 3 1 n Ring.init)
      r.rd (F.PORT_STATUS_LINK 1) = 2 ∧ (r.inCycle + 1000 + r.ringTimes.2.2 * 1000 ≤ r.ringTimes.1 * 1000 ↔ n = 989000)) := by decide +kernel

/-- A session key; a request of a service in a session, counter 5, tagged or not; a session of a role. -/
def aKey : List Byte := (List.range 32).map (fun i => BitVec.ofNat 8 (3 * i + 1))
def head_ (svc sess n : Nat) (tag : Byte) : List Byte :=
  [1] ++ beBytes 1 svc ++ [0, tag] ++ beBytes 2 sess ++ [0, 0, 0, 5, 0xAB, 0xCD] ++ beBytes 2 n ++ [0, 0]
def bare (svc sess : Nat) (body : List Byte) : EfMsg := ⟨3, 0, false, head_ svc sess body.length 0 ++ body, none⟩
def signed (svc : Nat) (body : List Byte) : EfMsg :=
  ⟨3, 0, false, (head_ svc 1 body.length 1 ++ body) ++ (hmac aKey (head_ svc 1 body.length 1 ++ body)).take 16, none⟩
def session (role fails : Nat) (opened : Bool) : Session := ⟨role, 3, 0, aKey, 0, opened, 0, fails⟩
/-- The engine in device state `st` of an open part, one message queued, session 1 of role 2. -/
def engine (st : Nat) (m : EfMsg) : State :=
  { up.wr F.DICT_STATE_STATE st |>.wr F.SYS_LC_STATE 2 with dict := { Dict.init with inbox := [m], sessions := [(1, session 2 0 false)] } }

theorem shaBlock_length {h b : List _} (hl : h.length = 8) : (shaBlock h b).length = 8 := by
  have f : ∀ (l v : List (BitVec 32)), v.length = 8 → (l.foldl shaRound v).length = 8 := by
    intro l
    induction l with
    | nil => exact fun _ h => h
    | cons a l ih => exact fun v _ => ih _ (by simp [shaRound])
  simp only [shaBlock, List.length_map, List.length_zip, f _ _ hl, hl, Nat.min_self]
theorem sha256_length (m : List Byte) : (sha256 m).length = 32 := by
  have f : ∀ (n : Nat) (h : List (BitVec 32)) (m : List Byte), h.length = 8 → (shaBlocks h m n).length = 8 := by
    intro n
    induction n with
    | zero => exact fun _ _ h => h
    | succ n ih => exact fun h m hl => ih _ _ (shaBlock_length hl)
  have g : ∀ l : List (BitVec 32), (l.flatMap (fun w => beBytes 4 w.toNat)).length = 4 * l.length := by
    intro l
    induction l with
    | nil => rfl
    | cons a l ih => rw [List.flatMap_cons, List.length_append, ih]; simp [beBytes]; omega
  simp only [sha256, g, f _ _ _ (show shaInit.length = 8 from rfl)]
theorem head_fields (b0 b1 b2 b3 b4 b5 b6 b7 : Byte) (t : List Byte) :
    let m : EfMsg := ⟨3, 0, false, (head_ 8 1 8 1 ++ [b0, b1, b2, b3, b4, b5, b6, b7]) ++ t, none⟩
    m.bodyLen = 8 ∧ m.tagged = true ∧ m.service = 8 ∧ m.session = 1 ∧ m.counter = 5 ∧ m.body = [b0, b1, b2, b3, b4, b5, b6, b7] ∧
    m.bytes.take 24 = head_ 8 1 8 1 ++ [b0, b1, b2, b3, b4, b5, b6, b7] ∧ m.bytes.drop 24 = t ∧
    (t.length = 16 → m.wellFormed = true) := by
  have e : head_ 8 1 8 1 = [1, 8, 0, 1, 0, 1, 0, 0, 0, 5, 0xAB, 0xCD, 0, 8, 0, 0] := by decide
  rw [e]
  refine ⟨?_, ?_, ?_, ?_, ?_, ?_, ?_, ?_, fun h => ?_⟩
  all_goals simp [*, EfMsg.bodyLen, EfMsg.tagged, EfMsg.service, EfMsg.session, EfMsg.counter, EfMsg.body, EfMsg.wellFormed, halfAt, byteAt,
    beNat]
/-- A NODE_RESET that names the part's own serial number is authentic. -/
theorem serial_reset (n : Nat) : let m := signed 8 (beBytes 4 0x01000000 ++ beBytes 4 n)
    m.wellFormed = true ∧ m.tagged = true ∧ m.service = 8 ∧ m.body = beBytes 4 0x01000000 ++ beBytes 4 n ∧
    (engine 2 m).auth m = some 2 := by
  have u : ∀ x : List Byte, ((hmac aKey x).take 16).length = 16 := fun x => by
    rw [List.length_take, hmac]; simp only [sha256_length]; decide
  generalize hb : (beBytes 4 0x01000000 ++ beBytes 4 n : List Byte) = b
  have l : b.length = 8 := by rw [← hb]; rfl
  match b, l with
  | [b0, b1, b2, b3, b4, b5, b6, b7], _ =>
    obtain ⟨h1, h2, h3, h4, h5, h6, h7, h8, h9⟩ := head_fields b0 b1 b2 b3 b4 b5 b6 b7
      ((hmac aKey (head_ 8 1 8 1 ++ [b0, b1, b2, b3, b4, b5, b6, b7])).take 16)
    refine ⟨h9 (u _), h2, h3, h6, ?_⟩
    have o : oget (engine 2 (signed 8 [b0, b1, b2, b3, b4, b5, b6, b7])).dict.sessions 1 = some (session 2 0 false) := by rfl
    simp only [signed, List.length_cons, List.length_nil] at o h1 h2 h4 h5 h7 h8 ⊢
    simp only [State.auth, h1, h2, h4, h5, h7, h8, o]
    simp [session]
theorem own_serial (n : Nat) : beNat ((beBytes 4 0x01000000 ++ beBytes 4 n).drop 4) = n % 2 ^ 32 := by
  have h : (beBytes 4 0x01000000 ++ beBytes 4 n).drop 4 = beBytes 4 n := rfl
  rw [h]; simp [beBytes, beNat]; omega

/-- Bodies: READ, DESCRIBE, WRITE of n bytes of a type. -/
def rBody (index sub : Nat) : List Byte := beBytes 2 index ++ beBytes 1 sub ++ [0, 0, 0, 0, 0]
def wBody (index sub type n v : Nat) : List Byte := beBytes 2 index ++ beBytes 1 sub ++ beBytes 1 type ++ beBytes 2 n ++ [0, 0] ++ beBytes n v
/-- The kind of entry that a lookup finds, or its result. -/
def found (x : Entry ⊕ Res) : Option Nat := match x with | .inl _ => none | .inr r => some r.code
/-- No engine that runs, none queued, a malformed message; a request that is not authentic, its session's first and third; during
standby entry a request that names an always-on entry, behind one that does not. -/
theorem witness_DictRequests : State.reset.mainOn = false ∧ up.dict.inbox = [] ∧ up.dict.replies = [] ∧
    (let s := { up with phase := .entering, dict := { Dict.init with inbox := [bare 1 0 (rBody 0x100 0), bare 1 0 (rBody 0x3010 0)] } }.wr
       F.DICT_STATE_STATE 5
     s.phase = .entering ∧ s.rd F.DICT_STATE_STATE = 5 ∧ (bare 1 0 (rBody 0x100 0)).alwaysOn = false ∧
     takeFirst EfMsg.alwaysOn s.dict.inbox = some (bare 1 0 (rBody 0x3010 0), [bare 1 0 (rBody 0x100 0)])) ∧
    (bare 1 0 (rBody 0x100 0)).wellFormed = true ∧ EfMsg.wellFormed ⟨3, 0, false, [], none⟩ = false ∧
    (∀ k ∈ [0, 2], let s := { up with dict := { Dict.init with inbox := [bare 1 1 (rBody 0x100 0)], sessions := [(1, session 2 k false)] } }
      s.auth (bare 1 1 (rBody 0x100 0)) = none ∧ (oget s.dict.sessions 1).map Session.fails = some k) ∧
    (let s := engine 2 (bare 1 0 (rBody 0x100 0))
     s.mainOn = true ∧ s.rd F.DICT_STATE_STATE ≠ 5 ∧ s.dict.pending.length < 8 ∧ s.auth (bare 1 0 (rBody 0x100 0)) = some 0) := by
  decide +kernel
/-- READ: an unknown entry, one that no role may read, one with a constant value; DESCRIBE of a known and an unknown entry. -/
theorem witness_DictRequests_read : let s := engine 2 (bare 1 0 (rBody 0x100 0))
    (bare 1 0 (rBody 0x100 0)).body.length = 8 ∧ halfAt (rBody 0x100 0) 0 = 0x100 ∧ byteAt (rBody 0x100 0) 2 = 0 ∧
    found (s.lookup false 0x7FF0 1) = some 1 ∧ found (s.lookup false 0x110 0) = none ∧
    (match s.lookup false 0x110 0 with | .inl e => meets e.rd 3 == false | _ => false) = true ∧
    (match s.lookup false 0x100 0 with
      | .inl e => e.back == .const 6 && !e.fw && typeSize e.type == some 1 && meets e.rd 0 | _ => false) = true ∧
    (bare 4 0 [1, 0, 0, 0]).wellFormed = true ∧ s.auth (bare 4 0 [1, 0, 0, 0]) = some 0 ∧ (bare 4 0 [1, 0, 0, 0]).body.length = 4 := by
  decide +kernel
/-- WRITE and posted WRITE in session 1: in CONFIG and not, of another type, out of range, and of a binding. -/
theorem witness_DictRequests_write : (∀ svc ∈ [2, 3], ∀ st ∈ [1, 2], let m := signed svc (wBody 0x7000 2 5 8 0x0100010100000000)
      let s := engine st m
      m.wellFormed = true ∧ m.service = svc ∧ m.body.length = 8 + halfAt m.body 4 ∧ s.auth m = some 2 ∧ s.armed 0 = false ∧
      (match s.lookup true 0x7000 2 with
        | .inl e => e.back == .bind 0 && !e.fw && meets e.wr 2 && (e.states.testBit st == (st == 1)) && e.type == 5 && e.lengthOk 8 &&
            e.rangeOk (m.body.drop 8) | _ => false) = true) ∧
    (match (engine 1 (bare 1 0 [])).lookup true 0x7000 1 with
      | .inl e => e.lengthOk 1 && e.type == 1 && !e.rangeOk [2] && e.rangeOk [1] && !e.fw | _ => false) = true := by decide +kernel
/-- OPEN of role 2 with its key provisioned, with none, and with 16 sessions; CLOSE; NODE_RESET of roles 0 and 2. -/
theorem witness_DictRequests_session : let m := bare 5 0 (2 :: List.replicate 19 0)
    let s := { engine 2 m with boot := { Boot.init with otp := [(0x78, 9)] } }
    m.wellFormed = true ∧ m.tagged = false ∧ m.body.length = 20 ∧ s.auth m = some 0 ∧ byteAt m.body 0 = 2 ∧
    s.sessionAdmitted 2 = true ∧ s.sessionAdmitted 3 = false ∧ s.dict.sessions.length < 16 ∧
    (s.dict.sessions.map Prod.fst).Pairwise (· < ·) ∧
    16 ≤ ((List.range 16).map (fun i => (i, session 2 0 true))).length ∧
    (signed 6 []).wellFormed = true ∧ (signed 6 []).tagged = true ∧ (signed 6 []).body = [] ∧
    (engine 2 (signed 6 [])).auth (signed 6 []) = some 2 ∧ (bare 8 0 [1, 0, 0, 0, 0, 0, 0, 0]).wellFormed = true ∧
    s.auth (bare 8 0 [1, 0, 0, 0, 0, 0, 0, 0]) = some 0 ∧ (bare 8 0 [1, 0, 0, 0, 0, 0, 0, 0]).body.length = 8 := by decide +kernel
theorem witness_DictRequests_reset : let m := signed 8 (beBytes 4 0x01000000 ++ beBytes 4 Config.serial)
    m.wellFormed = true ∧ (engine 2 m).auth m = some 2 ∧ m.body.length = 8 ∧ byteAt m.body 0 = 1 ∧
    beNat (m.body.drop 4) = Config.serial % 2 ^ 32 := by
  obtain ⟨h1, _, _, h4, h5⟩ := serial_reset Config.serial
  refine ⟨h1, h5, ?_, ?_, ?_⟩
  · rw [h4]; rfl
  · rw [h4]; decide
  · rw [h4]; exact own_serial _

/-- A command that the table allows, one that it allows where the device is quiescent, one that it does not allow. -/
theorem witness_DeviceStates : up.mainOn = true ∧ up.tasks = [] ∧
    (∀ st ∈ [1, 2, 3, 4], (up.wr F.DICT_STATE_STATE st).rd F.DICT_STATE_STATE = st) ∧ (∀ u, u < 2 → up.is (F.UPL_CTL_EN u) = false) ∧
    (∀ n, n < 48 → up.is (F.CL_CTL_EN n) = false) ∧ up.is F.RING_ETH_RX_EN = false ∧ State.reset.mainOn = false ∧
    up.recorder.frozen = false ∧ up.recorder.offered.length < 64 := by decide +kernel

/-- Receive map 63 has flipped, its one binding (1310.01 at byte 2); transmit map 63 with one binding (0100.00 at byte 3), sampled
for cycle 1000: at its lead time for the next, and one ns before it. -/
def mapped (st n : Nat) : State :=
  { node 3 1 n Ring.init with dict := { Dict.init with
      armed := [(63, true), (127, true)], flipped := [(63, true)], sampled := [(63, 1000)]
      binds := [(32 * 63, 0x1310 * 2 ^ 48 + 1 * 2 ^ 40 + 2 ^ 32 + 2 * 2 ^ 16), (32 * 127, 0x100 * 2 ^ 48 + 2 ^ 32 + 3 * 2 ^ 16)] } }
    |>.wr F.DICT_STATE_STATE st |>.wr F.DICT_PD_LEAD_US 100 |>.wr F.RING_CTL_ENABLE 1 |>.wr (F.PDM_TX_LEN 63) 4
theorem witness_ProcessData :
    (∀ st ∈ [1, 2], let s := mapped st 0
      s.mainOn = true ∧ s.rd F.DICT_STATE_STATE ≠ 5 ∧ tget (fun _ => false) s.dict.flipped 63 = true ∧ s.armed 63 = true ∧
      ((s.bindings 63).filter (·.en)).map (fun b => (s.boundEntry b).map (fun e => (e.states.testBit st, typeSize e.type))) =
        [some (st == 1, some 4)] ∧ s.bad = [] ∧ s.mapBank false 63 (s.rd (F.PDM_RX_BANK_FRONT 63)) + 2 + 4 ≤ 0x80000) ∧
    (∀ n ∈ [899999, 900000], let s := mapped 2 n
      s.armed 127 = true ∧ s.is F.RING_CTL_ENABLE = true ∧
      (tget (fun _ => 0) s.dict.sampled 63 ≠ (s.ringNow + s.rd F.DICT_PD_LEAD_US * 1000) / (s.ringTimes.1 * 1000) ↔ n = 900000) ∧
      s.is (F.PDM_TX_BANK_PENDING 63) = false ∧ (s.wr (F.PDM_TX_BANK_PENDING 63) 1).is (F.PDM_TX_BANK_PENDING 63) = true ∧
      ((s.bindings 127).filter (·.en)).map (fun b => (b.pos, (s.boundEntry b).map (fun e => (e.back == .const 6, typeSize e.type)))) =
        [(3, some (true, some 1))] ∧ (s.mapWindow true 63).2 = 4 ∧
      s.mapBank true 63 (1 - s.rd (F.PDM_TX_BANK_FRONT 63)) + 4 ≤ 0x80000) ∧
    up.armed 63 = false ∧ tget (fun _ => false) up.dict.flipped 63 = false := by decide +kernel

/-- The ROM serves recovery. -/
def recov : State :=
  { up with boot := { up.boot with serving := true } }.wr F.DICT_STATE_STATE 4 |>.wr F.SYS_BOOT_STATUS 3

/-- Queues with room and full; sessions and forward items one ns before their time and at it; a forwarded request's answer
in its turn and behind another. -/
theorem witness_DictTransport : up.mainOn = true ∧ State.reset.mainOn = false ∧ up.dict.inbox.length < 32 ∧
    up.romServes = false ∧ recov.romServes = true ∧ up.dict.leaving = [] ∧
    (∀ a ∈ [After.standby, .reset 1], ∀ n ∈ [0, 1],
      { up with dict := { Dict.init with pending := [[1], [2]], leaving := [⟨a, 3, n + 1⟩] } }.dict.leaving = [⟨a, 3, n + 1⟩]) ∧
    (let mosi := beBytes 2 16 ++ (bare 6 0 []).bytes
     2 ≤ mosi.length ∧ halfAt mosi 0 = mosi.length - 2 ∧ 16 ≤ halfAt mosi 0 ∧
     (EfMsg.mk 3 0 false ((mosi.drop 2).take 16) none).service = 6 ∧ (EfMsg.mk 3 0 false ((mosi.drop 2).take 16) none).tagged = false) ∧
    32 ≤ (List.replicate 32 (bare 6 0 [])).length ∧ ([0, 5, 1] : List Byte).length - 2 < halfAt [0, 5, 1] 0 ∧
    up.dict.pending.length < 8 ∧
    (∀ n ∈ [4999999999, 5000000000], ∀ o ∈ [false, true],
      let s := { up with dict := { Dict.init with sessions := [(7, session 1 0 o)] }, acc := n * tUnit }.wr F.DICT_SESS_CFG_IDLE_S 5
      oget s.dict.sessions 7 = some (session 1 0 o) ∧ (0 + 5000000000 ≤ s.nowNs ↔ n = 5000000000) ∧
      (0 + max 1 (s.rd F.DICT_SESS_CFG_IDLE_S) * 1000000000 ≤ s.nowNs ↔ n = 5000000000)) ∧
    (∀ n ∈ [999999, 1000000], let x : FwdItem := ⟨15, 3, 2, 0, 0x1500, 2, 2, 1, 0, 0, some (bare 2 0 (wBody 0x1500 2 2 1 5)), 0⟩
      ∀ r ∈ [[], [Reply.mk 3 0 (some 14) [] After.nothing]],
      let s := { up with
        dict := { Dict.init with fwd := [x], replies := r ++ [Reply.mk 3 0 (some 15) [] After.nothing] }, acc := n * tUnit }.wr
          F.DICT_FWD_TMO_MS 1
      s.dict.fwd = [x] ∧ s.dict.replies = r ++ [Reply.mk 3 (bare 2 0 (wBody 0x1500 2 2 1 5)).peer (some x.slot) [] After.nothing] ∧
      (bare 2 0 (wBody 0x1500 2 2 1 5)).path = 3 ∧ (bare 2 0 (wBody 0x1500 2 2 1 5)).service = 2 ∧
      s.dict.fwd.find? (fun x => x.slot == 15) = some x ∧ (x.at_ + max 1 (s.rd F.DICT_FWD_TMO_MS) * 1000000 ≤ s.nowNs ↔ n = 1000000) ∧
      x.serial % 16 * 16 + x.slot = bits 0x3F 0 8 ∧ bits 0x3F 8 8 = 0 ∧ s.dict.pending.length < 8) ∧
    oget up.dict.sessions 7 = none := by decide +kernel

/-- A decision one ns before it may come and at it; floors that give 900 mV and 905 mV; both modes; every bound of the envelope;
125.0 °C and one tenth less; STANDBY; V_SAFE not yet measured; power off and tripped. -/
theorem witness_SupplyLoop :
    (∀ n ∈ [99999, 100000], let s := { up with loop := { up.loop with last := some 0 }, acc := n * tUnit }.wr F.TMR_REF_STOPPED 0
      s.mainOn = true ∧ s.vcoreOn = true ∧ s.is F.PWR_THERM_STAT_TRIPPED = false ∧ s.is F.TMR_REF_STOPPED = false ∧
      s.loop.last = some 0 ∧
      (0 + 100000 ≤ s.nowNs ↔ n = 100000)) ∧
    min 1023 ((880 + 20 + 4) / 5 * 5) = 900 ∧ 900 < min 1023 ((881 + 20 + 4) / 5 * 5) ∧
    (∀ m ∈ [0, 1], (up.wr F.PWR_LOOP_CTL_MODE m).is F.PWR_LOOP_CTL_MODE = (m == 1)) ∧ up.loop.last = none ∧
    { up with phase := .standby }.phase = .standby ∧ up.phase ≠ .standby ∧
    (let temps : List (BitVec 16) := List.replicate 13 250 ++ [1250]
     temps.length = 14 ∧ temp16 ((temps[13]?).getD 0).toNat = 1250 ∧
     ∀ j, j < 14 → temp16 ((temps[j]?).getD 0).toNat ≤ temp16 ((temps[13]?).getD 0).toNat) ∧ temp16 1249 < 1250 ∧
    up.rd F.PWR_VSAFE_MV = 0 ∧ { up with vcoreOn := false }.vcoreOn = false ∧ (up.wr F.TMR_REF_STOPPED 0).is F.TMR_REF_STOPPED = false ∧
    up.is F.TMR_REF_STOPPED = true ∧ up.host.i2c = none ∧ State.reset.vcoreOn = false ∧ (up.th 192).life ≠ .blocked ∧
    (up.th 193).life ≠ .blocked ∧
    (∀ c ∈ [1, 2], let s := up.wr F.PWR_THERM_STAT_TRIPPED 1 |>.wr F.PWR_THERM_STAT_CAUSE c |>.wr (F.PWR_TEMP_TEMP 13) 1250
      s.is F.PWR_THERM_STAT_TRIPPED = true ∧ s.rd F.PWR_THERM_STAT_CAUSE = c ∧ 1250 ≤ temp16 (s.rd (F.PWR_TEMP_TEMP 13))) := by
  decide +kernel

/-- Entry asked for, its answer gone or waiting on the ring, in a reply slot not yet read, or with a host; a drained device and
one whose tasks are over; two threads of two tiles that drain, one tile's timeout past; a wake that latches; STBY_OUT one ns before its
2 ms and at them. -/
theorem witness_Standby :
    (∀ l ∈ [[], [Leaving.mk .standby 1 1], [Leaving.mk .standby 2 3], [Leaving.mk .standby 3 1]],
      let s := { up with standby := { up.standby with asked := true }, dict := { Dict.init with leaving := l } }
        |>.wr F.DICT_RPL_SIZE_SIZE 8 |>.wr F.DICT_RPL_WR_WR 6 |>.wr F.DICT_RPL_RD_RD 4
      s.standby.asked = true ∧ s.mainOn = true ∧ s.dict.leaving = l ∧ s.dict.replies = [] ∧ s.ring.held.isEmpty = true ∧
      s.rd F.DICT_RPL_SIZE_SIZE = 8 ∧ s.rd F.DICT_RPL_WR_WR = 6 ∧ s.rd F.DICT_RPL_RD_RD = 4) ∧
    (6 + 8 - 4) % 8 ≤ (3 + 8 - 4) % 8 ∧ ¬ (6 + 8 - 4) % 8 ≤ (5 + 8 - 4) % 8 ∧ up.standby.asked = false ∧
    (let p : Posted := ⟨0x1000, 8, dat 5, 0, 0⟩
     let x := fun (s : State) (t : Nat) => s.setTh t { Thread.init t with life := .running, posted := [p] }
     let s := x (x { up with phase := .entering, standby := { up.standby with posted := some 0 }, acc := 2000 * tUnit } 0) 32
       |>.wr (F.TILE_POSTED_TMO_TMO 0) 2 |>.wr (F.TILE_POSTED_TMO_TMO 1) 3
     s.standby.posted = some 0 ∧ (s.th 32).posted = [p] ∧ (s.th 0).posted = [p] ∧ (s.th 0).life ≠ .blocked ∧ (s.th 0).perr = none ∧
     0 + max 1 (s.rd (F.TILE_POSTED_TMO_TMO (0 / 32))) * 1000 ≤ s.nowNs ∧
     s.nowNs < 0 + max 1 (s.rd (F.TILE_POSTED_TMO_TMO (32 / 32))) * 1000 ∧ twf Thread.init s.threads = true) ∧
    (let s := { up with phase := Phase.entering }
     s.phase = .entering ∧ s.rd F.RING_STATUS_STATE ≠ 4 ∧ s.standby.posted = none ∧ s.tasks = [] ∧ s.threads = [] ∧
     (s.wr F.PWR_WAKE_EN_PIN 1).is F.PWR_WAKE_EN_PIN = true ∧ s.standby.wake = false) ∧
    (∀ n ∈ [4999999, 5000000],
     let s := { up with
       phase := .entering, standby := { up.standby with drainAt := some 0 }, tasks := [(2, aTask (.delivered 0) (some 3))],
       acc := n * tUnit }.wr F.PWR_SBY_CTL_DRAIN_MS 5
     s.tasks ≠ [] ∧ s.standby.drainAt = some 0 ∧ (0 + s.rd F.PWR_SBY_CTL_DRAIN_MS * 1000000 ≤ s.nowNs ↔ n = 5000000)) ∧
    (∀ n ∈ [1999999, 2000000],
      let s := { up with phase := .standby, standby := { up.standby with out := true, wake := true }, acc := n * tUnit }
      s.standby.out = true ∧ s.standby.wake = true ∧ (s.standby.outAt + 2000000 ≤ s.nowNs ↔ n = 2000000)) := by decide +kernel

/-- Pulses of 99 ns and 1 µs; the watchdog, a node reset and a life-cycle reset one unit before their time and at it; a core's
ENTRY in the ROM and elsewhere; held in reset and up. -/
theorem witness_Resets : (99 : BitVec 32).toNat < 100 ∧ 1000 ≤ (1000 : BitVec 32).toNat ∧
    (∀ n ∈ [0, 1], let s := { up with wdt := 5 * 1000000 * 64000000000 - 1 + n }.wr F.SYS_WDT_CTL_EN 1 |>.wr F.SYS_WDT_CTL_TIMEOUT_MS 5
      s.mainOn = true ∧ s.is F.SYS_WDT_CTL_EN = true ∧ (max 1 (s.rd F.SYS_WDT_CTL_TIMEOUT_MS) * 1000000 * 64000000000 ≤ s.wdt ↔ n = 1)) ∧
    (∀ n ∈ [99999, 100000], let s := { up with dict := { Dict.init with reset := [(2, 0)] }, acc := n * tUnit }
      s.dict.reset = (2, 0) :: [] ∧ (0 + 100000 ≤ s.nowNs ↔ n = 100000)) ∧
    (∀ n ∈ [999999, 1000000], let s := { up with boot := { Boot.init with lcAt := some 0 }, acc := n * tUnit }
      s.boot.lcAt = some 0 ∧ (0 + 1000000 ≤ s.nowNs ↔ n = 1000000)) ∧
    up.dict.reset = [] ∧ up.boot.lcAt = none ∧ (0xA0A0 : BitVec 32).toNat % 65536 = 0xA0A0 ∧
    (up.wr F.DICT_STATE_STATE 1).rd F.DICT_STATE_STATE = 1 ∧ up.txq = [] ∧ up.boot.romHalt = false ∧ bits 3 0 1 = 1 ∧ bits 3 1 1 = 1 ∧
    State.reset.phase = .held ∧ State.reset.supply.vsd = true ∧ State.reset.supply.vio18 = true ∧
    up.phase ≠ .held ∧ up.phase ≠ .standby := by decide +kernel
/-- A release with the supplies in range and out of it, VCORE on and off, hot, halted, and in STANDBY with a wake and without; a
core that is free of the ROM and one that is not; a thread that drains. -/
theorem witness_Resets_release :
    (∀ p ∈ [Phase.held, .standby], ∀ on ∈ [false, true], ∀ hot ∈ [false, true], ∀ h ∈ [false, true],
      let s := { State.reset with
        phase := p, vcoreOn := on, loop := { State.reset.loop with hot := hot, halted := h }
        standby := { State.reset.standby with wake := h } }
      s.phase = p ∧ s.vcoreOn = on ∧ s.loop.hot = hot ∧ s.loop.halted = h ∧ s.standby.wake = h) ∧
    { State.reset with supply := ⟨true, false, true, true, true⟩ }.supply.vsd = false ∧
    (∀ f ∈ [false, true], { up with boot := { up.boot with free1 := f } }.boot.free1 = f) ∧
    ((up.modTh 5 (fun x => { x with wait := some (.drain .done (some 7)) })).th 5).wait = some (.drain .done (some 7)) := by
  decide +kernel

/-- An image of version 5 for key slot 0, signed; a part in DEVELOPMENT whose slot 0 holds the hash of its key; a provisioning
record (all made outside the model, with FIPS 186-4 and RFC 2104 as Python computes them). -/
def image : List Byte := beBytes 224 0x53565849000100800000000500000001000000a0010000000000000000000104f9ebedceb69ab0a5223a04f7055404405e66b073e2929fb798a4a9a96b26ecea00aa2ee7ca58381eb1e2ce699604b38b1f693b30c564749e4d9142ab3b8f06c60000000000000000000000000000000000000000000000000000000000000000000000000000010000000010000000900102030405060708090a0b0c0d0e0f1072262deb5407efdaa4fa6696025f22a2b023662118e1c9f3a0a441990d1b4b95bead0ecef352d912cd5340d04e0b3eca907777cfaf439f6c3597deac9d026eb7
def provided : List Byte := beBytes 300 (0x535658500000012c3a68e20e4b6874f45d948edf43f94274b8ebf40085d55324613578b85d2ff25e * 2 ^ 2080 +
  0x1000000010010000100200001003000010040000100500001006000010070000 * 2 ^ 1008 +
  0x99271f41b60b57c1ef4864a912c9c64fa5f63ca3dfcfcd911690457b1c3eac34)
def keyed (s : State) : State := { s with boot := { s.boot with otp := [(0x40, 0x3a68e20e), (0x41, 0x4b6874f4), (0x42, 0x5d948edf),
  (0x43, 0x43f94274), (0x44, 0xb8ebf400), (0x45, 0x85d55324), (0x46, 0x613578b8), (0x47, 0x5d2ff25e)] } } |>.wr F.SYS_LC_STATE 1
/-- The image and the same of version 9, whose signature then fails; neither slot good; commands of the running slot; recovery,
its last byte written and one beyond. -/
theorem witness_BootSlots :
    (let s := keyed { up with phase := .boot }
     s.phase = .boot ∧ s.rd F.DICT_STATE_STATE = 0 ∧ (s.th 192).life ≠ .halted ∧ s.is F.SYS_LC_FAULT = false ∧
     s.field.flush = none ∧ s.rd F.SYS_LC_PENDING = 0 ∧ s.exhausted 0 = false ∧ s.exhausted 1 = false ∧
     s.imageFail false image = 0 ∧ s.imageFail false (image.set 11 9) = 6 ∧ quadOf image 8 < quadOf (image.set 11 9) 8 ∧
     s.imageFail false [] = 1 ∧ (s.wr F.SYS_BOOT_TRY_TRY_A 3).exhausted 0 = true) ∧
    up.rd F.SYS_BOOT_STATUS ≠ 1 ∧ (up.wr F.SYS_BOOT_STATUS 1).rd F.SYS_BOOT_STATUS = 1 ∧
    recov.mainOn = true ∧ recov.rd F.DICT_STATE_STATE = 4 ∧ recov.rd F.SYS_BOOT_STATUS = 3 ∧ recov.boot.serving = true ∧ (recov.th 192).life ≠ .halted ∧
    (let data : List Byte := [0, 7, 0xFF, 0xFE, 0, 2, 8, 9]
     quadOf data 0 + halfAt data 4 ≤ 0x80000 ∧ 6 + halfAt data 4 ≤ data.length ∧ recov.bad = []) ∧
    0x80000 < quadOf [0, 7, 0xFF, 0xFE, 0, 3, 8, 9, 7] 0 + halfAt [0, 7, 0xFF, 0xFE, 0, 3, 8, 9, 7] 4 := by decide +kernel
theorem readWords_length (n : Nat) : ∀ (s : State) (k : Nat), (s.readWords k n).2.bytes.length = 8 * n := by
  induction n with
  | zero => intro s k; rfl
  | succ n ih =>
    intro s k
    rw [State.readWords]
    split
    · simp [ih]; omega
    · simp [ih, valBytes]; omega
theorem readWords_good {s : State} (h : s.bad = []) (n : Nat) : ∀ k, (s.readWords k n).1 = s := by
  induction n with
  | zero => intro k; rfl
  | succ n ih =>
    intro k
    rw [State.readWords]
    split
    · exact ih _
    · rw [State.readWord_good _ _ _ (by rw [h]; rfl)]; exact ih _
theorem readWords_add {s : State} (h : s.bad = []) (n m : Nat) :
    ∀ k, ∃ r, (s.readWords k (n + m)).2.bytes = (s.readWords k n).2.bytes ++ r := by
  induction n with
  | zero => exact fun k => ⟨_, rfl⟩
  | succ n ih =>
    intro k
    obtain ⟨r, e⟩ := ih (k + 8)
    refine ⟨r, ?_⟩
    rw [Nat.succ_add, State.readWords, State.readWords]
    split
    · simp [e]
    · simp only [State.readWord_good _ _ _ (show tget eccDefault s.bad k = .good by rw [h]; rfl), e, List.append_assoc]
theorem readBytes_words (s : State) (k n : Nat) (hk : k % 8 = 0) (hn : 0 < n) :
    (s.readBytes k (8 * n)).1 = (s.readWords k n).1 ∧ (s.readBytes k (8 * n)).2.bytes = (s.readWords k n).2.bytes := by
  have w : wordKey k = k := by simp only [wordKey]; omega
  have c : (k + 8 * n - 1) / 8 - k / 8 + 1 = n := by omega
  rw [State.readBytes, if_neg (by omega), w, c]
  exact ⟨rfl, by simp [List.take_of_length_le, readWords_length]⟩
/-- A read of management memory from its start, where no word holds an error. -/
theorem mgmtGet_start {s : State} (h : s.bad = []) (n m l : Nat) (e : l = 8 * (n + m)) (b : l ≤ 0x80000) (p : 0 < n + m) :
    (s.mgmtGet 0 l).1 = s ∧ ∃ r, (s.mgmtGet 0 l).2 = (s.readWords mbusWindow n).2.bytes ++ r := by
  have w := readBytes_words s mbusWindow (n + m) rfl p
  rw [← e] at w
  have g : s.mgmtGet 0 l = ((s.readBytes mbusWindow l).1, (s.readBytes mbusWindow l).2.bytes) := by
    cases x : s.readBytes mbusWindow l with
    | mk _ _ => simp only [State.mgmtGet, Nat.zero_add, Nat.add_zero, if_pos b, x]
  rw [g, w.1, w.2]
  exact ⟨readWords_good h _ _, readWords_add h n m _⟩
/-- What follows an image does not count. -/
theorem image_append (s : State) (m : Bool) (r : List Byte) : s.imageFail m (image ++ r) = s.imageFail m image := by
  have l : image.length = 224 := by decide +kernel
  have t : imgTotal image = 160 := by decide +kernel
  have c : imgCount image = 1 := by decide +kernel
  have f : ∀ i n, i + n ≤ 224 → ((image ++ r).drop i).take n = (image.drop i).take n := by
    intro i n h
    rw [List.drop_append_of_le_length (by omega), List.take_append_of_le_length (by simp [l]; omega)]
  have g : ∀ i, i < 224 → byteAt (image ++ r) i = byteAt image i := by
    intro i h; simp [byteAt, List.getElem?_append_left (l ▸ h)]
  have f0 : (image ++ r).take 160 = image.take 160 := f 0 160 (by decide)
  have h1 : imgTotal (image ++ r) = imgTotal image := by simp only [imgTotal, quadOf, f 16 4 (by decide)]
  have h2 : imgCount (image ++ r) = imgCount image := g 20 (by decide)
  have h3 : imgKey (image ++ r) = imgKey image := g 21 (by decide)
  have h4 : imgSec (image ++ r) = imgSec image := by simp only [imgSec, quadOf, f 12 4 (by decide)]
  have h5 : imgEntry (image ++ r) = imgEntry image := by simp only [imgEntry, f 24 8 (by decide)]
  have h6 : imgSegs (image ++ r) = imgSegs image := by
    simp only [imgSegs, h2, c, quadOf]
    simp [List.range_succ, f 128 8 (by decide), f 136 4 (by decide), f 140 4 (by decide)]
  have h7 : imgCheck1 (image ++ r) = imgCheck1 image := by
    simp only [imgCheck1, h1, h2, t, halfAt, g 4 (by decide), g 5 (by decide), g 6 (by decide), g 7 (by decide), quadOf, f 0 4 (by decide),
      List.length_append, l]
    rw [decide_eq_decide.2 (show 160 + 64 ≤ 224 + r.length ↔ 160 + 64 ≤ 224 by omega),
      decide_eq_decide.2 (show 128 ≤ 224 + r.length ↔ 128 ≤ 224 by omega)]
  simp only [State.imageFail, h7, State.imgCheck2, h3, f 32 64 (by decide), State.imgCheck3, h4, imgCheck4, h6, h2, h1, imgCheck5, h5,
    imgCheck6, t, f 32 32 (by decide), f 64 32 (by decide), f0, f 160 32 (by decide), f 192 32 (by decide)]
/-- The image in management memory passes the checks of recovery. -/
theorem witness_BootSlots_recovery : let s := (keyed recov).portWrite mbusWindow image
    s.mainOn = true ∧ s.rd F.DICT_STATE_STATE = 4 ∧ s.rd F.SYS_BOOT_STATUS = 3 ∧
    (s.mgmtGet 0 0x80000).1.imageFail true (s.mgmtGet 0 0x80000).2 = 0 := by
  have b : ((keyed recov).portWrite mbusWindow image).bad = [] := by decide +kernel
  have d : (((keyed recov).portWrite mbusWindow image).readWords mbusWindow 28).2.bytes = image := by decide +kernel
  obtain ⟨e, r, f⟩ := mgmtGet_start b 28 65508 0x80000 (by omega) (by omega) (by omega)
  refine ⟨by decide +kernel, by decide +kernel, by decide +kernel, ?_⟩
  rw [e, f, d, image_append]; decide +kernel
/-- Empty management memory does not. -/
theorem witness_BootSlots_recovery_fails : (recov.mgmtGet 0 0x80000).1.imageFail true (recov.mgmtGet 0 0x80000).2 ≠ 0 := by
  obtain ⟨e, r, f⟩ := mgmtGet_start (show recov.bad = [] by decide +kernel) 1 65535 0x80000 (by omega) (by omega) (by omega)
  rw [e, f, show (recov.readWords mbusWindow 1).2.bytes = [0, 0, 0, 0, 0, 0, 0, 0] by decide +kernel]
  simp [State.imageFail, imgCheck1, quadOf, beNat]

/-- Each permitted command, and one that is not; fuses that take a word; a transition that waits; REVOKE with another slot
live and without; ROLLBACK_INC below and at SEC_VERSION; a record that provides. -/
theorem witness_LifeCycle : up.scanning = false ∧
    (∀ lc ∈ [0, 1, 2, 3, 4], (up.wr F.SYS_LC_STATE lc).rd F.SYS_LC_STATE = lc) ∧ up.lcPending = 0 ∧ up.supply.pfailHigh = true ∧
    up.supply.fuseOk = true ∧ (∀ k ∈ [2, 3, 4], ∀ e ∈ three (intentAt k) (intentWord k), up.otpWord e.1 ||| e.2 = e.2) ∧
    (let s := { up with
       phase := .boot, boot := { Boot.init with
         otp := three 0x20 (intentWord 1) ++ three 0x23 (doneWord 1) ++ three 0x26 (intentWord 2) ++ [(0x40, 5)] } }
     s.booting = true ∧ s.lcPending = 2 ∧ s.boot.waited = false ∧ s.slotLive 0 = true ∧
     (∀ e ∈ three (intentAt 2) (intentWord 2) ++ three (doneAt 2) (doneWord 2), s.otpWord e.1 ||| e.2 = e.2)) ∧
    (∀ n, n < 4 → up.slotLive n = false) ∧ (keyed up).slotLive 0 = true ∧ up.boot.sec ≤ up.rollback ∧
    (let s := { up with boot := { Boot.init with sec := 1, otpOp := some (0x62, 1) } }
     s.rollback < s.boot.sec ∧ s.boot.otpOp = some (0x62, 1) ∧ s.otpWord 0x62 ||| 1 = 1) ∧ up.boot.otpOp = none ∧
    up.is F.SYS_OTP_STAT_BUSY = false ∧ (up.wr F.SYS_OTP_STAT_BUSY 1).is F.SYS_OTP_STAT_BUSY = true ∧
    up.rd F.SYS_LC_STATE = 0 ∧ recordOk provided = true ∧ recordOk [] = false ∧
    (∀ e ∈ three 0x20 0x4C490001 ++ provWords provided ++ three 0x23 0x4C440001, up.otpWord e.1 ||| e.2 = e.2) ∧
    (up.wr F.SYS_LC_STATE 1).dbgLevel = 0 ∧ up.dbgLevel ≠ 0 := by decide +kernel

/-- Records that wait: a trigger and none, the count at its end and before it, a full ring; a flush enabled, its header page
erased and not. -/
theorem witness_Recorder :
    (∀ n ∈ [none, some 1, some 2], let s := { up with recorder := ⟨[⟨0x20, 5, 7⟩], [⟨1000, ⟨1, 2, 3⟩⟩], n, false⟩ }
      s.recorder.offered = [⟨0x20, 5, 7⟩] ∧ s.recorder.frozen = false ∧ s.recorder.post = n ∧
      s.recorder.stored[0]? = some ⟨1000, ⟨1, 2, 3⟩⟩ ∧ s.recorder.stored[1]? = none) ∧
    up.isTrigger ⟨0x01, 0x02, 0⟩ = false ∧
    (up.wr F.REC_CTL_TRIG_PFAIL 1).isTrigger ⟨0x00, 0x38, 0⟩ = true ∧ up.recorder.offered = [] ∧ up.mainOn = true ∧
    4096 ≤ (List.replicate 4096 (⟨1, ⟨1, 2, 3⟩⟩ : Stored)).length ∧
    (∀ e ∈ [0, 1], ∀ f ∈ [false, true],
      let s := { up with recorder := ⟨[], [], none, f⟩ }.wr F.REC_FLUSH_EN e
      s.is F.REC_FLUSH_EN = (e == 1) ∧ s.recorder.frozen = f ∧ s.field.flush = none ∧
      { s.field with flush := some ⟨[⟨1, ⟨1, 2, 3⟩⟩], 5, 0⟩ }.flush = some ⟨[⟨1, ⟨1, 2, 3⟩⟩], 5, 0⟩) := by decide +kernel

/-- FIFOs with one place left and full; the controller idle and busy. -/
theorem witness_HostPorts :
    (∀ n ∈ [63, 64], ∀ on ∈ [0, 1],
      let s := { up with host := ⟨List.replicate n 1, List.replicate n 2, some (5, [1, 2], 3), on == 1, []⟩ }.wr
        F.UART_CTL_EN on |>.wr F.I2C_STAT_BUSY on |>.wr F.I2C_CTL_EN 1
      s.mainOn = true ∧ s.is F.UART_CTL_EN = (on == 1) ∧ s.host.tx.length = n ∧ s.host.rx.length = n ∧
      s.is F.I2C_STAT_BUSY = (on == 1) ∧ s.is F.I2C_CTL_EN = true ∧ s.host.i2c = some (5, [1, 2], 3) ∧ s.host.pmbDue = (on == 1) ∧
      (s.wr F.UART_CTL_PARITY (1 + on)).rd F.UART_CTL_PARITY = 1 + on) ∧ up.host.tx = [] ∧ up.rd F.UART_CTL_PARITY = 0 ∧
    up.host.i2c = none := by decide +kernel

theorem beNat_append (l : List Byte) (b : Byte) : beNat (l ++ [b]) = beNat l * 256 + b.toNat := by simp [beNat]
theorem beBytes_beNat : ∀ (n : Nat) (l : List Byte), l.length = n → beBytes n (beNat l) = l ∧ beNat l < 256 ^ n
  | 0, [], _ => ⟨rfl, by decide⟩
  | n + 1, l, h => by
    have e : l ≠ [] := fun e => by simp [e] at h
    obtain ⟨a, b⟩ := beBytes_beNat n l.dropLast (by simp [h])
    generalize l.getLast e = x, List.dropLast_concat_getLast e = q at *
    have hx := x.isLt
    rw [← q, beNat_append]
    refine ⟨?_, by rw [Nat.pow_succ]; omega⟩
    rw [beBytes, show (beNat l.dropLast * 256 + x.toNat) / 256 = beNat l.dropLast by omega, a,
      show BitVec.ofNat 8 (beNat l.dropLast * 256 + x.toNat) = x from BitVec.eq_of_toNat_eq (by simp; omega)]
theorem hmac_length (k m : List Byte) : (hmac k m).length = 32 := by rw [hmac]; exact sha256_length _
/-- Eight bytes as the 64-bit operand of a RESPONSE. -/
theorem word_bytes {l : List Byte} (h : l.length = 8) : beBytes 8 (BitVec.ofNat 64 (beNat l)).toNat = l := by
  obtain ⟨a, b⟩ := beBytes_beNat 8 l h
  rw [BitVec.toNat_ofNat, Nat.mod_eq_of_lt (Nat.lt_of_lt_of_eq b (by decide)), a]
/-- The right response to a challenge. -/
theorem response_ok (s : State) (k l : Nat) : s.unlockTag k l =
    beBytes 8 (BitVec.ofNat 64 (beNat ((s.unlockTag k l).take 8))).toNat ++
    beBytes 8 (BitVec.ofNat 64 (beNat ((s.unlockTag k l).drop 8))).toNat := by
  have h : (s.unlockTag k l).length = 16 := by rw [State.unlockTag, List.length_take, hmac_length]; decide
  rw [word_bytes (by rw [List.length_take, h]; decide), word_bytes (by rw [List.length_drop, h]), List.take_append_drop]

/-- The port locked and unlocked, admitted and not, locked out; a nonce open; a memory word, a register and no target; the
last thread and one beyond; a thread in each state. -/
theorem witness_DebugPort : up.scanning = false ∧ up.locate 192 A.SYS_LC_CMD = .mbus A.SYS_LC_CMD ∧ State.reset.mainOn = false ∧ (up.wr F.SYS_LC_STATE 1).dbgLevel = 0 ∧ up.mainOn = true ∧ up.dbgLevel ≠ 0 ∧
    (up.wr F.SYS_LC_STATE 1).dbgAdmits 1 = true ∧ (up.wr F.SYS_LC_STATE 1).dbgAdmits 2 = false ∧
    up.is F.SYS_DBG_STAT_LOCKOUT = false ∧ (up.wr F.SYS_DBG_STAT_LOCKOUT 1).is F.SYS_DBG_STAT_LOCKOUT = true ∧
    up.locate 192 0x700000000 = .fail 1 ∧ up.locate 192 0x110100000 = .cell (.tile 1) 0x10100000 ∧ up.locate 192 0x10000000 = .cell .rom 0xF010000000 ∧ MemId.dark .rom true = false ∧
    (MemId.tile 1).dark true = false ∧ tget eccDefault up.bad (wordKey 0x10100000) = .good ∧
    up.boot.romHalt = false ∧ up.txq = [] ∧ up.inRom 192 = true ∧ up.inRom 191 = false ∧ up.field.exch = none ∧
    (up.th 192).life = .offline ∧
    (let s := { up with tap := .extest }.wr F.TMR_REF_REF25_OK 1 |>.wr (F.CL_CTL_EN 47) 1
     s.scanning = true ∧ s.is F.TMR_REF_REF25_OK = true ∧ s.is (F.CL_CTL_EN 47) = true ∧ s.rd (F.CL_STATUS_STATE 47) = 0) ∧
    (∀ l ∈ [Life.running, .blocked, .idle, .faulted, .halted, .offline],
      let s := up.modTh 191 (fun x => { x with life := l, saved := .running })
      (s.th 191).life = l ∧ (s.th 191).saved = .running) ∧ up.boot.nonce = none := by decide +kernel
theorem witness_DebugPort_response : let s := { up.wr F.SYS_LC_STATE 1 with boot := { Boot.init with nonce := some (5, 1) } }
    s.mainOn = true ∧ s.scanning = false ∧ s.boot.nonce = some (5, 1) ∧ s.dbgAdmits 1 = true ∧ ∃ hi lo : BitVec 64,
      s.unlockTag 5 1 = beBytes 8 hi.toNat ++ beBytes 8 lo.toNat :=
  ⟨by decide, by decide, rfl, by decide, _, _, response_ok _ 5 1⟩

/-- The last core and one beyond; a test in each phase, one ns before its times and at them; a pool that lends and one that
refuses; a recalibration in LISTEN and SPLICING. -/
theorem witness_SelfTest : (47 : BitVec 6).toNat ≤ 47 ∧ 47 < (48 : BitVec 6).toNat ∧ up.mainOn = true ∧
    (∀ st ∈ [0, 1, 3, 4], ∀ n ∈ [999999, 1000000],
      let s := { up with acc := n * tUnit }.wr F.ST_STATUS_STATE st |>.wr F.ST_ADMIT_DEADLINE 1
        |>.wr F.ST_DRAIN_TMO_MS 1 |>.wr F.ST_STATUS_CORE 5
      s.rd F.ST_STATUS_STATE = st ∧ (s.field.test.began + s.rd F.ST_ADMIT_DEADLINE * 1000000 ≤ s.nowNs ↔ n = 1000000) ∧
      (s.field.test.began + max 1 (s.rd F.ST_DRAIN_TMO_MS) * 1000000 ≤ s.nowNs ↔ n = 1000000) ∧
      (∀ t ∈ [20, 21, 22, 23], (s.th t).life = .offline ∧ (s.th t).failed = false) ∧ s.activeSup (5 / 8) / 4 ≠ 5) ∧
    (let s := (up.startThread 3).startThread 19 |>.modTh 19 (fun x => { x with life := .idle }) |>.wr F.ST_ADMIT_DEADLINE 0
     s.activeSup 0 / 4 = 0 ∧ s.otherSup 0 / 4 ≠ 0 ∧ s.available (s.otherSup 0) = true ∧ s.rd F.ST_ADMIT_DEADLINE = 0) ∧
    up.available (up.otherSup 0) = false ∧
    (let s := pools_.wr F.ST_MEM_CTL_EN 1 |>.wr F.ST_MEM_CTL_RATE 2 |>.wr F.ST_MEM_CTL_POOLS 2 |>.wr (F.LEND_MAX_MAX 1) 5
       |>.wr (F.LEND_FLOOR_FLOOR 1) 0
     s.is F.ST_MEM_CTL_EN = true ∧ s.field.mem.lent = none ∧ s.field.mem.loans < s.rd F.ST_MEM_CTL_RATE ∧
     nextPool (s.rd F.ST_MEM_CTL_POOLS) s.field.mem.turn = some 1 ∧ (s.lend 1).2 = some (⟨256, 0x1000, 4, 0x2000⟩, 1) ∧
     ((s.wr (F.LEND_MAX_MAX 1) 0).lend 1).2 = none ∧
     { s with field := { s.field with mem := { s.field.mem with lent := some ⟨1, ⟨256, 0x1000, 4, 0x2000⟩, 1⟩ } } }.field.mem.lent =
       some ⟨1, ⟨256, 0x1000, 4, 0x2000⟩, 1⟩) ∧
    (node 1 0 0 Ring.init).rd F.RING_STATUS_STATE < 2 ∧ 2 ≤ (node 2 0 0 Ring.init).rd F.RING_STATUS_STATE ∧
    up.is F.ST_RING_CAL_BUSY = false ∧ (up.wr F.ST_RING_CAL_BUSY 1).is F.ST_RING_CAL_BUSY = true := by decide +kernel

/-- The epoch at 255; a thread in each state; an exchange of firmware in progress; a staged image that fails its first check. -/
theorem witness_ProgramExchange : (up.wr F.EXCH_STATUS_EPOCH 255).rd F.EXCH_STATUS_EPOCH = 255 ∧ up.mainOn = true ∧
    up.is F.EXCH_STATUS_BUSY = false ∧ (up.wr F.EXCH_STATUS_BUSY 1).is F.EXCH_STATUS_BUSY = true ∧
    (∀ l ∈ [Life.idle, .running, .faulted], let s := run.modTh 0 (fun x => { x with life := l })
      (0, s.th 0) ∈ s.threads ∧ (s.th 0).life = l ∧ twf Thread.init s.threads = true) ∧
    up.is F.EXCH_PC_STAT_BUSY = false ∧ (up.wr F.EXCH_PC_STAT_BUSY 1).is F.EXCH_PC_STAT_BUSY = true ∧ up.field.exch = none ∧
    (let s := up.wr F.EXCH_PC_IMG_LO_ADDR 0x1000
     s.staged.1.exchFail s.staged.2.1 s.staged.2.2 = 1) ∧
    (let x : PcExch := ⟨1, 0x20000000, []⟩
     { up.field with exch := some x }.exch = some x ∧ x.target < 2 ∧ x.entry < 2 ^ 40 ∧ x.entry % 4 = 0) := by decide +kernel
/-- The image staged in management memory passes the checks. -/
theorem witness_ProgramExchange_good : let s := ((keyed up).portWrite (mbusWindow + 0x1000) image).wr F.EXCH_PC_IMG_LO_ADDR 0x1000
    s.staged.2 = (0x1000, image) ∧ s.staged.1.exchFail 0x1000 image = 0 := by decide +kernel
/-! ### Witnesses of the clauses for memories, pools, helpers and faults -/

theorem witness_MostNegativeByMinusOne : let s := withRegs alu 0 [(2, dat (2 ^ 64 - 1))]
    issues s 0 .a [4, 2] (at_ s 0) ∧ unpoisoned (at_ s 0) 0 [4, 2] ∧ ((at_ s 0).w 0 4).val = BitVec.ofInt 64 (-2 ^ 63) ∧
    ((at_ s 0).w 0 2).val = -1 :=
  ⟨issues_at _ _ (by decide +kernel), unpoisoned_of (by decide +kernel), by decide +kernel⟩

/-- A posted error, then a failed job, met once nothing is outstanding. -/
theorem witness_DrainingInstructions_errors :
    (let s := holding.modTh 0 (fun x => { x with perr := some ⟨0x80, 1, 0, 0⟩ })
     runs s 0 (at_ s 0) ∧ ((at_ s 0).th 0).posted = [] ∧ ((at_ s 0).th 0).perr = some ⟨0x80, 1, 0, 0⟩ ∧
     (∀ k ∈ ((at_ s 0).th 0).tickets, k ≠ .out) ∧ ((at_ s 0).th 0).held.isSome = true) ∧
    (let s := holding.modTh 0 (fun x => { x with tickets := [.ended 0x301, .free, .ended 0, .free] })
     runs s 0 (at_ s 0) ∧ ((at_ s 0).th 0).posted = [] ∧ ((at_ s 0).th 0).perr = none ∧
     (∀ k ∈ ((at_ s 0).th 0).tickets, k ≠ .out) ∧ ((at_ s 0).th 0).failedJob = some 0x301) :=
  ⟨⟨runs_at (by decide +kernel), by decide +kernel⟩, runs_at (by decide +kernel), by decide +kernel⟩

/-- An ingot pool always answers, an SDRAM pool does not before its channel is filled. -/
theorem witness_AllocResults_answers : let l : Layout := ⟨256, 0x1000, 4, 0x2000⟩
    pools_.poolAnswers 1 l = true ∧ (let l : Layout := ⟨256, 0x1000000000, 4, 0x1000002000⟩
      let s : State := { pools_ with pools := pools_.pools ++ [(9, Pool.mk (some l) none 0 false)] }
      (s.pool 9).built = some l ∧ s.poolAnswers 9 l = false) := by decide +kernel

/-- A buffer marked RETIRE, and an uncorrectable error in the area of a built pool. -/
theorem witness_FreeAndHadd_retire : let s := (withRegs pools_ 0 [(1, hd 1 3 0 0)]).setWord 0x2000 (mkMeta 3 0 0b10010 7)
    runs s 0 (at_ s 0) ∧ (at_ s 0).handleCheck ((at_ s 0).w 0 1) .free 0 false = none ∧
    bits ((at_ s 0).word 0x2000).val.toNat 46 1 = 1 ∧ (at_ s 0).recorder.frozen = false ∧ (at_ s 0).recorder.offered.length < 64 ∧
    s.poolAt 0x1088 = some (1, ⟨256, 0x1000, 4, 0x2000⟩, 0) ∧ tget eccDefault s.bad 0x2000 = .good ∧ 0x2000 < mbusWindow ∧
    (0x1088 : Nat) ≠ 0x2000 := ⟨runs_at (by decide +kernel), by decide +kernel⟩

/-- A group without a share refuses a worker thread whose budget is due and one whose is not. -/
theorem witness_SendResults_budget : 
    let s := (((withRegs holding 0 [(28, hd 1 3 0 0), (29, dat (9 * 2 ^ 28))]).wr (F.GRP_MIN_MIN 0) 0).wr
      (F.GRP_MIN_DYNAMIC 0) 0).wr (F.GRP_BUDGET_LIMIT 0) 5
    let due := s.modTh 0 (fun x => { x with run := 5000 * tUnit })
    (at_ s 0).admits 0 = false ∧ (at_ s 0).budgetDue 0 = false ∧ (at_ due 0).admits 0 = false ∧ (at_ due 0).budgetDue 0 = true ∧
    runs s 0 (at_ s 0) ∧ runs due 0 (at_ due 0) := by
  refine ⟨by decide +kernel, by decide +kernel, by decide +kernel, by decide +kernel, runs_at ?_, runs_at ?_⟩ <;> decide +kernel

/-- An uplink that is DOWN. -/
theorem witness_TaskInstructions_down :
    let s := withRegs ({ pools_.modTh 0 (fun x => { x with held := some 2 }) with
        tasks := [(2, aTask (.delivered 0) (some 3))] } |>.setReg (A.SCH_DOM_TYPE 0) 128) 0
        [(1, ⟨0x40, (hd 1 3 0 0).val + 64⟩), (2, dat (64 * 65536 + 192))]
    runs s 0 (at_ s 0) ∧ (at_ s 0).touchHandle ((at_ s 0).w 0 1) .xmit = at_ s 0 ∧ ((at_ s 0).th 0).held = some 2 ∧
    (at_ s 0).task 2 = some (aTask (.delivered 0) (some 3)) ∧ (at_ s 0).domType 3 = 2 ∧
    (at_ s 0).handleCheck ((at_ s 0).w 0 1) .xmit 0 false = none ∧
    hOffset ((at_ s 0).w 0 1).val + 192 ≤ ((at_ s 0).hLayout ((at_ s 0).w 0 1)).size ∧ (at_ s 0).portUp 64 = false :=
  ⟨runs_at (by decide +kernel), by decide +kernel⟩

/-- A helper whose queue holds sixteen jobs. -/
theorem witness_HelperInstructions_full :
    let j : Job := ⟨0, 1, 0, (List.range 4).map (fun i => ((at_ descr 0).word (0x10000840 + 8 * i)).readAs), 0, [], false⟩
    let s := { descr with helpers := [(0, ⟨List.replicate 16 j, none⟩)] }
    runs s 0 (at_ s 0) ∧ 16 ≤ ((at_ s 0).helper 0).queue.length ∧ j.badDesc = false ∧ (at_ s 0).descLoc 0 0x10000840 = some 0x10000840 :=
  ⟨runs_at (by decide +kernel), by decide +kernel⟩

/-- A job of thread 0 under ticket 3. -/
def aJob (hf op len flags : Nat) (src dst param : Word) : Job :=
  ⟨0, 3, hf, [dat (hf * 2 ^ 60 + op * 2 ^ 52 + len * 2 ^ 32 + flags), src, dst, param], 0, [region true true 0 0x20000000], false⟩
/-- Thread 0 waits for an entry of helper 0's queue; it waits for its ticket 3 in helper 1. -/
theorem witness_HelperRuns_wakeups : let j := aJob 0 1 8 0 (dat 0x88) (dat 0) (dat 0)
    (let s := { run.modTh 0 (fun x => { x with life := .blocked, wait := some (.hjob 7 none j) }) with
        helpers := [(0, ⟨List.replicate 16 j, none⟩)] }
     s.queueWaiters 0 = [0] ∧ (s.th 0).life = .blocked ∧ (s.th 0).wait = some (.hjob 7 none j) ∧
     s.helper 0 = ⟨j :: List.replicate 15 j, none⟩ ∧ s.bad = [] ∧ (List.replicate 15 j).length < 16) ∧
    ∀ st ∈ [0, 5, 1, 2, 3, 4], let e : JobEnd := ⟨st, 7, []⟩
      let s := { run.modTh 0 (fun x => { x with life := .blocked, wait := some (.hwait 7 3), tickets := [.free, .free, .free, .out] }) with
        helpers := [(1, ⟨[], some (j, e)⟩)] }
      s.helper 1 = ⟨[], some (j, e)⟩ ∧ (s.th j.thread).life = .blocked ∧ (s.th j.thread).wait = some (.hwait 7 j.ticket) ∧
      e.writes = [] ∧ j.ticket < (s.th j.thread).tickets.length ∧ s.bad = [] := by decide +kernel
/-- Outputs of three bytes at the end of a word, which holds DATA and which holds POISON, and at an address of no memory. -/
theorem witness_HelperRuns_outputs : let s := (run.setWord 0x80 (dat 7)).setWord 0x88 bad
    s.memOf (wordKey 0x85) ≠ none ∧ s.memOf (wordKey (0x85 + 3 - 1)) ≠ none ∧ wordKey 0x85 = 0x80 ∧ (s.word 0x80).readAs.kind ≠ .poison ∧
    wordKey 0x8D = 0x88 ∧ (s.word 0x88).readAs.kind = .poison ∧ s.memOf (wordKey 0x700000000) = none ∧ 0x700000000 + 3 ≤ mbusWindow ∧
    s.bad = [] := by decide +kernel
/-- Jobs of each operation at the ends of its range of lengths, with a source that reads as DATA, one that holds POISON and one that no
region of the job's context covers. -/
theorem witness_HelperResults : let s := run.setWord 0x188 bad
    let src := dat 0x80
    s.bad = [] ∧
    (∀ op ∈ [1, 2, 3, 4], (aJob 0 op 0 0 src src src).len = 0 ∧ 16384 < (aJob 0 op 16385 0 src src src).len ∧
      (∀ n ∈ [1, 16384], let j := aJob 0 op n 0 src (dat 0x8000) src
        j.hf = 0 ∧ j.op = op ∧ j.len = n ∧ s.jobLoc j false src 0 n 1 = some 0x80 ∧ s.jobLoc j false src 0 (n + 4) 1 = some 0x80 ∧
        s.jobLoc j true (j.word 2) (bits j.param 32 16) 2 2 = some 0x8000 ∧ s.jobLoc j false (dat 0x700000000) 0 n 1 = none ∧
        s.jobLoc j true (dat 0x8001) (bits j.param 32 16) 2 2 = none)) ∧
    (∀ op ∈ [1, 2], let j := aJob 1 op 8 0 src (dat 0x8000) src
      j.hf = 1 ∧ j.op = op ∧ j.len = 8 ∧ s.jobLoc j false src 0 8 1 = some 0x80 ∧ s.jobLoc j true (j.word 2) 0 8 8 = some 0x8000 ∧
      s.jobLoc j true (dat 0x8004) 0 8 8 = none) ∧
    (let j := aJob 1 3 0 0 (hd 1 3 0 0) src src
     j.op = 3 ∧ (dat 0).kind ≠ .handle ∧ (⟨(j.word 1).tag, BitVec.ofNat 64 ((j.word 1).val.toNat / 2 ^ 32 * 2 ^ 32)⟩ : Word).kind = .handle ∧
     pools_.jobLoc j false ⟨(j.word 1).tag, BitVec.ofNat 64 ((j.word 1).val.toNat / 2 ^ 32 * 2 ^ 32)⟩ 32 32 2 = some 0x1020) ∧
    (∀ op ∈ [1, 2, 3], (aJob 2 op 4097 0 src src src).len = 4097 ∧
      ∀ n ∈ [16, 4096], ∀ f < 2, let j := aJob 2 op n f src (dat 0x8000) (dat 0)
        j.hf = 2 ∧ j.op = op ∧ j.len = n ∧ j.flags.testBit 0 = decide (f = 1) ∧ s.jobLoc j false src 0 (4 * n) 4 = some 0x80 ∧
        s.jobLoc j false src 0 (2 * n) 2 = some 0x80 ∧
        s.jobLoc j true (j.word 2) 0 (if j.op = 1 then 32 else if j.op = 2 then 4 * n else 8 * (n / 2 + 1))
          (if j.op = 2 then 4 else 8) = some 0x8000) ∧
    16 = 2 ^ 4 ∧ 4096 = 2 ^ 12 ∧ (s.word 0x80).readAs.kind ≠ .poison ∧ s.memOf 0x80 ≠ none ∧ (s.word 0x188).readAs.kind = .poison ∧
    ([0, 0xA00 + 2, 4, 6, 12].map (fun p => (p % 4, (p : Nat).testBit 2, (p : Nat).testBit 3)) =
      [(0, false, false), (2, false, false), (0, true, false), (2, true, false), (0, true, true)]) := by decide +kernel
/-- Sixteen samples. -/
theorem witness_HelperResults_samples : let xs : List Int := [5, -7, 3, -2 ^ 31, 2 ^ 31 - 1, 0, 1, 2, 3, 4, 5, 6, 7, 8, 9, 10]
    xs ≠ [] ∧ xs.length = 2 ^ 4 ∧ (∀ x ∈ xs, -2 ^ 31 ≤ x ∧ x < 2 ^ 31) ∧ xs[3]? = some (-2 ^ 31) ∧ (8 : Nat) ≤ xs.length / 2 := by
  decide +kernel
/-- The integer root of a bin, as the clause on MAG asks for it. -/
theorem witness_HelperResults_root : ∃ q : Nat,
    q ^ 2 ≤ (dftBin [1] 0).1.natAbs ^ 2 + (dftBin [1] 0).2.natAbs ^ 2 ∧
    (dftBin [1] 0).1.natAbs ^ 2 + (dftBin [1] 0).2.natAbs ^ 2 < (q + 1) ^ 2 ∧ q < 2 ^ 256 := ⟨2 ^ 96, by decide +kernel⟩
/-- Thread 0 waits for a load of eight bytes at 0x88 of a cacheability. -/
def loadingAs (cache : Nat) (s : State) : State := s.modTh 0 (fun x => { x with
  life := .blocked, wait := some (.load ⟨3, 8, false, 0x88, cache, false, false, [], 4⟩) })
/-- The word in memory holds an uncorrectable error, and no pool's area holds the word. -/
theorem witness_LoadResults_ecc : let s := { loadingAs 0 run with bad := [(0x88, .uncorrectable)] }
    (s.th 0).life = .blocked ∧ (s.th 0).wait = some (.load ⟨3, 8, false, 0x88, 0, false, false, [], 4⟩) ∧
    s.loadWaits 0 ⟨3, 8, false, 0x88, 0, false, false, [], 4⟩ = false ∧ s.locate 0 0x88 = .cell .ingot 0x88 ∧
    MemId.ingot.dark s.vcoreOn = false ∧ tget eccDefault s.bad (wordKey 0x88) = .uncorrectable ∧ s.poolAt (wordKey 0x88) = none ∧
    (s.uncorrectable .ingot (wordKey 0x88)).budgetDue 0 = false := by decide +kernel
/-- A line that the cache of tile 0 holds in way 1, and one that it fills into way 0. -/
theorem lineIn_hit : lineIn cached 0 0x88 1 (cached.setCset 2 { cached.cset 2 with plru := plruTouch (cached.cset 2).plru 1 }) :=
  .inl ⟨by decide +kernel, rfl⟩
theorem lineIn_fill : lineIn run 0 0x88 0 (run.setCset 2 ⟨(run.cset 2).ways.set 0 (some ⟨2, false,
    (List.range 8).map (fun j => run.word (0x80 + 8 * j))⟩), plruTouch (run.cset 2).plru 0⟩) :=
  .inr ⟨by decide +kernel, by decide +kernel, by decide +kernel, rfl⟩
theorem witness_LoadResults_cached : let s := loadingAs 1 cached
    lineIn s 0 0x88 1 (s.setCset 2 { s.cset 2 with plru := plruTouch (s.cset 2).plru 1 }) ∧
    ((s.setCset 2 { s.cset 2 with plru := plruTouch (s.cset 2).plru 1 }).cset 2).line 1 = some aLine ∧
    (s.th 0).life = .blocked ∧ (s.th 0).wait = some (.load ⟨3, 8, false, 0x88, 1, false, false, [], 4⟩) ∧
    s.loadWaits 0 ⟨3, 8, false, 0x88, 1, false, false, [], 4⟩ = false ∧ s.locate 0 0x88 = .cell .ingot 0x88 :=
  ⟨.inl ⟨by decide +kernel, rfl⟩, by decide +kernel⟩
/-- WT stores to a line that the cache holds and to one that it does not; a WB store to each. -/
theorem witness_StoresPerform_cached : (∀ c ∈ [1, 2], (at_ (acc_ c 1) 0).touchBase (dat 0x88) 0 8 (some (dat 1)) = at_ (acc_ c 1) 0 ∧
      ((at_ (acc_ c 1) 0).th 0).posted = [] ∧ ((at_ (acc_ c 1) 0).th 0).limbo = [] ∧
      (at_ (acc_ c 1) 0).checkAccess 0 (dat 0x88) 0 8 (some (dat 1)) = .ok 0x88 c 1) ∧
    runs (acc_ 1 1) 0 (at_ (acc_ 1 1) 0) ∧ runs (acc_ 2 1) 0 (at_ (acc_ 2 1) 0) ∧
    run.locate 0 0x88 = .cell .ingot 0x88 ∧ (cached.cset 2).wayOf (0x88 / 64) = some 1 ∧ (cached.cset 2).line 1 = some aLine ∧
    (run.cset 2).wayOf (0x88 / 64) = none ∧ setKey 0 0x88 = 2 ∧ ∃ w s₁ l, lineIn run 0 0x88 w s₁ ∧ (s₁.cset 2).line w = some l :=
  ⟨fun c h => ⟨touch_raw (by decide) _ _ _, by simp at h; rcases h with rfl | rfl <;> decide +kernel⟩, runs_at (by decide +kernel),
    runs_at (by decide +kernel), by decide +kernel, by decide +kernel, by decide +kernel, by decide +kernel, by decide +kernel,
    0, _, ⟨2, false, List.replicate 8 Word.zero⟩, lineIn_fill, by decide +kernel⟩
/-- A line of ingot memory and one of an SDRAM channel that does not answer. -/
theorem witness_CacheMaintenance_answers : (at_ cached 0).locData none (0x88 / 64 * 64) = .cell .ingot 0x80 ∧
    (∀ m k, run.locData none 0x1000000000 ≠ .cell m k) ∧ farAddr 0x1000000000 = true := by
  refine ⟨by decide +kernel, ?_, by decide +kernel⟩
  have e : run.locData none 0x1000000000 = .fail 1 := by decide +kernel
  simp [e]

/-- A fault of each cause that a RESUME reaches, before its account's regions have changed and after; supervisor 3 decides. -/
theorem witness_FaultDecisions_resume :
    (∀ c ∈ [0x04, 0x05, 0x06, 0x0C, 0x0D, 0x0E, 0x0F, 0x10, 0x13], let s := deciding_ c none 5 0
      (s.th 5).fault.map FaultInfo.code = some c ∧ (s.th 5).fault.map FaultInfo.fetch = some false ∧ (s.th 5).record = .none ∧
      (s.th 5).set.acct = (s.th 5).acct ∧ (s.th 5).set.gen = s.rd (F.ACCT_GEN_GEN 0 (s.th 5).acct) ∧
      (let r := s.wr (F.ACCT_GEN_GEN 0 0) 1
       ¬ ((r.th 5).set.acct = (r.th 5).acct ∧ (r.th 5).set.gen = r.rd (F.ACCT_GEN_GEN 0 (r.th 5).acct)))) ∧
    (((deciding_ 0x0C none 5 0).modTh 5 (fun x => { x with fault := some ⟨0x0C, 9, x.pc, 17, true, none, false⟩ })).th 5).fault.map
      FaultInfo.fetch = some true := by decide +kernel
/-- RESTART and ABORT of thread 5 with task 2 of a PARALLEL domain, whose w1 is a HANDLE that passes its checks, and one that fails
them; rs2 with and without bit 2. -/
theorem witness_FaultDecisions_held : let s := { deciding_ 0x0E (some 2) 5 6 with pools := pools_.pools, mem := pools_.mem } |>.setReg (A.SCH_DOM_TYPE 0) 128
    let x := aTask (.delivered 5) (some 3)
    let gone := fun (s : State) => ((s.withdraw 5).endTask 5 0x02).touchHandle (x.words.headD Word.zero) .free
    (s.th 5).held = some 2 ∧ s.task 2 = some x ∧ s.domType 3 = 2 ∧ x.frames = [] ∧ (s.th 5).oldProg = false ∧
    (s.th 192).life ≠ .blocked ∧ (s.th 193).life ≠ .blocked ∧ (6 : Nat).testBit 2 = true ∧ (2 : Nat).testBit 2 = false ∧
    6 % 4 = 2 ∧ (x.words.headD Word.zero).kind = .handle ∧ (gone s).handleCheck (x.words.headD Word.zero) .free 0 true = none ∧
    (gone { s with pools := [] }).handleCheck (x.words.headD Word.zero) .free 0 true = some 0x07 := by decide +kernel
/-- A record with a task, a posted error and a failed job. -/
theorem witness_FaultRecords_words : let s := { (recording 5).modTh 5 (fun x => { x with
      held := some 2, perr := some ⟨0x80, 1, 2, 3⟩, tickets := [.ended 0x301, .free, .free, .free] }) with
      tasks := [(2, aTask (.delivered 5) (some 3))] }
    (s.th 5).life = .faulted ∧ (s.th 5).record = .waiting ∧ (∀ k ∈ (s.th 5).tickets, k ≠ .out) ∧ (s.th 5).failedJob = some 0x301 ∧
    (s.th 5).held.bind s.task = some (aTask (.delivered 5) (some 3)) ∧ s.admits 15 = true ∧ s.available (s.activeSup 0) = true := by
  decide +kernel
/-- A START while the self-test of the thread's core runs, and of the next core's. -/
theorem witness_ThreadControl_test : let s := up.wr F.ST_STATUS_STATE 4
    s.rd F.ST_STATUS_STATE = 4 ∧ coreOf 3 = s.rd F.ST_STATUS_CORE ∧ coreOf 4 ≠ s.rd F.ST_STATUS_CORE ∧ (s.th 3).life = .offline ∧
    (s.th 3).failed = false ∧ s.vcoreOn = true := by decide +kernel
/-- A register of a block, by its address, with the row and the index that the map gives it. -/
def rowAt (a : Nat) : Option (Nat × List Nat) := (regRow a).map (fun p => (p.1.base, p.2))
/-- One register for each clause, at the end of its range of indices, and plain ones of the other blocks. -/
theorem witness_RegisterWrites_acting :
    rowAt (A.TILE_SUPV 5) = some (A.TILE_SUPV 0, [5]) ∧ rowAt (A.THREAD_CTL 5 31) = some (A.THREAD_CTL 0 0, [5, 31]) ∧
    rowAt (A.THREAD_CFG 5 31) = some (A.THREAD_CFG 0 0, [5, 31]) ∧ rowAt (A.PR_BASE_LO 5 63 15 + 12) = some (A.PR_BASE_LO 0 0 0 + 12, [5, 63, 15]) ∧
    rowAt (A.POOL_COUNT 15) = some (A.POOL_COUNT 0, [15]) ∧ rowAt (A.POOL_CFG 15) = some (A.POOL_CFG 0, [15]) ∧
    rowAt (A.SDC_CTRL 1) = some (A.SDC_CTRL 0, [1]) ∧ rowAt A.SYS_WDT_CTL = some (A.SYS_WDT_CTL, []) := by decide +kernel
theorem witness_RegisterWrites_acting' :
    rowAt (A.RULE_W 15) = some (A.RULE_W 0, [15]) ∧ rowAt (A.PDM_RX 63) = some (A.PDM_RX 0, [63]) ∧
    rowAt (A.PDM_TX 63) = some (A.PDM_TX 0, [63]) ∧ rowAt (A.PDM_TX_BANK 63) = some (A.PDM_TX_BANK 0, [63]) ∧
    rowAt (A.TS_STAT 1 1) = some (A.TS_STAT 0 0, [1, 1]) ∧ rowAt (A.UPL_CTL 1) = some (A.UPL_CTL 0, [1]) ∧
    rowAt (A.CL_CTL 47) = some (A.CL_CTL 0, [47]) ∧ rowAt (A.TMR_CTL 31) = some (A.TMR_CTL 0, [31]) ∧
    rowAt (A.CAP_CTL 63) = some (A.CAP_CTL 0, [63]) := by decide +kernel
theorem witness_RegisterWrites_commands :
    (∀ a ∈ [A.AUDIT_CTL, A.MEMECC_CTRL, A.SYS_WDT_KICK, A.SYS_LC_CMD, A.SYS_AON_RST, A.SYS_PCORE_RST, A.SYS_PCORE_CTL, A.SYS_OTP_OP, A.SYS_BOOT_TRY,
        A.PRS_BANK, A.PRS_CMD, A.CLS_COMMIT, A.CLS_FRAG_CTL, A.RING_CTL, A.DICT_STATE_CMD, A.DICT_SUB_GO, A.DICT_FWD_POP, A.DICT_FWD_RESP,
        A.REC_CMD, A.REC_RD_SEL, A.ST_CTL, A.EXCH_CTL, A.EXCH_PC_CTL, A.UART_DATA, A.I2C_CMD], rowAt a = some (a, [])) ∧
    (∀ a ∈ [A.POOL_BASE_LO 0, A.POOL_COUNT 15], rowAt a ≠ rowAt (A.POOL_STATUS 0)) ∧
    (∀ a ∈ [A.SYS_PCORE_ENTRY_LO 1, A.RING_GAP, A.DICT_FWD_TMO, A.REC_LOST],
      (regRow a).isSome = true ∧ (rowAt a).all (fun p => !actingRegs.contains p.1)) := by decide +kernel
/-- A layout register written with another value and with the same; a window that is armed and one that is not; an uplink that comes
UP and one that does not; a cell link at 0; a timestamp FIFO. -/
theorem witness_RegisterWrites_states : (up.is (F.UPL_STATUS_UP 1) = false ∧ up.uplUp 1 = false ∧ up.rd (F.CL_STATUS_STATE 47) = 0 ∧
      up.is (F.CL_CTL_EN 47) = false ∧ tget (fun _ => false) up.dict.armed 127 = false ∧
      tget (fun _ => false) { up.dict with armed := [(127, true)] }.armed 127 = true ∧ up.is F.SYS_WDT_CTL_EN = false ∧
      (up.wr F.SYS_WDT_CTL_EN 1).is F.SYS_WDT_CTL_EN = true) := by decide +kernel

/-- A build of a pool in ingot memory, with VCORE and without, and one in an SDRAM channel that does not answer. -/
theorem witness_PoolBuild : let s := { up with pools := [(1, ⟨none, some ⟨256, 0x1000, 4, 0x2000⟩, 0, false⟩),
      (9, ⟨none, some ⟨256, 0x1000000000, 4, 0x1000002000⟩, 0, false⟩)] }
    (s.pool 1).building = some ⟨256, 0x1000, 4, 0x2000⟩ ∧ s.vcoreOn = true ∧ s.poolAnswers 1 ⟨256, 0x1000, 4, 0x2000⟩ = true ∧
    { s with vcoreOn := false }.vcoreOn = false ∧ (s.pool 9).building = some ⟨256, 0x1000000000, 4, 0x1000002000⟩ ∧
    s.poolAnswers 9 ⟨256, 0x1000000000, 4, 0x1000002000⟩ = false := by decide +kernel
/-- No room for a record: AUDIT_MAX 0 and none written; AUDIT_MAX 1 and one written. -/
theorem witness_LeakAudit_full :
    (let s := (audit_ 1 9).wr F.AUDIT_MAX_MAX 0
     s.rd F.AUDIT_MAX_MAX ≤ s.rd F.AUDIT_WRITTEN_COUNT) ∧
    (let s := (audit_ 1 9).wr F.AUDIT_WRITTEN_COUNT 1
     s.rd F.AUDIT_MAX_MAX ≤ s.rd F.AUDIT_WRITTEN_COUNT ∧ tget eccDefault s.bad 0x2000 = .good) := by decide +kernel
/-- A channel that failed its initialisation. -/
theorem witness_MemoryCommands_dead : State.initDead { up with sdcDead := [(1, true)] } 1 = true ∧ up.initDead 1 = false ∧
    up.is (F.SDC_STATUS_SCRUB_BUSY 1) = false := by decide +kernel
theorem tget_replicate (n : Nat) : tget (fun _ => false) (List.replicate n (0x80, true)) 0x78 = false := by
  induction n with
  | zero => rfl
  | succ n ih => rw [List.replicate_succ]; simpa [tget] using ih
/-- A pass that lacks one word, which is then its last; and one that lacks more. -/
theorem witness_Scrubbing_last (n : Nat) (h : 0 < n) : let seen := List.replicate n ((0x80, true) : Nat × Bool)
    tget (fun _ => false) seen 0x78 = false ∧
    (n = 0x3FFFFFFF → ¬ 0x200000000 ≤ 8 * seen.length ∧ 0x200000000 ≤ 8 * (tset (fun _ => false) seen 0x78 true).length) ∧
    (n = 1 → ¬ 0x200000000 ≤ 8 * (tset (fun _ => false) seen 0x78 true).length) := by
  obtain ⟨m, rfl⟩ : ∃ m, n = m + 1 := ⟨n - 1, by omega⟩
  have e : tset (fun _ => false) (List.replicate (m + 1) ((0x80, true) : Nat × Bool)) 0x78 true =
      (0x78, true) :: List.replicate (m + 1) (0x80, true) := by simp [tset, List.replicate_succ, tput]
  refine ⟨tget_replicate _, fun h => ?_, fun h => ?_⟩ <;>
    simp only [e, List.length_cons, List.length_replicate] <;> omega
/-- An armed compare that the next count reaches and one that it does not. -/
theorem witness_StationTime_due : let s := { up.wr (F.TMR_CTL_EN 31) 1 |>.wr (F.TMR_CTL_ARM_A 31) 1 |>.wr (F.TMR_CTL_ARM_B 31) 1
      |>.wr F.TMR_REF_REF25_OK 1 with timers := [(31, { Timer.init with count := 4, rem := 64000000000 - 1, cmpA := 5, cmpB := 100 })] }
    s.is (F.TMR_CTL_EN 31) = true ∧ s.is (F.TMR_CTL_ARM_A 31) = true ∧ s.is (F.TMR_CTL_ARM_B 31) = true ∧
    (s.timer 31).dueA = none ∧ (s.timer 31).dueB = none ∧
    ((after (.stationTimeAdvance none) s).timer 31).dueA.isSome = true ∧
    ((after (.stationTimeAdvance none) s).timer 31).dueB = none := by decide +kernel
/-- The reference back while cell link 47 is enabled and DOWN. -/
theorem witness_TimeSources_back : let s := up.wr (F.CL_CTL_EN 47) 1
    s.is F.TMR_REF_REF25_OK = false ∧ s.scanning = false ∧ s.is (F.CL_CTL_EN 47) = true ∧ s.rd (F.CL_STATUS_STATE 47) = 0 := by
  decide +kernel

/-- The buffers that frames go to and come from stand in memory; buffer 0 of pool 1 can be given back. -/
theorem witness_buffers : (ports_.alloc 1 0).1.memOf (0x1000 + 1 * 256 + 64) ≠ none ∧ (0x1000 + 1 * 256 + 64) % 8 = 0 ∧
    (framed false).memOf 0x1000 ≠ none ∧ (0x1000 + 64 ≤ mbusWindow) ∧
    (let h : Word := ⟨0x40, 0x1030000000000000⟩
     (pools_.pool (hPool h.val)).built = some ⟨256, 0x1000, 4, 0x2000⟩ ∧ hIndex h.val < 4 ∧
     tget eccDefault pools_.bad (0x2000 + 8 * hIndex h.val) = .good ∧ pools_.caches = [] ∧
     mAlloc (pools_.metaOf ⟨256, 0x1000, 4, 0x2000⟩ 0) = true ∧ mGen (pools_.metaOf ⟨256, 0x1000, 4, 0x2000⟩ 0) = hGen h.val ∧
     mRetire (pools_.metaOf ⟨256, 0x1000, 4, 0x2000⟩ 0) = false ∧
     mRetire ((pools_.setWord 0x2000 (mkMeta 3 0 0b10010 7)).metaOf ⟨256, 0x1000, 4, 0x2000⟩ 0) = true) := by decide +kernel
/-! ### Witnesses of the clauses for the ring -/

/-- A removed node's neighbour that locks again before step 3 has passed and after; one that is late; a lock past S of the open
window and one before it. -/
theorem witness_RingLinks_relock :
    (∀ n ∈ [989999, 990000, 998500, 998501], let s := linked 2 (node 3 1 n { Ring.init with
        opened := some 1000, ports := [(1, { RPort.init with removed := some 1000 })] })
      let point := s.ringTimes.1 * 1000 - s.ringTimes.2.2 * 1000
      let past := s.ring.opened = some (s.ringCycle % 2 ^ 32) ∧ point ≤ s.inCycle
      (s.rport 1).removed ≠ none ∧ (s.rport 1).lock = false ∧ (s.rport 1).lost = none ∧ s.is F.TMR_REF_REF25_OK = true ∧ 3 ≤ s.rd F.RING_STATUS_STATE ∧ s.rd (F.PORT_STATUS_LINK 1) = 2 ∧
      (past ↔ 990000 ≤ n) ∧ (((s.rport 1).removed ≠ some s.ringCycle ∨ point + 8500 < s.inCycle) ↔ n = 998501) ∧
      (some 999 : Option Nat) ≠ some s.ringCycle) ∧
    (∀ n ∈ [9999, 10000], let s := linked 2 (node 3 1 n { Ring.init with ports := [(1, { RPort.init with lost := some 1000000000 })] })
      s.rd (F.PORT_STATUS_LINK 1) = 2 ∧ (s.rport 1).removed = none ∧ ((1000000000 : Nat) + 10000 ≤ s.nowNs ↔ n = 10000)) := by decide +kernel
/-- A master, a candidate of three cycles that becomes one, another candidate, and a follower with a frame of its own to send. -/
theorem witness_RingCycle_roles :
    (∀ e ∈ ([(3, 0), (2, 3), (2, 2), (1, 0)] : List (Nat × Nat)),
      let s := (node 3 e.1 0 { Ring.init with claims := e.2, held := [(9, [1, 2])] }).wr F.RING_CTL_ENABLE 1
      s.rd F.RING_STATUS_ROLE = e.1 ∧ s.ring.claims = e.2 ∧ s.ring.beaten = false ∧ s.ring.held = [(9, [1, 2])] ∧ s.inGap = false ∧
      s.is F.RING_CTL_ENABLE = true ∧ s.ring.cycle ≠ some s.ringCycle ∧ s.is F.RING_STATUS_WRAP_E = false ∧
      s.rd (F.PORT_STATUS_LINK 0) ≠ 1 ∧ s.rd F.RING_STATUS_STATE = 3) := by decide +kernel
/-- A LINK frame of a peer five seats away at full rate, at the neighbour of a removed node; a SWEEP of node 7 on East; a frame that has
left. -/
theorem witness_RingForwarding_more :
    (let s := (linked 2 (node 3 1 0 { Ring.init with ports := [(1, { RPort.init with removed := some 999 })] })).wr F.RING_SIZE_SIZE 10
     let b := rf 5 255 7 2 (7 :: List.replicate 27 0)
     headerOk b = true ∧ ringCrcOk b = true ∧ (RFrame.of b).type = 5 ∧ (s.rport 1).removed ≠ none ∧ s.is F.TMR_REF_REF25_OK = true ∧ s.rd (F.PORT_STATUS_RATE 1) = 0 ∧
     s.rd (F.PORT_STATUS_LINK 1) = 2 ∧ byteAt (RFrame.of b).payload 1 = 0 ∧ 3 < s.bypassed 1 (byteAt (RFrame.of b).payload 0)) ∧
    (let s := node 3 1 0 Ring.init
     s.rd F.RING_STATUS_ROLE ≠ 3 ∧ s.rd (F.PORT_STATUS_LINK 0) ≠ 1 ∧ 1 < (RFrame.of (sweepF 7)).hops ∧ s.raddr ≠ 255 ∧
     byteAt (RFrame.of (sweepF 7)).payload 1 % 2 = 1) ∧
    { up with out := [Output.ring 0 (frameBlocks (sweepF 7) true)] }.out[0]? = some (Output.ring 0 (frameBlocks (sweepF 7) true)) := by
  refine ⟨by decide +kernel, by decide +kernel, rfl⟩
/-! ### Witnesses of the clauses that this model's rules for time, order and absence add -/

/-- Supervisor 3 is the last one of tile 0 that can take records; the record of thread 5 waits in group 15, SUPV_ESC_REC free and not. -/
def lastSup (pending : Nat) : State := { up.startThread 3 with
  tasks := [(4, { aTask (.ready 4) none with prio := 7, group := 15, faultOf := some 5, words := [dat (7 * 2 ^ 32 + 8), dat 1, dat 2, dat (9 * 2 ^ 32)] })] }
  |>.wr (F.SUPV_ESC_STAT_PENDING 0) pending |>.wr (F.TILE_SUPV_PRIMARY 0) 3 |>.wr (F.TILE_SUPV_ALTERNATE 0) 19
theorem witness_FaultStopsThread_last : ∀ pending ∈ [0, 1], let s := lastSup pending
    s.activeSup 0 = 3 ∧ s.otherSup 0 = 19 ∧ s.available 19 = false ∧ s.is (F.SUPV_ESC_STAT_PENDING 0) = (pending == 1) ∧ s.escQueue 0 = [] ∧
    (s.task 4).isSome = true ∧ (s.task 4).bind Task.faultOf = some 5 ∧ (s.th 192).life ≠ .blocked ∧ (s.th 193).life ≠ .blocked ∧
    (let r := s.raise 3 0x10 0
     (r.th 3).life = .faulted ∧ r.tasks = [] ∧ r.is (F.SUPV_ESC_STAT_PENDING 0) = true ∧
     (pending = 0 → (r.th 5).record = .delivered ∧ r.rd (F.SUPV_ESC_REC_WORD 0 0) = 8 ∧ r.rd (F.SUPV_ESC_REC_WORD 0 1) = 7 ∧ r.rd (F.SUPV_ESC_REC_WORD 0 7) = 9 ∧
       r.escQueue 0 = [] ∧ (r.th 192).evpend = 2) ∧
     (pending = 1 → (r.escQueue 0).map Prod.fst = [5])) := by decide +kernel

/-- A signed word of a register of the M-bus, in the window of the worker threads' addresses and below it for P-core 0. -/
theorem witness_LoadResults_register :
    run.locate 0 (mbusWindow + A.TILE_ENTRY_LO 0) = .mbus (A.TILE_ENTRY_LO 0) ∧ inWindow (mbusWindow + A.TILE_ENTRY_LO 0) = true ∧
    run.locate 192 (A.TILE_ENTRY_LO 0) = .mbus (A.TILE_ENTRY_LO 0) ∧ inWindow (A.TILE_ENTRY_LO 0) = false ∧
    (let s := (pup.setReg (A.PR_BASE_LO 0 0 0) 0x80000000).modTh 192 (fun x => { x with
        life := .blocked, wait := some (.load ⟨3, 4, true, A.PR_BASE_LO 0 0 0, 0, false, false, x.regs, x.pc⟩) })
     (s.th 192).life = .blocked ∧ s.loadWaits 192 ⟨3, 4, true, A.PR_BASE_LO 0 0 0, 0, false, false, (pup.th 192).regs, (pup.th 192).pc⟩ = false ∧
     2 ^ 31 ≤ (s.mbusRead .software (A.PR_BASE_LO 0 0 0)).2.toNat ∧
     (after (.loadDataReturn 192) s).w 192 3 = Word.data (BitVec.ofInt 64 (-2 ^ 31))) := by decide +kernel

/-- Thread 0 holds one task of domain 3, whose type is `ty`, and `z` is the domain's other one; it came before it where `early`. -/
def paired (ty : Nat) (early : Bool) (z : Task) : State :=
  { run.modTh 0 (fun x => { x with held := some 2 }) with
    tasks := [(2, { aTask (.delivered 0) (some 3) with seq := 5 }), (4, { z with seq := if early then 1 else 9 })] }
    |>.setReg (A.SCH_DOM_TYPE 0) (BitVec.ofNat 32 (ty * 64))
theorem paired_runs (ty : Nat) (early : Bool) (z : Task) (h : (((paired ty early z).th 0).life == .running &&
    ((paired ty early z).fetch 0).2.isNone) = true) : runs (paired ty early z) 0 (at_ (paired ty early z) 0) := runs_at h
/-- A task of an ORDERED and an ATOMIC domain alone, behind one that a thread still holds, before one that has completed, and before
one that waits for its turn. -/
theorem witness_DrainingInstructions_domains :
    (∀ ty ∈ [0, 1], ∀ e ∈ ([(true, .delivered 7), (false, .completed 1 7), (false, .waiting)] : List (Bool × Stage)),
      let s := paired ty e.1 (aTask e.2 (some 3))
      let s₁ := at_ s 0
      ((s.th 0).life == .running && (s.fetch 0).2.isNone) = true ∧ s₁.domType 3 = ty ∧ (s₁.th 0).held = some 2 ∧
      (s₁.th 0).posted = [] ∧ (s₁.th 0).perr = none ∧ (s₁.th 0).failedJob = none ∧ (s₁.th 0).oldProg = false ∧
      s₁.tasks.Pairwise (fun a b => a.1 < b.1) ∧ (s₁.domTasks 3).map Prod.fst = (if e.1 then [4, 2] else [2, 4]) ∧
      (s₁.domTasks 3).all (fun k => k.2.frames.isEmpty) = true) ∧
    (∀ ty ∈ [0, 1], let s := { paired ty true (aTask .waiting (some 3)) with tasks := [(2, aTask (.delivered 0) (some 3))] }
      s.domTasks 3 = [(2, aTask (.delivered 0) (some 3))] ∧ s.domType 3 = ty ∧ ((s.th 0).life == .running && (s.fetch 0).2.isNone) = true) ∧
    (∀ c ∈ ([.done 0, .abort 0, .getwork 0] : List Instr),
      (let r := after c (paired 0 true (aTask (.delivered 7) (some 3)))
       r.tasks.map (fun k => (k.1, k.2.stage)) = [(2, .completed (if c = .abort 0 then 2 else 1) 0), (4, .delivered 7)] ∧ r.sched.cpl = [] ∧
       (r.th 0).held = none) ∧
      (let r := after c (paired 0 false (aTask (.completed 1 7) (some 3)))
       r.tasks = [] ∧ r.sched.cpl.length = 2) ∧
      (let r := after c (paired 1 false (aTask .waiting (some 3)))
       r.tasks.map Prod.fst = [4] ∧ r.sched.cpl.length = 1 ∧ (r.task 4).map (fun k => k.stage == .waiting) = some false)) := by
  decide +kernel
/-- ALLOC with the free list at its end, and with no buffer free beyond the reserves of other accounts. -/
theorem witness_AllocResults_empty :
    (let s := withRegs { pools_ with pools := [(1, ⟨some ⟨256, 0x1000, 4, 0x2000⟩, none, 0xFFFFFFFF, false⟩)] } 0 [(1, dat 1)]
     runs s 0 (at_ s 0) ∧ 4 ≤ (s.pool 1).head ∧ (at_ s 0).rd (F.ACCT_INUSE_INUSE 1 0) < (at_ s 0).rd (F.ACCT_LIMIT_LIMIT 1 0) ∧
     (after (.alloc 0 3 1) s).w 0 3 = ⟨Tag.ofCause 0x01, ((after (.alloc 0 3 1) s).w 0 3).val⟩) ∧
    (let s := withRegs (pools_.wr (F.ACCT_RES_RES 1 9) 3) 0 [(1, dat 1)]
     runs s 0 (at_ s 0) ∧ (s.grants 1 4).getD 0 0 ≤ s.rd (F.ACCT_INUSE_INUSE 1 0) ∧ s.sharedFree 1 4 ≤ 0 ∧
     ((after (.alloc 0 3 1) s).w 0 3).tag = Tag.ofCause 0x01) := by
  refine ⟨⟨runs_at (by decide +kernel), by decide +kernel⟩, runs_at (by decide +kernel), by decide +kernel⟩
/-- SEND of an ATOMIC domain without a task, and with one that came before. -/
theorem witness_SendResults_atomic : 
    let s := (withRegs holding 0 [(28, hd 1 3 0 0), (29, dat (9 * 2 ^ 28))]).setReg (A.SCH_DOM_TYPE 0) (BitVec.ofNat 32 (1 * 2 ^ 18))
    let r := { s with tasks := s.tasks ++ [(7, { aTask (.delivered 5) (some 9) with seq := 0 })], sched := { s.sched with seq := 3 } }
    runs s 0 (at_ s 0) ∧ runs r 0 (at_ r 0) ∧ (at_ s 0).domType 9 = 1 ∧ (at_ s 0).admits 0 = true ∧
    (∀ e ∈ (at_ s 0).tasks, e.2.domain = some 9 → (at_ s 0).sched.seq ≤ e.2.seq) ∧
    (∃ e ∈ (at_ r 0).tasks, e.2.domain = some 9 ∧ e.2.seq < (at_ r 0).sched.seq) ∧ (at_ r 0).tasks.Pairwise (fun a b => a.1 < b.1) := by
  refine ⟨runs_at ?_, runs_at ?_, ?_, ?_, ?_, ⟨(7, { aTask (.delivered 5) (some 9) with seq := 0 }), ?_, ?_⟩, ?_⟩ <;> decide +kernel
/-- XMIT of a task of an ORDERED domain behind an earlier one. -/
theorem witness_TaskInstructions_waits :
    let s := withRegs ({ paired 0 true (aTask (.delivered 7) (some 3)) with pools := pools_.pools, mem := pools_.mem } |>.wr (F.UPL_STATUS_UP 0) 1) 0
        [(1, ⟨0x40, (hd 1 3 0 0).val + 64⟩), (2, dat (64 * 65536 + 192))]
    runs s 0 (at_ s 0) ∧ (at_ s 0).touchHandle ((at_ s 0).w 0 1) .xmit = at_ s 0 ∧ ((at_ s 0).th 0).held = some 2 ∧
    (at_ s 0).domType 3 = 0 ∧ (∃ e ∈ (at_ s 0).tasks, e.2.domain = some 3 ∧ e.2.seq < 5) ∧
    (at_ s 0).handleCheck ((at_ s 0).w 0 1) .xmit 0 false = none ∧
    (let r := after (.xmit 0 1 2) s
     ((r.task 2).map (fun k => k.frames.map (fun f => (f.port, f.len)))) = some [(64, 192)] ∧ (r.txOf 64).queue = []) := by
  refine ⟨runs_at ?_, ?_, ?_, ?_, ⟨(4, { aTask (.delivered 7) (some 3) with seq := 1 }), ?_, ?_⟩, ?_, ?_⟩ <;> decide +kernel
/-- A user window of coefficients that the context reaches, one that it does not, and one in POISON. -/
theorem witness_HelperResults_coefficients : let s := run.setWord 0x188 bad
    (∀ op ∈ [2, 3], let seed := fun (a : Nat) => a * 256 + (if op = 2 then 2 else 6)
      (∀ e ∈ ([(0x400, some 0x400), (0x180, some 0x180), (0x700000000, none)] : List (Nat × Option Nat)),
        let j := aJob 2 op 16 0 (dat 0x800) (dat 0x8000) (dat (seed e.1))
        j.param % 4 = 2 ∧ (op = 3 → j.param.testBit 2 = true) ∧ s.jobLoc j false (Word.data (BitVec.ofNat 64 (j.param / 256))) 0 64 4 = e.2) ∧
      ((s.runJob (aJob 2 op 16 0 (dat 0x800) (dat 0x8000) (dat (seed 0x700000000)))).2.status = 3) ∧
      ((s.runJob (aJob 2 op 16 0 (dat 0x800) (dat 0x8000) (dat (seed 0x180)))).2.status = 4) ∧
      ((s.runJob (aJob 2 op 16 0 (dat 0x800) (dat 0x8000) (dat (seed 0x400)))).2.status = 0)) := by decide +kernel

/-- Registers with a command written without its bit, and the states in which the write does more: an uplink that goes DOWN and one
that stays UP, a cell link that leaves, a reply that has left with the write and one that has not, a node of the ring and one that is none. -/
theorem witness_RegisterWrites_beside :
    (∀ a ∈ [A.DICT_FWD_TOTAL, A.DICT_RPL_RD, A.ST_RING_CAL, A.I2C_CMD, A.PRS_CMD, A.SYS_BOOT_TRY], rowAt a = some (a, [])) ∧
    rowAt (A.SDC_CTRL 1) = some (A.SDC_CTRL 0, [1]) ∧ up.settleTimer 31 = up ∧
    (∀ e ∈ ([(0, false), (1, true)] : List (Nat × Bool)),
      let s := ports_.wr (F.UPL_CTL_EN 1) 1 |>.wr F.TMR_REF_REF25_OK 1 |>.wr (F.UPL_STATUS_BLOCK_LOCK 1) 1 |>.wr (F.UPL_STATUS_MOD_ABS 1) 0 |>.wr
        (F.UPL_STATUS_LOS 1) 0
      let s' := after (.registerWrite (BitVec.ofNat 32 (A.UPL_CTL 1)) (BitVec.ofNat 32 e.1)) s
      s.is (F.UPL_STATUS_UP 1) = true ∧ s'.uplUp 1 = e.2 ∧ s'.is (F.UPL_STATUS_UP 1) = e.2 ∧ s'.is (F.UPL_CTL_PAUSE_TX_EN 1) = false) ∧
    (∀ n ∈ [0, 1], let s := ports_.wr (F.CL_CTL_EN 47) 1
      let s' := after (.registerWrite (BitVec.ofNat 32 (A.CL_CTL 47)) (BitVec.ofNat 32 n)) s
      s.rd (F.CL_STATUS_STATE 47) ≠ 0 ∧ s'.is (F.CL_CTL_EN 47) = (n == 1) ∧ s'.rd (F.CL_STATUS_STATE 47) = 2 * n) ∧
    (∀ n ∈ [4, 5], let s := { up.wr F.DICT_RPL_SIZE_SIZE 16 |>.wr F.DICT_RPL_RD_RD 2 |>.wr F.DICT_RPL_WR_WR 5 with
        dict := { up.dict with leaving := [⟨.reset 1, 2, 4⟩] } }
      let s' := after (.registerWrite (BitVec.ofNat 32 A.DICT_RPL_RD) (BitVec.ofNat 32 n)) s
      s.dict.leaving = [⟨.reset 1, 2, 4⟩] ∧ (s'.dict.leaving = [] ↔ n = 5) ∧ s'.dict.reset = if n = 5 then [(1, 0)] else []) ∧
    2 ≤ (node 3 1 0 Ring.init).rd F.RING_STATUS_STATE ∧ (node 1 1 0 Ring.init).rd F.RING_STATUS_STATE < 2 := by decide +kernel
/-- Pools 2 and 15 of two buffers each, four old buffers of two owners of which one is free; room for `top` audit words behind the
first. -/
def audits (top : Nat) : State :=
  { up with acc := 900 * 1000000 * tUnit, pools := [(2, ⟨some ⟨256, 0x1000, 2, 0x2000⟩, none, 0, false⟩),
    (15, ⟨some ⟨256, 0x5000, 2, 0x3000⟩, none, 0, false⟩)] } |>.setWord 0x2000 (mkMeta 1 5 0b10000 100) |>.setWord 0x2008 (mkMeta 2 5 0 100)
    |>.setWord 0x3000 (mkMeta 3 5 0b10000 50) |>.setWord 0x3008 (mkMeta 255 6 0b10000 900) |>.wr F.AUDIT_CTL_BUSY 1
    |>.wr F.AUDIT_MAX_MAX top |>.wr F.AUDIT_POOLS_MASK 0x8004 |>.wr (F.AUD_THR_THR 5) 800 |>.wr (F.AUD_THR_THR 6) 0 |>.wr F.AUDIT_WRITTEN_COUNT 1 |>.wr F.AUDIT_DST_ADDR 0x1004
theorem witness_LeakAudit_scan : (∀ top ∈ [0, 1, 3, 4], let s := audits top
      s.is F.AUDIT_CTL_BUSY = true ∧ s.bad = [] ∧
      (∀ p ∈ [2, 15], (s.rd F.AUDIT_POOLS_MASK).testBit p = true ∧ s.rd (F.POOL_CFG_MODE p) ≠ 2 ∧ (s.pool p).built.isSome = true)) ∧
    (let r := after .auditScanDone (audits 3)
     (List.range 3).map (fun j => (r.word (mbusWindow + 0x1000 + 8 * j)).val.toNat) = [0, 0x20100000 * 2 ^ 32 + 800 * 2 ^ 16 + 5 * 2 ^ 8,
       0xF0300000 * 2 ^ 32 + 850 * 2 ^ 16 + 5 * 2 ^ 8] ∧
     r.is F.AUDIT_WRITTEN_TRUNC = true ∧ r.rd F.AUDIT_WRITTEN_COUNT = 3 ∧ r.rd (F.AUD_OLD_COUNT 5) = 2 ∧ r.rd (F.AUD_MAXAGE_AGE 5) = 850 ∧
     r.rd (F.AUD_OLDEST_HANDLE 5) = 0xF0300000 ∧ r.rd (F.AUD_OLD_COUNT 6) = 1) ∧
    (after .auditScanDone (audits 4)).is F.AUDIT_WRITTEN_TRUNC = false ∧
    (after .auditScanDone (audits 0)).rd F.AUDIT_WRITTEN_COUNT = 1 := by decide +kernel
/-- A channel that is being initialised, and one that has been, with the reference and without. -/
theorem witness_MemoryCommands_reference : ∀ n ∈ [0, 1],
    let s := ({ up with sdcInit := [(1, true)] }.wr F.TMR_REF_REF25_OK n).wr (F.SDC_STATUS_INIT_DONE 0) 1
    s.initRuns 1 = true ∧ s.is F.TMR_REF_REF25_OK = (n == 1) ∧ s.is (F.SDC_STATUS_INIT_DONE 0) = true ∧ s.is (F.SDC_STATUS_FILL_DONE 0) = false ∧
    ((after (.sdramInitDone 1 none) s).initRuns 1 = (n == 0)) ∧ (after (.sdramFillDone 0) s).is (F.SDC_STATUS_FILL_DONE 0) = (n == 1) := by
  decide +kernel

/-- A frame of `n` bytes of a destination and a type. -/
def aFrame (dst : List Byte) (rest : List Byte) (n : Nat) : List Byte :=
  fcs (dst ++ [2, 3, 4, 5, 6, 7] ++ rest ++ List.replicate (n - 16 - rest.length) 9)
/-- Uplink 1 takes group addresses and its own, stamps events where `rx`, every frame where `all`, with `n` entries in its FIFO. -/
def stamping (rx all n : Nat) : State := { ports_ with
  pools := [(1, ⟨some ⟨128, 0x1000, 4, 0x2000⟩, none, 1, false⟩)]
  ts := [(2, List.replicate n (⟨0, 0, 0, 0, 0, 0⟩ : TsEntry)), (3, List.replicate n (⟨0, 0, 0, 0, 0, 0⟩ : TsEntry))] } |>.wr (F.UPL_CTL_PROMISC 1) 0
  |>.wr (F.UPL_PTP_CTL_RX_EN 1) rx |>.wr (F.UPL_PTP_CTL_TX_EN 1) rx |>.wr (F.UPL_PTP_CTL_RX_ALL 1) all |>.wr (F.UPL_MAC_LO_MAC 1) 0x02030405
  |>.wr (F.UPL_MAC_HI_MAC 1) 1
def ownMac : List Byte := [0, 1, 2, 3, 4, 5]
/-- A frame for each cause for which an uplink drops it, at the ends of the lengths, with the counters of its cause. -/
theorem witness_UplinkFrames_drops : let s := stamping 1 0 1
    (s.alloc 1 0).2 = .ok ⟨128, 0x1000, 4, 0x2000⟩ 1 1 ∧
    (∀ e ∈ ([(aFrame ownMac [8, 0] 69, false, F.UPL_RX_TOO_LONG_CNT_COUNT 1), (aFrame ownMac [8, 0] 68, true, F.UPL_RX_CODE_ERR_CNT_COUNT 1),
        (aFrame ownMac [8, 0] 63, false, F.UPL_RX_SIZE_ERR_CNT_COUNT 1), ((aFrame ownMac [8, 0] 64).set 40 0, false, F.UPL_RX_FCS_ERR_CNT_COUNT 1),
        (aFrame [0, 1, 2, 3, 4, 6] [8, 0] 64, false, F.UPL_RX_FILTERED_CNT_COUNT 1),
        (aFrame ownMac [0x88, 8, 0, 2] 64, false, F.UPL_RX_MACCTL_CNT_COUNT 1)] : List (List Byte × Bool × Fld)),
      let r := after (.uplinkFrameReceive 1 e.1 e.2.1 4000000) s
      r.rd e.2.2 = 1 ∧ r.rd (F.UPL_RX_DROP_CNT_COUNT 1) = 1 ∧ r.frames = [] ∧ r.ts = s.ts) ∧
    (∀ e ∈ ([aFrame ownMac [8, 0] 64, aFrame [1, 0, 0, 0, 0, 0] [8, 0] 68] : List (List Byte)),
      (after (.uplinkFrameReceive 1 e false 4000000) s).rd (F.UPL_RX_OK_CNT_COUNT 1) = 1) := by decide +kernel
/-- An event message, another PTP message and a frame that is none, with a place in the FIFO and without. -/
theorem witness_UplinkFrames_stamps :
    (∀ e ∈ ([(1, 0, 64, 0x88F7, 2, 64, 1), (1, 0, 63, 0x88F7, 0x1B, 63, 0), (1, 1, 63, 0x0800, 2, 64, 0)] :
        List (Nat × Nat × Nat × Nat × Nat × Nat × Nat)),
      let s := stamping e.1 e.2.1 e.2.2.1
      let b := aFrame ownMac [BitVec.ofNat 8 (e.2.2.2.1 / 256), BitVec.ofNat 8 e.2.2.2.1, BitVec.ofNat 8 e.2.2.2.2.1, 2, 0, 44, 7] 64
      let data := b.take (b.length - 4)
      let r := after (.uplinkFrameReceive 1 b false 4000000) s
      ptpOff (s.is (F.UPL_PTP_CTL_UDP_EN 1)) data = (if e.2.2.2.1 = 0x88F7 then some 14 else none) ∧
      byteAt data 14 % 16 = e.2.2.2.2.1 % 16 ∧ (s.tsFifo 1 false).length = e.2.2.1 ∧ (r.tsFifo 1 false).length = e.2.2.2.2.2.1 ∧
      r.rd (F.RXTS_OVF_CNT_COUNT 1) = e.2.2.2.2.2.2) := by decide +kernel
/-- A frame of the longest length that each kind of port sends, and one byte longer. -/
theorem witness_Transmission_lengths :
    (∀ e ∈ ([(47, 528, 1), (47, 529, 0), (65, 9212, 1), (65, 9213, 0)] : List (Nat × Nat × Nat)),
      let s := { ports_ with txq := [(e.1, ⟨[⟨⟨0x40, 0x1030000000000040⟩, e.1, e.2.1, 3⟩], []⟩)] }
      let r := after (.frameTransmit (BitVec.ofNat 8 e.1) 0) s
      (s.txOf e.1).queue = [⟨⟨0x40, 0x1030000000000040⟩, e.1, e.2.1, 3⟩] ∧ s.portUp e.1 = true ∧ s.is (F.UPL_STATUS_PAUSED 1) = false ∧
      r.out.length = e.2.2 ∧ r.rd (F.UPL_TX_LEN_ERR_CNT_COUNT 1) + r.rd (F.CL_TX_LEN_ERR_CNT_COUNT 47) = 1 - e.2.2) := by decide +kernel
/-- An event message and a general one that have been sent, with a place in the FIFO and without. -/
theorem witness_Transmission_stamps :
    (∀ e ∈ ([(1, 63, 2, 64, 0), (1, 64, 2, 64, 1), (1, 64, 11, 64, 0), (0, 63, 2, 63, 0)] : List (Nat × Nat × Nat × Nat × Nat)),
      let s := { stamping e.1 0 e.2.1 with txq := [(65, ⟨[⟨⟨0x40, 0x1030000000000040⟩, 65, 60, 3⟩], []⟩)] }.portWrite 0x1040
        (ownMac ++ ownMac ++ [0x88, 0xF7, BitVec.ofNat 8 e.2.2.1, 2, 0, 44, 7])
      let r := after (.frameTransmit 65 4000000) s
      ptpOff (s.is (F.UPL_PTP_CTL_UDP_EN 1)) ((s.setTx 65 PortQ.empty).readBytes 0x1040 60).2.bytes = some 14 ∧
      r.out.length = 1 ∧ (r.tsFifo 1 true).length = e.2.2.2.1 ∧ r.rd (F.TXTS_OVF_CNT_COUNT 1) = e.2.2.2.2) := by decide +kernel
/-- A parsed frame of port 65 with fragment flags `fl`; rule 4095 catches it where `rule`, its verdict `v` and its group `g`, and the
miss action has the same; follow entries of another port, and one of its key where `same`. -/
def classified (v g fl : Nat) (rule mode : Bool) (n : Nat) (same : Bool) : State :=
  let a := v * 2 ^ 30 + 6 * 2 ^ 27 + g * 2 ^ 23 + 100 * 2 ^ 11
  let s := { framed true with cls := { up.cls with rules := if rule then [(16 * 4095 + 13, BitVec.ofNat 32 a), (16 * 4095 + 15, 0xC801)] else [] } }
    |>.wr F.CLS_VER_CUR 200 |>.wr F.CLS_SLOW_DOMAIN 77 |>.wr F.CLS_SLOW_GROUP 0 |>.wr F.CLS_MISS_ACTION_HI_ACTION a |>.setWord 0x1018 (dat ((4 + fl) * 2 ^ 48))
    |>.setReg A.CLS_FRAG_MODE_1 (if mode then 0x20000 else 0)
  let e : Follow := ⟨65, s.profKeys (s.readBytes 0x1000 64).2.bytes 0 0, 7, some 9, ⟨false, 4, 2, 33, 0xABCD⟩, 0⟩
  { s with cls := { s.cls with follow := List.replicate n { e with port := 3 } ++ if same then [e] else [] } }
/-- The outcome of the head frame: what stands in the tasks, the miss, slow, drop, hit, absence and full counters. -/
def outcome (s : State) : List Nat := let r := after .classify s
  [r.tasks.length, r.rd F.CLS_MISS_CNT_COUNT, r.rd F.CLS_SLOW_CNT_COUNT, r.rd F.CLS_DROP_CNT_COUNT, r.rd F.CLS_FRAG_HIT_CNT_COUNT,
    r.rd F.CLS_FRAG_MISS_CNT_COUNT, r.rd F.CLS_FRAG_FULL_CNT_COUNT, r.cls.follow.length]
theorem witness_Classification_flags : ∀ fl ∈ [0, 1, 2, 3],
    let rcd := ((classified 0 3 fl true true 0 false).readBytes 0x1000 64).2.bytes
    (halfAt rcd 24).testBit 0 = fl.testBit 0 ∧ (halfAt rcd 24).testBit 1 = fl.testBit 1 ∧
    (classified 0 3 fl true true 0 false).followMode 65 = true ∧ (classified 0 3 fl true false 0 false).followMode 65 = false := by
  decide +kernel
theorem witness_Classification_verdicts :
    (classified 0 3 0 false true 0 false).winner ((classified 0 3 0 false true 0 false).readBytes 0x1000 64).2.bytes 0 200 = none ∧
    (classified 0 3 0 true true 0 false).winner ((classified 0 3 0 true true 0 false).readBytes 0x1000 64).2.bytes 0 200 = some 4095 ∧
    (classified 0 3 0 true true 0 false).admits 3 = true ∧ (classified 0 3 0 true true 0 false).admits 0 = true ∧
    outcome (classified 0 3 0 false true 0 false) = [1, 1, 0, 0, 0, 0, 0, 0] ∧ outcome (classified 1 3 0 false true 0 false) = [0, 1, 0, 1, 0, 0, 0, 0] ∧
    outcome (classified 2 3 0 true true 0 false) = [1, 0, 0, 0, 0, 0, 0, 0] ∧ outcome (classified 1 15 0 true true 0 false) = [1, 0, 0, 0, 0, 0, 0, 0] ∧
    outcome ((classified 2 3 0 true true 0 false).wr (F.GRP_MIN_MIN 0) 0 |>.wr (F.GRP_MIN_DYNAMIC 0) 0) = [0, 0, 0, 0, 0, 0, 0, 0] := by decide +kernel
/-- Fragments: not followed, first and later, with an entry and without. -/
theorem witness_Classification_fragments :
    outcome (classified 0 3 1 true false 0 false) = [1, 0, 1, 0, 0, 0, 0, 0] ∧ outcome (classified 0 3 1 true true 0 false) = [1, 0, 0, 0, 0, 0, 0, 1] ∧
    outcome (classified 0 3 1 true true 0 true) = [1, 0, 0, 0, 0, 0, 0, 1] ∧ outcome (classified 0 3 2 true true 0 true) = [1, 0, 0, 0, 1, 0, 0, 1] ∧
    outcome (classified 0 3 3 true true 1 false) = [1, 0, 0, 0, 0, 1, 0, 1] := by decide +kernel
/-- A follow table of 1,023 entries of other frames has a place, one of 1,024 has none. -/
theorem witness_Classification_table (n : Nat) : let e : Follow := ⟨3, [], 7, some 9, ⟨false, 4, 2, 33, 0xABCD⟩, 0⟩
    ((List.replicate n e).filter (fun x => !(x.port == 65 && x.keys == ([] : List Nat)))).length = n := by simp

/-- The second LINK_ACK 1,001 ns before the end of the cycle of the splice, and 1 µs before; and without the reference. -/
theorem witness_RingLinks_early : ∀ n ∈ [998999, 999000],
    let s := node 2 1 n { Ring.init with splice := 1000, ports := [(0, { RPort.init with ack := true })] }
    let r := after (.linkAckReceive 1 33 5) s
    s.rd F.RING_STATUS_STATE = 2 ∧ s.ring.direct = false ∧ (s.rport 0).ack = true ∧
    (s.ringNow + 1000 < (s.ring.splice + 1) * (s.ringTimes.1 * 1000) ↔ n = 998999) ∧
    r.rd F.RING_STATUS_STATE = (if n = 998999 then 3 else 2) ∧ r.rd (F.PORT_STATUS_PEER_ADDR 1) = 33 ∧
    after (.linkAckReceive 1 33 5) (s.wr F.TMR_REF_REF25_OK 0) = s.wr F.TMR_REF_REF25_OK 0 ∧
    after (.ringBlockLock 1 true) (s.wr F.TMR_REF_REF25_OK 0) = s.wr F.TMR_REF_REF25_OK 0 := by decide +kernel
/-- A master's own SWEEP comes back with a wrong CRC. -/
theorem witness_RingCycle_bad :
    let s := (node 3 3 0 { Ring.init with sweepOut := true, cycle := some 1000, heard := 5 }).wr F.RING_CYCLE_NUM_CYCLE 1000
    let b := (sweepF 12).set 20 0
    headerOk b = true ∧ ringCrcOk b = false ∧ (RFrame.of b).type = 1 ∧ (RFrame.of b).src = 12 ∧ (RFrame.of b).cycle = 1000 ∧
    (let r := after (.sweepReturn (got b)) s
     r.ring.sweepOut = false ∧ r.ring.heard = 5 ∧ r.is F.SWEEP_ATTEND_STAT_STALE = true ∧ r.rd F.SWEEP_BAD_CNT_COUNT = 1) ∧
    after (.sweepReturn (got (sweepF 12))) (s.wr F.TMR_REF_REF25_OK 0) = s.wr F.TMR_REF_REF25_OK 0 := by decide +kernel
/-- Another node's SWEEP reaches a master on either port; a LINK frame from a peer three bypassed seats away and from one four, whose
arrival resolves to half a nanosecond. -/
theorem witness_RingForwarding_reach :
    (∀ p : Fin 2, let s := node 3 3 0 { Ring.init with heard := 5 }
      let r := after (.ringFrameReceive p (got (sweepF 7))) s
      s.rd F.RING_STATUS_ROLE = 3 ∧ s.rd (F.PORT_STATUS_LINK 0) ≠ 1 ∧ s.rd (F.PORT_STATUS_LINK 1) ≠ 1 ∧ (RFrame.of (sweepF 7)).dst = 255 ∧
      r.ring.heard = s.nowNs ∧ r.rd F.RING_STATUS_MASTER = s.rd F.RING_STATUS_MASTER ∧ r.out.length = 1) ∧
    (∀ e ∈ ([(8, 3, 2), (7, 4, 0)] : List (Nat × Nat × Nat)),
      let s := (linked 2 (node 3 1 0 { Ring.init with ports := [(1, { RPort.init with removed := some 999 })] })).wr F.RING_SIZE_SIZE 64
      let b := rf 5 255 7 2 ([BitVec.ofNat 8 e.1, 0, 0, 0] ++ beBytes 8 1000000000 ++ beBytes 8 999999000 ++ beBytes 8 999999031)
      let r := after (.linkFrameReceive 1 ⟨b, false, BitVec.ofNat 96 (1000000030 * 2 ^ 32 + 2 ^ 31), 0⟩) s
      headerOk b = true ∧ ringCrcOk b = true ∧ s.bypassed 1 e.1 = e.2.1 ∧ r.rd (F.PORT_STATUS_LINK 1) = e.2.2 ∧
      r.rd (F.PORT_DELAY_DELAY 1) = (if e.2.1 = 4 then 0 else 307)) := by decide +kernel

/-- READ of an entry that a register field backs and of one that a pair backs. -/
theorem witness_DictRequests_backed_read : ∀ e ∈ ([(0x200, 2), (0x900, 6)] : List (Nat × Nat)),
    let m := bare 1 0 (rBody e.1 e.2)
    let s := engine 2 m |>.wr F.PWR_VSAFE_MV 612 |>.setReg A.PWR_ENV_MAX 601
    m.wellFormed = true ∧ m.body.length = 8 ∧ s.auth m = some 0 ∧ halfAt m.body 0 = e.1 ∧ byteAt m.body 2 = e.2 ∧ beNat ((m.body.drop 4).take 4) = 0 ∧
    (match s.lookup false e.1 e.2 with
      | .inl x => !x.fw && meets x.rd 0 && (typeSize x.type).isSome && (match x.back with
        | .reg _ => e.1 == 0x200 | .pair _ _ => e.1 == 0x900 | _ => false) | _ => false) = true ∧
    (after .read s).dict.pending.length = 1 := by decide +kernel
/-- WRITE and posted WRITE of a field, of a command bit with 0, and of a pair. -/
theorem witness_DictRequests_backed_write : ∀ e ∈ ([(2, 0x200, 2, 3, 2, 601), (3, 0x803, 1, 1, 1, 0), (3, 0x900, 6, 5, 8, 0x123456789)] :
      List (Nat × Nat × Nat × Nat × Nat × Nat)),
    let m := signed e.1 (wBody e.2.1 e.2.2.1 e.2.2.2.1 e.2.2.2.2.1 e.2.2.2.2.2)
    let s := engine 2 m
    m.wellFormed = true ∧ m.service = e.1 ∧ m.body.length = 8 + halfAt m.body 4 ∧ (e.2.1 = 0x900 → s.auth m = some 2) ∧ byteAt m.body 3 = e.2.2.2.1 ∧
    beNat (m.body.drop 8) = e.2.2.2.2.2 ∧
    (match s.lookup true e.2.1 e.2.2.1 with
      | .inl x => !x.fw && meets x.wr 2 && x.states.testBit 2 && x.type == e.2.2.2.1 && x.lengthOk (halfAt m.body 4) && x.rangeOk (m.body.drop 8) &&
          (match x.back with
            | .reg f => decide (f ≠ F.DICT_STATE_CMD_CMD) && ((f.width == 1 && fldAcc f == .wo) == (e.2.1 == 0x803))
            | .pair _ _ => e.2.1 == 0x900 | _ => false) | _ => false) = true := by decide +kernel

/-- PCORE_RST of both cores, with no exchange and with one whose target is either; the cause of a reset at power-up and after
SYSRST_n. -/
theorem witness_Resets_exchange :
    (∀ e ∈ ([none, some ⟨0, 0x20000, []⟩, some ⟨1, 0x20000, []⟩] : List (Option PcExch)), ∀ on ∈ [0, 1],
      let s := { up with field := { up.field with exch := e } }.wr F.SYS_PCORE_CTL_RUN_1 on |>.wr (F.SYS_PCORE_ENTRY_LO_ENTRY 0) 0x20004 |>.wr
        (F.SYS_PCORE_ENTRY_LO_ENTRY 1) 0x20004
      let r := after (.pcoreReset 3) s
      s.mainOn = true ∧ s.boot.romHalt = false ∧ s.is F.SYS_PCORE_CTL_RUN_1 = (on == 1) ∧
      (r.th 192).life = (if e.map PcExch.target = some 0 then .offline else .running) ∧
      (r.th 193).life = (if e.map PcExch.target = some 1 ∨ on = 0 then .offline else .running)) ∧
    State.reset.rd F.SYS_RST_CAUSE_CAUSE / 2 = 0 ∧ (State.reset.wr F.SYS_RST_CAUSE_CAUSE 4).rd F.SYS_RST_CAUSE_CAUSE / 2 ≠ 0 ∧
    (after .porstNRelease State.reset).rd F.SYS_RST_CAUSE_CAUSE = 3 := by decide +kernel

/-- A part whose transitions stand as `l` says, each with INTENT alone (0) or with DONE too (1), and one more word programmed. -/
def fused (l : List (Nat × Nat)) (x : List (Nat × BitVec 32)) : State := { up with
  phase := .boot, boot := { Boot.init with otp := l.flatMap (fun e => three (intentAt e.1) (intentWord e.1) ++ (if e.2 = 1 then
    three (doneAt e.1) (doneWord e.1) else [])) ++ x } }
/-- A pending transition to each state: every word that its roll-forward programs can be programmed; for PROVISIONED without a record,
for FIELD without a key slot; and one whose word holds a bit that does not belong there. -/
theorem witness_LifeCycle_targets :
    (∀ e ∈ ([(1, [(1, 0)], []), (2, [(1, 1), (2, 0)], [(0x40, 5)]), (3, [(1, 1), (2, 1), (3, 0)], []), (4, [(1, 1), (4, 0)], [])] :
        List (Nat × List (Nat × Nat) × List (Nat × BitVec 32))),
      let s := fused e.2.1 e.2.2
      s.booting = true ∧ s.lcPending = e.1 ∧ s.supply.pfailHigh = true ∧ s.supply.fuseOk = true) ∧
    (∀ x ∈ provWords provided ++ three (intentAt 1) (intentWord 1) ++ three (doneAt 1) (doneWord 1),
      (fused [(1, 0)] []).otpWord x.1 ||| x.2 = x.2) ∧ recordOk [] = false ∧
    (∀ x ∈ three (intentAt 4) (intentWord 4) ++ three (doneAt 4) (doneWord 4), (fused [(1, 1), (4, 0)] []).otpWord x.1 ||| x.2 = x.2) ∧
    (∀ x : BitVec 32, x ||| 0xFFFFFFFF = 0xFFFFFFFF) ∧ (∀ n, n < 4 → (fused [(1, 1), (2, 0)] []).slotLive n = false) ∧
    (let s := fused [(1, 1), (2, 1), (3, 0)] [(0x2F, 8)]
     s.lcPending = 3 ∧ (0x2F, doneWord 3) ∈ three (doneAt 3) (doneWord 3) ∧ ¬ s.otpWord 0x2F ||| doneWord 3 = doneWord 3) := by
  refine ⟨by decide +kernel, by decide +kernel, by decide +kernel, by decide +kernel, fun x => BitVec.or_allOnes, by decide +kernel,
    by decide +kernel⟩
theorem witness_LifeCycle_rolls :
    (let r := after (.lcRollForward [] none) (fused [(1, 1), (2, 1), (3, 0)] [])
     r.rd F.SYS_LC_STATE = 3 ∧ r.otpWord 0x87 = 0xFFFFFFFF) := by decide +kernel
/-- Recovery waits for the reset of P-core 0, and for nothing once that has begun. -/
theorem witness_BootSlots_serving : recov.boot.serving = true ∧ recov.romServes = true ∧
    (after (.pcoreReset 1) recov).boot.serving = false ∧ (after (.pcoreReset 1) recov).romServes = false := by decide +kernel
/-- GO with VCORE on and off. -/
theorem witness_HostPorts_vcore : ∀ on ∈ [false, true], let s := { up with vcoreOn := on }.wr F.I2C_CTL_EN 1
    s.mainOn = true ∧ s.is F.I2C_STAT_BUSY = false ∧ (after (.i2cGo 0x80030105) s).host.pmbDue = on := by decide +kernel
/-- A register that is plain, the fuses' commands and the always-on action, by the address that the debug port gives. -/
theorem witness_DebugPort_registers :
    (∀ a ∈ [A.SYS_LC_CMD, A.SYS_OTP_OP, A.SYS_AON_RST, A.PWR_ENV_MAX], up.locate 192 (a + 3) = .mbus (a + 3) ∧ (a + 3) / 4 * 4 = a) ∧
    up.dbgLevel ≠ 0 ∧ up.txq = [] ∧
    (after (.debugWrite (BitVec.ofNat 40 A.PWR_ENV_MAX) 601) up).rd F.PWR_ENV_MAX_MV = 601 ∧
    (after (.debugWrite (BitVec.ofNat 40 A.SYS_AON_RST) 0xA0A0) ({ up with acc := 5 })).acc = 0 ∧
    (after (.debugRead (BitVec.ofNat 40 A.PWR_ENV_MAX)) (up.wr F.PWR_ENV_MAX_MV 601)).out = [Output.reply ([0, 0] ++ beBytes 8 601)] := by
  decide +kernel
/-- A commit with every thread IDLE or OFFLINE; a thread of the old program that is the last one and one that is not; a P-core's
exchange with two segments, the second of five bytes over a POISON word. -/
theorem witness_ProgramExchange_ends :
    (let s := (up.modTh 0 (fun x => { x with life := .idle })).modTh 191 (fun x => { x with life := .offline, epoch := 3 })
     let r := after .exchCommit s
     s.is F.EXCH_STATUS_BUSY = false ∧ twf Thread.init s.threads = true ∧ s.threads.all (fun e => (e.2.life == .idle || e.2.life == .offline) &&
       !e.2.oldProg) = true ∧ r.is F.EXCH_STATUS_BUSY = false ∧ r.recorder.offered.map Rec.code = [0x30, 0x31]) ∧
    (∀ left ∈ [1, 2], let s := (run.modTh 0 (fun x => { x with oldProg := true })).wr F.EXCH_STATUS_OLD_LEFT left |>.wr F.EXCH_STATUS_BUSY 1
      let r := after (.getwork 0) s
      ((s.th 0).life == .running && (s.fetch 0).2.isNone) = true ∧ ((at_ s 0).th 0).oldProg = true ∧ ((at_ s 0).th 0).held = none ∧
      ((at_ s 0).th 0).failedJob = none ∧ r.is F.EXCH_STATUS_BUSY = (left == 2) ∧ r.rd F.EXCH_STATUS_OLD_LEFT = left - 1) ∧
    (let segs : List (Nat × List Byte) := [(0x1000, [1, 2, 3, 4, 5, 6, 7, 8]), (0x77FF8, [1, 2, 3, 4, 5])]
     let s := { up with field := { up.field with exch := some ⟨1, 0x20004, segs⟩ } } |>.setWord (mbusWindow + 0x77FF8) bad
     let r := after .pcoreExchangeDone s
     segs.Pairwise (fun a b => a.1 + a.2.length ≤ b.1 / 8 * 8 ∨ b.1 + b.2.length ≤ a.1 / 8 * 8) ∧
     (∀ g ∈ segs, g.1 % 8 = 0 ∧ g.1 + g.2.length ≤ 0x78000) ∧
     (r.word (mbusWindow + 0x1000)).val = 0x0102030405060708 ∧ (r.word (mbusWindow + 0x77FF8)) = ⟨0, 0x0102030405000000⟩ ∧
     r.recorder.offered.map Rec.code = [0x32]) := by decide +kernel
end Sys2Proof.Tests
end

/-! ### The block as a whole: a step, the commands that go on, the state after reset -/

namespace Sys2Proof.Machine

open Sys2Proof.Safety

/-- A step on a queue that holds a command. -/
@[simp] theorem step_cons (c : Instr) (rest : List Instr) (s : State) :
    step { s with pending := c :: rest } = exec c { s with pending := rest } := rfl

/-- A step on an empty queue. -/
theorem step_nil {s : State} (h : s.pending = []) : step s = .next s := by
  unfold step
  rw [h]

/-- Settles O1: the two arms of the step. -/
theorem stepRunsFrontCommand : Obligations.StepRunsFrontCommand :=
  ⟨step_cons, fun _ => step_nil⟩

/-- A RESERVED_OPCODE goes on where its word decodes to no instruction (spec/04 R122). -/
theorem exec_reservedOpcode_next {t : Tid} {w : BitVec 32} (h : (decodeIsa t w).isNone = true) (s : State) :
    exec (.reservedOpcode t w) s = .next (s.issue t.val .a [] (fun s => s.illegal (.reservedOpcode t w))) :=
  if_neg (by simpa using h)

/-- A RESERVED_OPCODE whose word decodes spells no row. -/
theorem exec_reservedOpcode_fault {t : Tid} {w : BitVec 32} (h : (decodeIsa t w).isNone = false) (s : State) :
    exec (.reservedOpcode t w) s = .fault .illFormed :=
  if_pos (by simpa [Option.isSome_iff_ne_none] using h)

/-- A THERMAL_SAMPLE goes on where it holds fourteen readings (spec/15 R548). -/
theorem exec_thermalSample_next {temps : List (BitVec 16)} (h : temps.length = 14) (s : State) :
    exec (.thermalSample temps) s = .next (if s.phase == .standby then s else s.thermal temps) :=
  if_neg (not_not_intro h)

/-- A THERMAL_SAMPLE of another number of readings spells no row. -/
theorem exec_thermalSample_fault {temps : List (BitVec 16)} (h : temps.length ≠ 14) (s : State) :
    exec (.thermalSample temps) s = .fault .illFormed := if_pos h

/-- A well-formed command answers a next state: but for the two rows whose operands can be ill-formed, every meaning is a
`.next` of a total function. -/
theorem exec_next_of_wellFormed {c : Instr} (h : c.wellFormed = true) (s : State) : ∃ t, exec c s = .next t := by
  cases c with
  | reservedOpcode t w => exact ⟨_, exec_reservedOpcode_next h s⟩
  | thermalSample temps => exact ⟨_, exec_thermalSample_next (beq_iff_eq.1 h) s⟩
  | _ => exact ⟨_, rfl⟩

/-- An ill-formed command is one of the two that fault. -/
theorem exec_fault_of_not_wellFormed {c : Instr} (h : c.wellFormed = false) (s : State) : exec c s = .fault .illFormed := by
  cases c with
  | reservedOpcode t w => exact exec_reservedOpcode_fault h s
  | thermalSample temps => exact exec_thermalSample_fault (beq_eq_false_iff_ne.1 h) s
  | _ => exact nomatch h

/-- Settles O2, by the constructors of the commands. -/
theorem wellFormedCommandsGoOn : Obligations.WellFormedCommandsGoOn :=
  fun _ s => ⟨fun h => exec_next_of_wellFormed h s, fun h => exec_fault_of_not_wellFormed h s⟩

/-! The state after reset lists no register, no word and no thread, so each reads as its default. -/

@[simp] theorem State.reg_reset (a : Nat) : State.reset.reg a = regReset a := rfl

@[simp] theorem State.th_reset (t : Nat) : State.reset.th t = Thread.init t := rfl

@[simp] theorem State.w_reset (t r : Nat) : State.reset.w t r = Word.zero := ite_self _

/-- A word outside the boot ROM's image is value 0 with tag DATA (spec/02 R50). -/
theorem State.word_reset {k : Nat} (h : ¬ (mbusWindow + 0x10000000 ≤ k ∧ k < mbusWindow + 0x10010000)) :
    State.reset.word k = Word.zero := if_neg h

/-- A worker thread starts in group 15 where it is local thread 3 or 19 (spec/03 R87). -/
theorem Thread.init_group {n : Nat} (h : n < 192) :
    (Thread.init n).group = if n % 32 = 3 ∨ n % 32 = 19 then 15 else 0 := by
  simp [Thread.init, h]

/-- The empty tables of the reset state are in canonical form. -/
theorem canonical_reset : canonical State.reset := ⟨rfl, rfl, rfl, rfl⟩

/-- Settles O3: every table of the reset state is empty and reads as its default. -/
theorem resetValues : Obligations.ResetValues :=
  ⟨State.reg_reset, fun _ => State.word_reset,
    fun t => ⟨rfl, State.w_reset t.val, Thread.init_group t.isLt⟩, rfl, rfl, canonical_reset⟩

/-! ### Register writes: a reserved bit that outlives a write -/

/-- A write to CLS_FRAG_CTL without FLUSH replaces the field PROFILE and no other bit of the register (spec/08 R300). -/
theorem State.testBit_writeFragCtl (s : State) {v : BitVec 32} (hv : v.toNat.testBit 8 = false) {j : Nat}
    (hlo : 4 ≤ j) (hhi : j < 32) :
    ((s.writeFragCtl v).reg A.CLS_FRAG_CTL).toNat.testBit j = (s.reg A.CLS_FRAG_CTL).toNat.testBit j := by
  have hw : s.writeFragCtl v = s.wr F.CLS_FRAG_CTL_PROFILE (bits v.toNat 0 4) := by simp [State.writeFragCtl, hv]
  rw [hw, State.wr, show F.CLS_FRAG_CTL_PROFILE = ⟨A.CLS_FRAG_CTL, 0, 4⟩ from rfl, State.reg_setReg_self, BitVec.toNat_ofNat,
    Nat.testBit_mod_two_pow, testBit_putBits, if_neg (by dsimp only; omega)]
  simp [hhi]

/-- The row of CLS_FRAG_CTL in the register map (spec/08 R304). -/
def fragCtlRow : RegRow := ⟨A.CLS_FRAG_CTL, [], false, [⟨0, 4, .rw, 0⟩, ⟨8, 1, .wo, 0⟩, ⟨16, 1, .ro, 0⟩]⟩

theorem regRow_fragCtl : regRow A.CLS_FRAG_CTL = some (fragCtlRow, []) := by decide

/-- While the main domains run, a REGISTER_WRITE to CLS_FRAG_CTL is `writeFragCtl`. -/
theorem exec_registerWrite_fragCtl {s : State} (h : s.mainOn = true) (v : BitVec 32) :
    exec (.registerWrite (BitVec.ofNat 32 A.CLS_FRAG_CTL) v) s = .next (s.writeFragCtl v) := by
  have ha : (BitVec.ofNat 32 A.CLS_FRAG_CTL).toNat = A.CLS_FRAG_CTL := by decide
  change Host.Outcome.next (s.whenOn fun s => s.mbusWrite (BitVec.ofNat 32 A.CLS_FRAG_CTL).toNat v) = _
  rw [ha, State.whenOn, if_pos h, State.mbusWrite, regRow_fragCtl]
  rfl

/-- A running machine whose CLS_FRAG_CTL holds a 1 in bit 31, which no field names. -/
def reservedBitSet : State := { State.reset with phase := .up }.setReg A.CLS_FRAG_CTL 0x80000000

/-- Refutes O34: it asks of every state, also of one whose registers hold a 1 in a reserved bit, that a write without FLUSH to
CLS_FRAG_CTL leaves 0 in the bits that no field names, while `writeFragCtl` (as the writes to AUDIT_CTL and MEMECC_CTRL) sets
its fields one by one and keeps the rest of the register. Bit 31 of `reservedBitSet` is 1 before a write of 0 and after it. -/
theorem not_registerWrites : ¬ Obligations.RegisterWrites := by
  unfold Obligations.RegisterWrites
  intro h
  obtain ⟨-, hrow⟩ := h (BitVec.ofNat 32 A.CLS_FRAG_CTL) 0 reservedBitSet
  obtain ⟨-, -, -, -, -, -, -, -, -, hcls, -⟩ := hrow fragCtlRow [] rfl regRow_fragCtl (by decide)
  obtain ⟨-, -, -, hfrag, -⟩ := hcls (by decide)
  obtain ⟨s', hs', -, -, hzero⟩ := (hfrag rfl).2 rfl
  rw [exec_registerWrite_fragCtl rfl] at hs'
  obtain rfl := Host.Outcome.next.inj hs'
  have hkept := reservedBitSet.testBit_writeFragCtl (v := 0) rfl (j := 31) (by decide) (by decide)
  have hset : (reservedBitSet.reg A.CLS_FRAG_CTL).toNat.testBit 31 = true := by
    rw [reservedBitSet, State.reg_setReg_self]; decide
  have hclear := hzero 31 (by decide)
  exact absurd (hclear.symm.trans (hkept.trans hset)) (by decide)

end Sys2Proof.Machine
